-- ==== Sys2Proof/Word.lean ====
section
/-! DEFINITION. The plain data the hub is made of: bytes, and the two containers every table uses
(a pair indexed by the two trunks, a vector indexed by a numbered instance). -/

namespace Sys2Proof

/-- A byte of a packet, a colour or the boot flash (spec 00 section 1.4.1). -/
abbrev Byte := BitVec 8

/-- The two trunk ports (spec 00 section 1.2). TA faces cab end A, TB cab end B. -/
inductive Trunk where
  | ta
  | tb
deriving DecidableEq, Repr

/-- The trunk at the other end of the hub. -/
def Trunk.other : Trunk → Trunk
  | .ta => .tb
  | .tb => .ta

/-- One thing for each trunk. -/
structure Duo (α : Type) where
  ta : α
  tb : α
deriving DecidableEq, Repr

/-- The member of a pair that belongs to a trunk. -/
def Duo.get {α : Type} (d : Duo α) : Trunk → α
  | .ta => d.ta
  | .tb => d.tb

/-- The pair with one member changed. -/
def Duo.upd {α : Type} (d : Duo α) (t : Trunk) (f : α → α) : Duo α :=
  match t with
  | .ta => { d with ta := f d.ta }
  | .tb => { d with tb := f d.tb }

/-- The entry of a numbered table. -/
def Tab.get {α : Type} {n : Nat} (v : Vector α n) (i : Fin n) : α := v[i.val]

/-- The table with one entry changed. -/
def Tab.upd {α : Type} {n : Nat} (v : Vector α n) (i : Fin n) (f : α → α) : Vector α n :=
  v.set i.val (f v[i.val]) i.isLt

end Sys2Proof
end

