-- ==== Sys2Proof/Syntax.lean ====
section
/-! DEFINITION. The commands of the hub: one constructor for each row of spec/opcode_table.json, in the table's order. -/

namespace Sys2Proof

/-- The ten ports (spec 00 section 1.2): camera ports CP0..CP7, trunk ports TA and TB. -/
inductive Port where
  | cam (i : Fin 8)
  | trunk (t : Trunk)
deriving DecidableEq, Repr

/-- Why a packet is a framing fault while its link stays UP (R1). -/
inductive FramingCause where
  /-- A START arrives before the open packet has been closed; it opens a new packet. -/
  | startInside
  /-- An IDLE or an invalid symbol arrives inside the packet. -/
  | idleOrInvalid
  /-- More than 2568 bytes arrive without an end symbol. -/
  | overLong
deriving DecidableEq, Repr

/-- The commands. The commands named after an order EXECUTE the first-consumed PENDING order when it is of that kind (R156); the
order's parameters stand in its slot, so the command has no operands. -/
inductive Instr where
  /-- Power is applied; the strap lines carry `straps` (R171, R172). -/
  | powerOn (straps : BitVec 4)
  /-- The reset line is asserted (R171). -/
  | resetLineAsserted
  /-- The reset line is released; the strap lines carry `straps` (R171, R172). -/
  | resetLineReleased (straps : BitVec 4)
  /-- A packet is a framing fault; `bytes` of it had arrived (R1). -/
  | framingFault (port : Port) (cause : FramingCause) (bytes : List Byte)
  /-- The first six bytes of a LINE have arrived, with these fields as the sender gave them (R9). -/
  | lineHeader (port : Port) (stream : Byte) (frame line : BitVec 16)
  /-- A packet of these bytes closes with END (R6). -/
  | packetEnd (port : Port) (bytes : List Byte)
  /-- A packet of these bytes closes with END-POISON (R7). -/
  | poisonedArrival (port : Port) (bytes : List Byte)
  /-- Valid symbols have arrived without a break for 1 ms (R2). -/
  | linkUp (port : Port)
  /-- 1 ms has passed without a valid symbol; `arrived` holds the bytes of the packet then open, if one was (R2). -/
  | linkDown (port : Port) (arrived : Option (List Byte))
  /-- The 2 ms hold after a RESTART-PORT ends (R15). -/
  | restartHoldEnd (port : Port)
  /-- The arbiter of a trunk output starts a transmission (R30). -/
  | transmissionStart (trunk : Trunk)
  /-- A transmission has sent its END (R31). -/
  | transmissionEnd (trunk : Trunk)
  /-- The frame age of a LIVE channel reaches the stale time (R60). -/
  | frameAgeStale (channel : Fin 12)
  /-- The frame age of a WAITING or STALE channel reaches the lost time (R60). -/
  | frameAgeLost (channel : Fin 12)
  /-- The raw level of a door line changes to `level` (R100). -/
  | doorLineChange (line : Fin 8) (level : Bool)
  /-- A door line's filter wait reaches the filter time (R100). -/
  | filterWaitExpiry (line : Fin 8)
  /-- A linger timer runs out (R107). -/
  | lingerExpiry (trigger : Fin 16)
  /-- The silence timer runs out (R111). -/
  | silenceExpiry
  /-- A screen starts an output frame (R118). -/
  | outputFrameStart (screen : Fin 2)
  /-- A 500 ms pulse boundary of an alert entry (R147). -/
  | pulseBoundary (entry : Fin 4)
  /-- The head of the notice queue moves to the trunks (R168). -/
  | noticeMove
  | presence
  | setHub
  | setPort
  | restartPort
  | loadStream
  | setChannel
  | loadView
  | setScreen
  | loadTrigger
  | setLines
  | pinView
  | releaseView
  | loadProfile
  | learn
  | setAlert
  | query
  | queryZones
  | clearCounts
  | saveSettings
  | resetHub
  /-- The first-consumed PENDING order carries a code that is not in the catalogue (R157). -/
  | badCode
  /-- The flash reports the erase done (R181). -/
  | eraseDone
  /-- No erase report within 500 ms (R181). -/
  | eraseTimeout
  /-- The flash reports a page done (R181). -/
  | pageDone
  /-- No page report within 20 ms (R181). -/
  | pageTimeout
  /-- The image read from the boot flash is judged; `answers` says whether the flash answers (R173, R175). -/
  | imageJudged (answers : Bool)
  /-- The next entry of the image is applied (R176). -/
  | imageEntryApply
deriving DecidableEq, Repr

end Sys2Proof
end

