-- ==== Sys2Proof/Decode.lean ====
section
/-! DEFINITION. The command that a word spells by the table's bits. spec/opcode_table.json gives bits for no row (98_reader.md: no
row has "fixed" or "fields"), so no word spells a command; the bytes of orders and packets are read in Machine/Operands.lean. -/

namespace Sys2Proof

/-- No row of the table has bits: every word is rejected. -/
def decodeTableWord (_nbits _w : Nat) : Option Instr := none

end Sys2Proof
end

