-- ==== Sys2Proof/Config.lean ====
section
/-! DEFINITION. The sizes the spec fixes for the hub, and the values it leaves open (opaque constants without a body). -/

namespace Sys2Proof.Config

/-- Places of a management queue (R30). -/
abbrev mgmtPlaces : Nat := 8
/-- Places of a video queue (R30). -/
abbrev videoPlaces : Nat := 24
/-- Notices other than REPLY that may wait (R164). -/
abbrev noticePlaces : Nat := 30
/-- REPLY entries and reservations together (R164). -/
abbrev replyPlaces : Nat := 2
/-- Lines of a camera frame (spec 00 section 1.4.2). -/
abbrev lines : Nat := 720
/-- Bytes of a line's pixels (spec 00 section 1.4.2). -/
abbrev lineBytes : Nat := 2560
/-- The greatest value of an error counter (spec 00 section 1.4.4). -/
abbrev errorMax : Nat := 255
/-- The greatest value of a channel or traffic counter (spec 00 section 1.4.4). -/
abbrev trafficMax : Nat := 65535
/-- The most bytes a port forms into one packet: one more is a framing fault (R1). -/
abbrev longestPacket : Nat := 2568
/-- Data bytes of one part of a QUERY record (R163). -/
abbrev partBytes : Nat := 186
/-- Columns of a screen's frame (R137). -/
abbrev screenColumns : Nat := 1280
/-- Rows of a screen's frame (R137). -/
abbrev screenRows : Nat := 800
/-- Bytes of a flash page (R173). -/
abbrev pageBytes : Nat := 256
/-- Pages of the image area (R173). -/
abbrev areaPages : Nat := 64
/-- Milliseconds the flash has to report an erase (R181). -/
abbrev eraseLimit : Nat := 500
/-- Milliseconds the flash has to report a page (R181). -/
abbrev pageLimit : Nat := 20
/-- Milliseconds of the hold after a RESTART-PORT (R15). -/
abbrev holdTime : Nat := 2
/-- Milliseconds between output frame starts (R118). -/
abbrev frameTime : Nat := 20
/-- Milliseconds of half a pulse period (R147). -/
abbrev pulseHalf : Nat := 500
/-- The greatest pair energy of a zone, and so the greatest baseline (R72, R90). -/
abbrev energyMax : Nat := 298620
/-- The least baseline of a judgeable zone (R90). -/
abbrev baselineMin : Nat := 64
/-- The fewest judgeable zones with which a learning succeeds (R91). -/
abbrev zonesMin : Nat := 12

/-- FREE VALUE. The byte at an address of a flash page whose erase or program was cut short (R181, R182, R183: it "completes or
stops inside the flash as the flash does"). The first argument tells one cut from another. Entry 7. -/
opaque freeByte : Nat → Nat → Byte

/-- FREE VALUE. The pixel bytes that had arrived of a LINE whose arrival is abandoned by RESTART-PORT or by the disabling of its
port (R9, R39); the first 2560 of them count. Entry 9. -/
opaque arrivedTail : Nat → List Byte

/-- FREE VALUE. What the four strap lines carry at the exit of an order reset (R172): no command tells the hub of a change of them.
Entry 38. -/
opaque strapLevels : Nat → BitVec 4

end Sys2Proof.Config
end

