-- ==== Sys2Proof/Machine/Records.lean ====
section
/-! DEFINITION. The records of the hub's blocks (spec 00 section 1.3), as plain data. -/

namespace Sys2Proof.Machine

/-! ## Ports (spec 01) -/

/-- A link state (R2). -/
inductive LinkState where
  | down
  | up
deriving DecidableEq, Repr

/-- The four grades and UNJUDGED (spec 00 section 1.4.3; R5's grade field). -/
inductive Grade where
  | unjudged
  | clean
  | haze
  | smear
  | blocked
deriving DecidableEq, Repr

/-- The status of a FRAME-CLOSE (R5). -/
inductive CloseStatus where
  | whole
  | cut
deriving DecidableEq, Repr

/-- The counters that every port keeps of its arrivals (R17). -/
structure ArrivalCounters where
  framing : Nat
  check : Nat
  shape : Nat
  received : Nat
  unrouted : Nat
  misrouted : Nat
  stray : Nat
deriving DecidableEq, Repr

/-- The further counters of a trunk port (R17). -/
structure TrunkCounters where
  poisoned : Nat
  unroutable : Nat
  sent : Nat
  queueCuts : Nat
  mgmtDrops : Nat
deriving DecidableEq, Repr

/-- What the switch decided at a LINE's header for one trunk output (R26, R34, R38). -/
inductive LineDecision where
  /-- The output is not on the stream's route. -/
  | offRoute
  /-- Discarded because the output's link is DOWN (R34 case 1, R37). -/
  | discardedDown
  /-- Discarded because the stream's cut flag was already set (R34 case 2). -/
  | discardedCut
  /-- Sent cut-through (R38). -/
  | cutThrough
  /-- Stored until the end report (R26). -/
  | stored
deriving DecidableEq, Repr

/-- What the lookup of R24 and R26 made of a LINE at its header. `belongs` records which opening of the stream it belongs to. -/
inductive LineFate where
  | unrouted
  | misrouted
  | stray
  | belongs (epoch : Nat)
deriving DecidableEq, Repr

/-- A LINE whose header has been handed on and whose end has not been reported (R9, R26). -/
structure LineArrival where
  stream : Fin 256
  frame : Nat
  line : Nat
  fate : LineFate
  decisions : Duo LineDecision
deriving DecidableEq, Repr

/-- A LINE that a port does not form although its end is still to come: its first six bytes came while the port formed no packets (R2,
R10), its arrival was abandoned (R10, R15), or its line number is above 719 (R9). -/
structure UnformedLine where
  stream : Fin 256
  frame : Nat
  line : Nat
deriving DecidableEq, Repr

/-- The receiving side of a port (R2, R9, R10, R15, R17). -/
structure Receiver where
  link : LinkState
  /-- The milliseconds that remain of the hold after a RESTART-PORT (R15). -/
  hold : Option Nat
  arrival : Option LineArrival
  /-- The LINE under way that the port does not form (R2, R9, R10, R15). -/
  unformed : Option UnformedLine
  /-- Every symbol is ignored until the next START (R1, R9). -/
  ignoring : Bool
  counters : ArrivalCounters
deriving DecidableEq, Repr

/-- The open frame of a camera port: its frame number and the lines received good, in rising order (R12). -/
structure OpenFrame where
  frame : Nat
  good : List Nat
deriving DecidableEq, Repr

/-- A camera port record (spec 01 section 2.5). -/
structure CameraPort where
  rx : Receiver
  enable : Bool
  stream : Fin 256
  profile : Fin 4
  openFrame : Option OpenFrame
deriving DecidableEq, Repr

/-- A packet, less its check, which is computed over the bytes sent (R5, R3). -/
inductive Packet where
  | frameOpen (stream : Fin 256) (frame : Nat) (grade : Grade) (home : Nat)
  | line (stream : Fin 256) (frame line : Nat) (pixels : List Byte)
  | frameClose (stream : Fin 256) (frame : Nat) (status : CloseStatus)
  | order (dest code tag : Byte) (params : List Byte)
  | notice (source code subject lost : Byte) (params : List Byte)
deriving DecidableEq, Repr

/-! ## Trunk outputs (spec 02 section 3.3) -/

/-- A place of a management queue. `copyOf` marks the forwarded copy of a broadcast with the consumption sequence of the
original (R153, R161). -/
structure MgmtEntry where
  packet : Packet
  copyOf : Option Nat
deriving DecidableEq, Repr

/-- The sending state of a trunk output (R30): SENDING keeps of which order's copy its packet is, if of one (R161), and CUTTING names
the port at which the line arrives. -/
inductive Sending where
  | idle
  | sending (p : Packet) (copyOf : Option Nat)
  | cutting (source : Port)
deriving DecidableEq, Repr

/-- What an output put on its link as one packet: the bytes between START and the end symbol, and whether that was END-POISON. -/
structure Transmission where
  bytes : List Byte
  poisoned : Bool
deriving DecidableEq, Repr

/-- A trunk output (R30). -/
structure Output where
  mgmt : List MgmtEntry
  video : List Packet
  waiting : List Packet
  sending : Sending
  /-- The packet last ended on the link (R31, R39). -/
  lastTx : Option Transmission
deriving DecidableEq, Repr

/-- A trunk port: its receiver, its further counters and its output (R17, R19, R30). -/
structure TrunkPort where
  rx : Receiver
  counters : TrunkCounters
  out : Output
deriving DecidableEq, Repr

/-! ## Stream switch (spec 02) -/

/-- A stream table entry (R20). -/
structure StreamEntry where
  valid : Bool
  origin : Port
  sendTo : Duo Bool
  channel : Option (Fin 12)
  cutThrough : Duo Bool
deriving DecidableEq, Repr

/-- A stream state record (R23); `epoch` counts the frames opened (entry 22). -/
structure StreamFlow where
  isOpen : Bool
  frame : Nat
  cut : Duo Bool
  epoch : Nat
deriving DecidableEq, Repr

/-- All the switch holds of one stream number. -/
structure StreamRecord where
  entry : StreamEntry
  flow : StreamFlow
deriving DecidableEq, Repr

/-! ## Intake channels (spec 03) -/

/-- The liveness of a channel (R60). -/
inductive ChannelState where
  | unbound
  | waiting
  | live
  | stale
  | lost
deriving DecidableEq, Repr

/-- How a channel handles the frame it has open (R42). -/
inductive Intake where
  | none
  | filling (slot : Fin 3) (frame : Nat)
  | dropping (frame : Nat)
deriving DecidableEq, Repr

/-- The state of a frame slot (R44). -/
inductive SlotState where
  | free
  | filling
  | stored
deriving DecidableEq, Repr

/-- A frame slot: its record (R44) and the rows of frame memory behind it, in canonical form (rows rising, an all-zero row not
listed). -/
structure Slot where
  state : SlotState
  frame : Nat
  good : List Nat
  missing : List Nat
  newest : Bool
  /-- The reader set: bit n for SCn. -/
  readers : BitVec 2
  rows : List (Nat × List Byte)
deriving DecidableEq, Repr

/-- The six counters of a channel (R63). -/
structure ChannelCounters where
  published : Nat
  incomplete : Nat
  dropped : Nat
  patched : Nat
  poisoned : Nat
  stray : Nat
deriving DecidableEq, Repr

/-- The frame age (R59). -/
structure FrameAge where
  ms : Nat
  running : Bool
deriving DecidableEq, Repr

/-- A channel record (R42). -/
structure Channel where
  stream : Option (Fin 256)
  state : ChannelState
  grade : Grade
  home : Option Nat
  patch : Nat
  staleTime : Nat
  lostTime : Nat
  age : FrameAge
  intake : Intake
  slots : Vector Slot 3
  counters : ChannelCounters
deriving DecidableEq, Repr

/-! ## Lens assessor (spec 04, 05) -/

/-- A figure for each of the 48 zones, in zone index order (R67). -/
abbrev Zones := Vector Nat 48

/-- A lens state (R65). -/
inductive LensState where
  | unlearned
  | learning
  | assessing
deriving DecidableEq, Repr

/-- A verdict (R75). -/
inductive Verdict where
  | dark
  | glare
  | incomplete
  | judged
deriving DecidableEq, Repr

/-- The frame measure of a port (R66). -/
structure Measure where
  frame : Nat
  odd : Bool
  noise : Nat
  sums : Zones
  luma : Nat
  void : Bool
deriving DecidableEq, Repr

/-- The first frame of a pair (R72). -/
structure HalfPair where
  energies : Zones
  luma : Nat
deriving DecidableEq, Repr

/-- A lens record (R65, R85). -/
structure Lens where
  state : LensState
  stated : Grade
  pending : Option Grade
  run : Nat
  baselines : Zones
  clarity : Zones
  verdict : Option Verdict
  share : Nat
  lastJ : Nat
  measure : Option Measure
  half : Option HalfPair
  sums : Zones
  count : Nat
  target : Nat
  nonJudged : Nat
deriving DecidableEq, Repr

/-- A lens profile (R93). -/
structure Profile where
  noise : Nat
  threshold : Nat
  h1 : Nat
  h2 : Nat
  h3 : Nat
  kWorse : Nat
  kBetter : Nat
  dark : Nat
  glare : Nat
  learn : Nat
  drift : Nat
  pair : Bool
deriving DecidableEq, Repr

/-! ## View selector (spec 06) -/

/-- A door line (R100): `wait` is the elapsed time of a running filter wait. -/
structure DoorLine where
  raw : Bool
  filtered : Bool
  filterTime : Nat
  wait : Option Nat
  /-- What the filter wait stood at when it last stopped, in milliseconds: QUERY shows it while the wait is stopped (R163). -/
  stoppedAt : Nat
deriving DecidableEq, Repr

/-- A trigger state (R104); LINGER carries the remaining time in milliseconds. -/
inductive TriggerState where
  | idle
  | active
  | linger (remaining : Nat)
deriving DecidableEq, Repr

/-- A trigger entry (R104). `screens` has bit n for SCn; `linger` is in seconds. -/
structure Trigger where
  enable : Bool
  mask : BitVec 16
  value : BitVec 16
  screens : BitVec 2
  view : Fin 32
  priority : Nat
  linger : Nat
  state : TriggerState
deriving DecidableEq, Repr

/-- A pin (R108). -/
structure Pin where
  view : Fin 32
  priority : Nat
deriving DecidableEq, Repr

/-- The source of a chosen view (R112). -/
inductive ViewSource where
  | trigger (t : Fin 16)
  | pin
  | default
deriving DecidableEq, Repr

/-- A chosen view record (R112). -/
structure Chosen where
  view : Fin 32
  source : ViewSource
deriving DecidableEq, Repr

/-- The view selector (spec 00 section 1.3). -/
structure Selector where
  doors : Vector DoorLine 8
  /-- VL0..VL7, bit n for VLn (R102). -/
  virtual : BitVec 8
  triggers : Vector Trigger 16
  pins : Vector (Option Pin) 2
  chosen : Vector Chosen 2
deriving DecidableEq, Repr

/-! ## Screens and views (spec 07) -/

/-- A colour (Y, Cb, Cr) (spec 00 section 1.4.2). -/
structure Colour where
  y : Byte
  cb : Byte
  cr : Byte
deriving DecidableEq, Repr

/-- A tile's substitute level (R121). -/
inductive SubstituteLevel where
  | never
  | smear
  | blocked
deriving DecidableEq, Repr

/-- A tile (R121). -/
structure Tile where
  primary : Fin 12
  alternate : Option (Fin 12)
  level : SubstituteLevel
  left : Nat
  top : Nat
  right : Nat
  bottom : Nat
  x : Nat
  y : Nat
  w : Nat
  h : Nat
  mirror : Bool
deriving DecidableEq, Repr

/-- A view (R121): its background and its tiles in drawing order. -/
structure View where
  background : Colour
  tiles : List Tile
deriving DecidableEq, Repr

/-- A tile condition: the rows of R134, in order. -/
inductive TileCondition where
  | placeholder
  | substituted
  | staleDirty
  | stale
  | blocked
  | smear
  | haze
  | clear
deriving DecidableEq, Repr

/-- A tile record (R117): the decisions taken at the last output frame start. -/
structure TileRecord where
  drawn : Fin 12
  alternate : Bool
  condition : TileCondition
deriving DecidableEq, Repr

/-- What an output frame start has read and decided while its takes are still to be made (R128 to R131, entry 26): the view, its copy,
and each tile's drawn channel with whether that is the alternate. -/
structure FrameReading where
  view : Fin 32
  copy : View
  drawn : List (Fin 12 × Bool)
deriving DecidableEq, Repr

/-- A screen record (R117), with what the frame under way is drawn with (R118, R133). -/
structure Screen where
  enable : Bool
  defaultView : Fin 32
  activeView : Fin 32
  copy : View
  blink : Nat
  held : Vector (Option (Fin 3)) 12
  record : List TileRecord
  /-- The frame under way is composed; otherwise it is sent black (R118, R120, entry 18). -/
  composing : Bool
  /-- The blink position the frame under way uses (R118). -/
  frameBlink : Nat
  /-- Milliseconds to the next output frame start (R118). -/
  frameTimer : Nat
  /-- A start whose takes are still to be made (R131, entry 26). -/
  reading : Option FrameReading
deriving DecidableEq, Repr

/-! ## Alert lines (spec 08) -/

inductive AlertMode where
  | off
  | auto
  | forcedOn
deriving DecidableEq, Repr

inductive StateCondition where
  | none
  | staleOrLost
  | lost
deriving DecidableEq, Repr

inductive GradeCondition where
  | none
  | haze
  | smear
  | blocked
deriving DecidableEq, Repr

inductive AlertStyle where
  | steady
  | pulsing
deriving DecidableEq, Repr

inductive Polarity where
  | activeHigh
  | activeLow
deriving DecidableEq, Repr

/-- A running pulse timer (R147): which half of its period it is in, and how long it has been in it. -/
structure Pulse where
  activePhase : Bool
  elapsed : Nat
deriving DecidableEq, Repr

/-- The settings of an alert entry (R142). `channels` has bit n for ICn, `ports` bit n for CPn. -/
structure AlertSettings where
  mode : AlertMode
  channels : BitVec 12
  ports : BitVec 8
  stateCondition : StateCondition
  gradeCondition : GradeCondition
  style : AlertStyle
  polarity : Polarity
deriving DecidableEq, Repr

/-- An alert entry (R142) and the activity of its line (R146). -/
structure Alert where
  settings : AlertSettings
  demand : Bool
  pulse : Option Pulse
  line : Bool
deriving DecidableEq, Repr

/-! ## Order unit (spec 09) -/

/-- The controller side (R151). -/
inductive Side where
  | ta
  | tb
  | both
deriving DecidableEq, Repr

/-- A reset cause (R171). -/
inductive ResetCause where
  | power
  | line
  | order
deriving DecidableEq, Repr

/-- An image result (R175). -/
inductive ImageResult where
  | absent
  | damaged
  | valid
deriving DecidableEq, Repr

/-- The hub record (R151). The silence timer is its remaining time in milliseconds when it runs. -/
structure HubRecord where
  number : Nat
  side : Side
  silenceTime : Nat
  silenceTimer : Option Nat
  /-- What the silence timer stood at when it last stopped, in milliseconds: QUERY shows it while the timer is stopped (R163). -/
  silenceStopped : Nat
  overflow : Nat
  lost : Nat
  cause : ResetCause
  image : ImageResult
  refused : Nat
deriving DecidableEq, Repr

/-- A consumed order (R155). -/
structure HeldOrder where
  code : Byte
  tag : Byte
  params : List Byte
  arrival : Trunk
  seq : Nat
  broadcast : Bool
deriving DecidableEq, Repr

/-- An order slot (R155). A SAVING slot keeps its SAVE-SETTINGS, whose reply place stays reserved (R160). -/
inductive OrderSlot where
  | free
  | pending (o : HeldOrder)
  | saving (o : HeldOrder)
deriving DecidableEq, Repr

/-- The reasons of a REFUSED order (R159). -/
inductive RefusedReason where
  | badCode
  | badField
  | inUse
  | busy
  | starting
deriving DecidableEq, Repr

/-- The result with which an order ends (R159). `data` is the answer of a QUERY or QUERY-ZONES with its part number and part
count (R163). -/
inductive Answer where
  | done (clamped : Bool)
  | data (part parts : Nat) (bytes : List Byte)
  | refused (reason : RefusedReason)
  | flashTimeout
deriving DecidableEq, Repr

/-- How a learning ended (R92). -/
inductive LearnEnd where
  | learned (j : Nat)
  | tooDark
  | noTexture (j : Nat)
  | profileChanged
  | portRestart
deriving DecidableEq, Repr

/-- A notice (R167). -/
inductive Notice where
  | reply (tag code : Byte) (answer : Answer)
  | start (tag : Option Byte) (cause : ResetCause) (image : ImageResult) (hub refused : Nat)
  | silence (screens : BitVec 2)
  | grade (port : Fin 8) (old new : Grade) (share : Nat)
  | source (channel : Fin 12) (old new : ChannelState)
  | view (screen : Fin 2) (old new : Fin 32) (source : ViewSource)
  | link (port : Port) (old new : LinkState)
  | learnEnd (port : Fin 8) (result : LearnEnd)
deriving DecidableEq, Repr

/-- The order unit (spec 00 section 1.3). -/
structure OrderUnit where
  hub : HubRecord
  slots : Vector OrderSlot 2
  /-- The next consumption sequence (R155). -/
  nextSeq : Nat
  /-- The notice queue, head first (R164). -/
  queue : List Notice
deriving DecidableEq, Repr

/-! ## Settings loader (spec 10) -/

/-- What an entry of the image is checked and applied as (R176). -/
inductive EntryKind where
  | hub
  | port
  | profile
  | baselines
  | stream
  | channel
  | view
  | trigger
  | filterTimes
  | screen
  | alert
deriving DecidableEq, Repr

/-- An entry of the image: its kind and its bytes (R174). -/
structure ImageEntry where
  kind : EntryKind
  params : List Byte
deriving DecidableEq, Repr

/-- The image state (R183): LOADING is `reading` and `applying`. -/
inductive LoadPhase where
  | reading
  | applying (todo : List ImageEntry)
  | ready
deriving DecidableEq, Repr

/-- Where the SAVE job stands (R181): the page named is the one whose report is awaited. -/
inductive SavePhase where
  | erasing
  | programming (page : Nat)
deriving DecidableEq, Repr

/-- The SAVE job (R181). `elapsed` is the time since the flash command. -/
structure SaveJob where
  snapshot : List Byte
  phase : SavePhase
  elapsed : Nat
  slot : Fin 2
deriving DecidableEq, Repr

/-- The settings loader (spec 00 section 1.3). `resetTag` is the tag kept from a RESET-HUB (R171, entry 29). -/
structure Loader where
  phase : LoadPhase
  job : Option SaveJob
  resetTag : Option Byte
deriving DecidableEq, Repr

/-- The boot flash (R173): its bytes in canonical form (addresses rising, an erased byte not listed), and whether page 0 was left
partly programmed (R181, entry 8). -/
structure Flash where
  cells : List Host.Cell
  torn : Bool
deriving DecidableEq, Repr

end Sys2Proof.Machine
end

