-- ==== Sys2Proof/Machine/ResetValues.lean ====
section
/-! DEFINITION. The value each record holds after every kind of reset. -/

namespace Sys2Proof.Machine

/-- R18, R19. -/
def ArrivalCounters.zero : ArrivalCounters :=
  { framing := 0, check := 0, shape := 0, received := 0, unrouted := 0, misrouted := 0, stray := 0 }

/-- R19. -/
def TrunkCounters.zero : TrunkCounters :=
  { poisoned := 0, unroutable := 0, sent := 0, queueCuts := 0, mgmtDrops := 0 }

/-- R18, R19: DOWN, with no hold. -/
def Receiver.reset : Receiver :=
  { link := .down, hold := none, arrival := none, unformed := none, ignoring := false, counters := .zero }

/-- R18. -/
def CameraPort.reset : CameraPort :=
  { rx := .reset, enable := false, stream := 0, profile := 0, openFrame := none }

/-- R41. -/
def Output.reset : Output :=
  { mgmt := [], video := [], waiting := [], sending := .idle, lastTx := none }

/-- R19. -/
def TrunkPort.reset : TrunkPort :=
  { rx := .reset, counters := .zero, out := .reset }

/-- R41. -/
def StreamEntry.reset : StreamEntry :=
  { valid := false, origin := .cam 0, sendTo := ⟨false, false⟩, channel := none, cutThrough := ⟨false, false⟩ }

/-- R41. -/
def StreamFlow.reset : StreamFlow :=
  { isOpen := false, frame := 0, cut := ⟨false, false⟩, epoch := 0 }

/-- R41. -/
def StreamRecord.reset : StreamRecord := { entry := .reset, flow := .reset }

/-- R64. -/
def Slot.reset : Slot :=
  { state := .free, frame := 0, good := [], missing := [], newest := false, readers := 0, rows := [] }

/-- R64. -/
def ChannelCounters.zero : ChannelCounters :=
  { published := 0, incomplete := 0, dropped := 0, patched := 0, poisoned := 0, stray := 0 }

/-- R64. -/
def Channel.reset : Channel :=
  { stream := none, state := .unbound, grade := .unjudged, home := none, patch := 4, staleTime := 200, lostTime := 2000
    age := ⟨0, false⟩, intake := .none, slots := Vector.replicate 3 .reset, counters := .zero }

/-- A zero for every zone. -/
def Zones.zero : Zones := Vector.replicate 48 0

/-- R84, R99. -/
def Lens.reset : Lens :=
  { state := .unlearned, stated := .unjudged, pending := none, run := 0, baselines := .zero, clarity := .zero
    verdict := none, share := 0, lastJ := 0, measure := none, half := none
    sums := .zero, count := 0, target := 8, nonJudged := 0 }

/-- The defaults of R93 (R99). -/
def Profile.reset : Profile :=
  { noise := 8, threshold := 60, h1 := 15, h2 := 35, h3 := 70, kWorse := 3, kBetter := 10, dark := 24, glare := 235
    learn := 8, drift := 6, pair := false }

/-- R116, but for the raw level, which is the pin's. -/
def DoorLine.reset (raw : Bool) : DoorLine :=
  { raw := raw, filtered := raw, filterTime := 10, wait := none, stoppedAt := 0 }

/-- R116. -/
def Trigger.reset : Trigger :=
  { enable := false, mask := 0, value := 0, screens := 0, view := 0, priority := 1, linger := 0, state := .idle }

/-- R116. -/
def Selector.reset (raw : Vector Bool 8) : Selector :=
  { doors := raw.map DoorLine.reset, virtual := 0, triggers := Vector.replicate 16 .reset
    pins := Vector.replicate 2 none, chosen := Vector.replicate 2 ⟨0, .default⟩ }

/-- Grey (R136). -/
def Colour.grey : Colour := { y := 96, cb := 128, cr := 128 }

/-- The reset view (R140). -/
def View.reset : View := { background := .grey, tiles := [] }

/-- R140; no frame is under way and the first starts at reset exit (R118, R141, entry 18). -/
def Screen.reset : Screen :=
  { enable := true, defaultView := 0, activeView := 0, copy := .reset, blink := 0, held := Vector.replicate 12 none
    record := [], composing := false, frameBlink := 0, frameTimer := 0, reading := none }

/-- R150. -/
def AlertSettings.reset : AlertSettings :=
  { mode := .off, channels := 0, ports := 0, stateCondition := .none, gradeCondition := .none, style := .steady
    polarity := .activeHigh }

/-- R150. -/
def Alert.reset : Alert := { settings := .reset, demand := false, pulse := none, line := false }

/-- R170, R183. -/
def HubRecord.reset (cause : ResetCause) (number : Nat) : HubRecord :=
  { number := number, side := .both, silenceTime := 0, silenceTimer := none, silenceStopped := 0, overflow := 0, lost := 0
    cause := cause
    image := .absent, refused := 0 }

/-- R170. -/
def OrderUnit.reset (cause : ResetCause) (number : Nat) : OrderUnit :=
  { hub := .reset cause number, slots := Vector.replicate 2 .free, nextSeq := 0, queue := [] }

/-- R183. -/
def Loader.reset (tag : Option Byte) : Loader := { phase := .reading, job := none, resetTag := tag }

/-- The boot flash as the model finds it: erased (entry 17). -/
def Flash.erased : Flash := { cells := [], torn := false }

end Sys2Proof.Machine
end

