-- ==== Sys2Proof/Machine/State.lean ====
section
/-! DEFINITION. The state of the hub: every record the spec gives it (INVENTORY.md, heading State), the pins it reads, and the
queue of commands that wait. -/

namespace Sys2Proof.Machine

/-- The state of the hub. -/
structure State where
  /-- CP0..CP7 (spec 01 section 2.5). -/
  cams : Vector CameraPort 8
  /-- TA and TB (spec 01, spec 02 section 3.3). -/
  trunks : Duo TrunkPort
  /-- The stream table and the stream state records (R20, R23). -/
  streams : Vector StreamRecord 256
  /-- IC0..IC11 (R42). -/
  channels : Vector Channel 12
  /-- The lens records of CP0..CP7 (R65, R85). -/
  lenses : Vector Lens 8
  /-- LP0..LP3 (R93). -/
  profiles : Vector Profile 4
  selector : Selector
  /-- SC0 and SC1 (R117). -/
  screens : Vector Screen 2
  /-- V0..V31 (R121). -/
  views : Vector View 32
  /-- AL0..AL3 (R142). -/
  alerts : Vector Alert 4
  orders : OrderUnit
  loader : Loader
  flash : Flash
  /-- The levels of the strap lines (R172). -/
  straps : BitVec 4
  /-- The hub is held in reset by the reset line (R171). -/
  held : Bool
  /-- The model's own: how many free values have been drawn (entry 7). -/
  freeUsed : Nat
  /-- The commands that wait, first in, first out. -/
  pending : List Instr
deriving DecidableEq, Repr

/-- The reasons the hub stops with a fault: none. The spec gives every command a next state (INVENTORY.md, heading Faults). -/
inductive Fault where
deriving DecidableEq, Repr

/-- The reasons a command has no meaning. -/
inductive Refusal where
  /-- Raised by an arm of `exec` whose command has no meaning yet; no arm does. Safe: the model stops. -/
  | notModelled (mnemonic : String)
deriving DecidableEq, Repr

/-- Every block at its reset values, with what a reset leaves standing: the reset cause and its tag (R171), the levels of the
strap and door lines, the boot flash (R182, R183), and the model's own count and queue. -/
def State.resetWith (cause : ResetCause) (tag : Option Byte) (held : Bool) (straps : BitVec 4) (raw : Vector Bool 8)
    (flash : Flash) (freeUsed : Nat) (pending : List Instr) : State :=
  { cams := Vector.replicate 8 .reset
    trunks := ⟨.reset, .reset⟩
    streams := Vector.replicate 256 .reset
    channels := Vector.replicate 12 .reset
    lenses := Vector.replicate 8 .reset
    profiles := Vector.replicate 4 .reset
    selector := .reset raw
    screens := Vector.replicate 2 .reset
    views := Vector.replicate 32 .reset
    alerts := Vector.replicate 4 .reset
    orders := .reset cause straps.toNat
    loader := .reset tag
    flash := flash
    straps := straps
    held := held
    freeUsed := freeUsed
    pending := pending }

/-- The hub right after a power-on reset (R171): strap and door lines low (entry 16), the boot flash erased (entry 17), no command
waiting. -/
def State.reset : State :=
  .resetWith .power none false 0 (Vector.replicate 8 false) .erased 0 []

end Sys2Proof.Machine
end

