-- ==== Sys2Proof/Machine/Ops.lean ====
section
/-! DEFINITION. The named operations over the state that every block uses: counters, sets, the two memories, and the update of one
record of one table. -/

namespace Sys2Proof.Machine

/-! ## Counters (spec 00 section 1.4.4) -/

/-- An error counter after `k` more events. -/
def bumpError (n : Nat) (k : Nat := 1) : Nat := min (n + k) Config.errorMax

/-- A channel or traffic counter after `k` more events. -/
def bumpTraffic (n : Nat) (k : Nat := 1) : Nat := min (n + k) Config.trafficMax

/-! ## Sets of numbered members: bit n for member n (R158) -/

/-- Whether a member is in a set. -/
def hasMember {n : Nat} (set : BitVec n) (i : Nat) : Bool := set.getLsbD i

/-- The set with a member added. -/
def addMember {n : Nat} (set : BitVec n) (i : Nat) : BitVec n := set ||| BitVec.twoPow n i

/-- The set with a member taken out. -/
def dropMember {n : Nat} (set : BitVec n) (i : Nat) : BitVec n := set &&& ~~~ BitVec.twoPow n i

/-- The set of the members for which `f` holds. -/
def setOf (n : Nat) (f : Fin n → Bool) : BitVec n :=
  (List.finRange n).foldl (fun set i => if f i then addMember set i.val else set) 0

/-- A set of line numbers with a line added: the list stays in rising order without repeats (R12, R44). -/
def insertLine (k : Nat) : List Nat → List Nat
  | [] => [k]
  | a :: rest => if k < a then k :: a :: rest else if k = a then a :: rest else a :: insertLine k rest

/-- The lines of a frame that are not in a set, in rising order (R52). -/
def missingLines (good : List Nat) : List Nat := (List.range Config.lines).filter (fun k => !good.contains k)

/-! ## Memories: lists of (key, value) in canonical form

The keys rise strictly and no entry holds `blank`, the value an unlisted key reads as. -/

/-- What a key reads as. -/
def Mem.read {α : Type} (blank : α) : List (Nat × α) → Nat → α
  | [], _ => blank
  | (k, v) :: rest, a => if a = k then v else Mem.read blank rest a

/-- The memory without a key. -/
def Mem.erase {α : Type} : List (Nat × α) → Nat → List (Nat × α)
  | [], _ => []
  | (k, v) :: rest, a => if a = k then rest else if a < k then (k, v) :: rest else (k, v) :: Mem.erase rest a

/-- The memory with a value put at a key. -/
def Mem.insert {α : Type} : List (Nat × α) → Nat → α → List (Nat × α)
  | [], a, x => [(a, x)]
  | (k, v) :: rest, a, x =>
    if a = k then (a, x) :: rest else if a < k then (a, x) :: (k, v) :: rest else (k, v) :: Mem.insert rest a x

/-- A write: the blank value is not listed. -/
def Mem.write {α : Type} [DecidableEq α] (blank : α) (m : List (Nat × α)) (a : Nat) (x : α) : List (Nat × α) :=
  if x = blank then Mem.erase m a else Mem.insert m a x

/-- The `n` keys from `a` on take the values that `f` gives them. -/
def Mem.overwrite {α : Type} [DecidableEq α] (blank : α) (m : List (Nat × α)) (a n : Nat) (f : Nat → α) : List (Nat × α) :=
  m.filter (fun c => c.1 < a) ++ (List.range' a n).filterMap (fun k => if f k = blank then none else some (k, f k)) ++
    m.filter (fun c => a + n ≤ c.1)

/-- The canonical form. -/
def Mem.wf {α : Type} [DecidableEq α] (blank : α) : List (Nat × α) → Bool
  | [] => true
  | [(_, v)] => v ≠ blank
  | (k, v) :: (k', v') :: rest => v ≠ blank && k < k' && Mem.wf blank ((k', v') :: rest)

/-- An erased byte of the flash (R173). -/
abbrev erasedByte : Byte := 255

/-- A row of frame memory that nothing has written (entry 19). -/
abbrev blankRow : List Byte := List.replicate Config.lineBytes 0

/-- The flash byte at an address (R173). -/
def Flash.read (f : Flash) (a : Nat) : Byte := Mem.read erasedByte f.cells a

/-- `n` flash bytes from an address on. -/
def Flash.readRange (f : Flash) (a n : Nat) : List Byte := (List.range n).map (fun i => f.read (a + i))

/-- The own row `k` of a slot (R54). -/
def Slot.row (s : Slot) (k : Nat) : List Byte := Mem.read blankRow s.rows k

/-! ## One record of one table -/

/-- The camera port record changed. -/
def State.updCam (s : State) (i : Fin 8) (f : CameraPort → CameraPort) : State := { s with cams := Tab.upd s.cams i f }

/-- The trunk port changed. -/
def State.updTrunk (s : State) (t : Trunk) (f : TrunkPort → TrunkPort) : State := { s with trunks := s.trunks.upd t f }

/-- The trunk output changed. -/
def State.updOut (s : State) (t : Trunk) (f : Output → Output) : State :=
  s.updTrunk t (fun p => { p with out := f p.out })

/-- The stream record changed. -/
def State.updStream (s : State) (k : Fin 256) (f : StreamRecord → StreamRecord) : State :=
  { s with streams := Tab.upd s.streams k f }

/-- The stream state record changed. -/
def State.updFlow (s : State) (k : Fin 256) (f : StreamFlow → StreamFlow) : State :=
  s.updStream k (fun r => { r with flow := f r.flow })

/-- The channel record changed. -/
def State.updChannel (s : State) (c : Fin 12) (f : Channel → Channel) : State :=
  { s with channels := Tab.upd s.channels c f }

/-- The lens record changed. -/
def State.updLens (s : State) (i : Fin 8) (f : Lens → Lens) : State := { s with lenses := Tab.upd s.lenses i f }

/-- The screen record changed. -/
def State.updScreen (s : State) (sc : Fin 2) (f : Screen → Screen) : State := { s with screens := Tab.upd s.screens sc f }

/-- The alert entry changed. -/
def State.updAlert (s : State) (a : Fin 4) (f : Alert → Alert) : State := { s with alerts := Tab.upd s.alerts a f }

/-- The door line changed. -/
def State.updDoor (s : State) (d : Fin 8) (f : DoorLine → DoorLine) : State :=
  { s with selector := { s.selector with doors := Tab.upd s.selector.doors d f } }

/-- The trigger entry changed. -/
def State.updTrigger (s : State) (t : Fin 16) (f : Trigger → Trigger) : State :=
  { s with selector := { s.selector with triggers := Tab.upd s.selector.triggers t f } }

/-- The order unit changed. -/
def State.updOrders (s : State) (f : OrderUnit → OrderUnit) : State := { s with orders := f s.orders }

/-- The hub record changed. -/
def State.updHub (s : State) (f : HubRecord → HubRecord) : State := s.updOrders (fun u => { u with hub := f u.hub })

/-! ## Ports -/

/-- The receiver of a port. -/
def State.rx (s : State) : Port → Receiver
  | .cam i => (Tab.get s.cams i).rx
  | .trunk t => (s.trunks.get t).rx

/-- The receiver of a port changed. -/
def State.updRx (s : State) (p : Port) (f : Receiver → Receiver) : State :=
  match p with
  | .cam i => s.updCam i (fun c => { c with rx := f c.rx })
  | .trunk t => s.updTrunk t (fun c => { c with rx := f c.rx })

/-- The arrival counters of a port changed. -/
def State.updArrivals (s : State) (p : Port) (f : ArrivalCounters → ArrivalCounters) : State :=
  s.updRx p (fun r => { r with counters := f r.counters })

/-- The further counters of a trunk port changed. -/
def State.updTrunkCounters (s : State) (t : Trunk) (f : TrunkCounters → TrunkCounters) : State :=
  s.updTrunk t (fun p => { p with counters := f p.counters })

/-- Whether a port forms packets: its link is UP and no hold runs (R2, R15), and a camera port is enabled (R10). -/
def State.receives (s : State) (p : Port) : Bool :=
  (s.rx p).link = .up && (s.rx p).hold.isNone &&
    match p with
    | .cam i => (Tab.get s.cams i).enable
    | .trunk _ => true

/-- Whether a trunk's link is UP. -/
def State.trunkUp (s : State) (t : Trunk) : Bool := (s.trunks.get t).rx.link = .up

/-- What every command but a reset does: nothing while the hub is held in reset (R171, entry 3), else `f`. -/
def whenRunning (f : State → State) (s : State) : Host.Outcome State Fault Refusal :=
  .next (if s.held then s else f s)

end Sys2Proof.Machine
end

