-- ==== Sys2Proof/Machine/Flags.lean ====
section
/-! DEFINITION. The CLAMPED flag (spec 00 section 1.4.5): a numeric field brought to the nearest end of its range, with the mark
that it was out of range; and the orders of the enumerated conditions. -/

namespace Sys2Proof.Machine

/-- A value and whether it was clamped. -/
structure Clamped where
  value : Nat
  flag : Bool
deriving DecidableEq, Repr

/-- A numeric field brought into `low..high`. -/
def clamp (low high n : Nat) : Clamped :=
  if n < low then ⟨low, true⟩ else if high < n then ⟨high, true⟩ else ⟨n, false⟩

/-- The drift shift is 0 or 4..8 (R94 step 2). -/
def clampDrift (n : Nat) : Clamped := if n = 0 then ⟨0, false⟩ else clamp 4 8 n

/-- The place of a grade in CLEAN < HAZE < SMEAR < BLOCKED (spec 00 section 1.4.3), also its code in a FRAME-OPEN (R5). -/
def Grade.code : Grade → Nat
  | .unjudged => 0
  | .clean => 1
  | .haze => 2
  | .smear => 3
  | .blocked => 4

/-- Whether a grade is worse than another (spec 00 section 1.4.3). -/
def Grade.worse (a b : Grade) : Bool := b.code < a.code

end Sys2Proof.Machine
end

