-- ==== Sys2Proof/Machine/Operands.lean ====
section
/-! DEFINITION. The forms in which commands carry their operands: the packet check (R4), the packet layouts (R5), the judging of a
packet's shape (R6), and the parameters of every order (R158) with their range checks and clamps. -/

namespace Sys2Proof.Machine

/-! ## Bytes -/

/-- One byte. -/
def byte1 (n : Nat) : List Byte := [BitVec.ofNat 8 n]

/-- Two bytes, most significant first (spec 00 section 1.4.1). -/
def byte2 (n : Nat) : List Byte := [BitVec.ofNat 8 (n / 256), BitVec.ofNat 8 n]

/-- Three bytes, most significant first. -/
def byte3 (n : Nat) : List Byte := [BitVec.ofNat 8 (n / 65536), BitVec.ofNat 8 (n / 256), BitVec.ofNat 8 n]

/-- Four bytes, most significant first. -/
def byte4 (n : Nat) : List Byte := byte2 (n / 65536) ++ byte2 n

/-- A yes/no field: 1 for yes (R158). -/
def flagByte (b : Bool) : List Byte := [if b then 1 else 0]

/-- The byte at a place, as a number. -/
def byteAt (bs : List Byte) (i : Nat) : Nat := (bs.getD i 0).toNat

/-- The two-byte field at a place. -/
def wordAt (bs : List Byte) (i : Nat) : Nat := byteAt bs i * 256 + byteAt bs (i + 1)

/-- The three-byte field at a place. -/
def tripleAt (bs : List Byte) (i : Nat) : Nat := byteAt bs i * 65536 + wordAt bs (i + 1)

/-! ## The packet check (R4) -/

/-- One bit: the register is shifted toward its most significant end, and combined with 4,129 when the bit shifted out differs
from the data bit. -/
def checkBit (r : BitVec 16) (data : Bool) : BitVec 16 :=
  let shifted := r <<< 1
  if r.msb != data then shifted ^^^ 4129 else shifted

/-- One byte, most significant bit first. -/
def checkByte (r : BitVec 16) (b : Byte) : BitVec 16 :=
  [7, 6, 5, 4, 3, 2, 1, 0].foldl (fun r i => checkBit r (b.getLsbD i)) r

/-- The packet check of a list of bytes (R4). -/
def packetCheck (bs : List Byte) : BitVec 16 := bs.foldl checkByte 65535

/-- A packet's bytes with their check, most significant byte first. -/
def withCheck (bs : List Byte) : List Byte := bs ++ byte2 (packetCheck bs).toNat

/-- An arriving packet passes the check when the value carried equals the value computed (R4). -/
def passesCheck (bs : List Byte) : Bool :=
  wordAt bs (bs.length - 2) = (packetCheck (bs.take (bs.length - 2))).toNat

/-! ## Packet layouts (R5) -/

/-- The code of a status. -/
def CloseStatus.code : CloseStatus → Nat
  | .whole => 0
  | .cut => 1

/-- The bytes of a packet before its check. -/
def Packet.body : Packet → List Byte
  | .frameOpen k f g h => [1, BitVec.ofFin k] ++ byte2 f ++ byte1 g.code ++ byte1 h
  | .line k f n pixels => [2, BitVec.ofFin k] ++ byte2 f ++ byte2 n ++ pixels
  | .frameClose k f st => [3, BitVec.ofFin k] ++ byte2 f ++ byte1 st.code
  | .order dest code tag params => [8, dest, code, tag] ++ byte1 params.length ++ params
  | .notice source code subject lost params => [9, source, code, subject, lost] ++ byte1 params.length ++ params

/-- The bytes of a packet as sent (R31). -/
def Packet.wire (p : Packet) : List Byte := withCheck p.body

/-- The stream of a picture packet. -/
def Packet.stream : Packet → Option (Fin 256)
  | .frameOpen k _ _ _ => some k
  | .line k _ _ _ => some k
  | .frameClose k _ _ => some k
  | .order _ _ _ _ => none
  | .notice _ _ _ _ _ => none

/-- Whether a packet is a FRAME-OPEN. -/
def Packet.isFrameOpen : Packet → Bool
  | .frameOpen _ _ _ _ => true
  | _ => false

/-- Whether a packet is a FRAME-CLOSE. -/
def Packet.isFrameClose : Packet → Bool
  | .frameClose _ _ _ => true
  | _ => false

/-- The grade of a grade field. -/
def Grade.ofCode : Nat → Option Grade
  | 0 => some .unjudged
  | 1 => some .clean
  | 2 => some .haze
  | 3 => some .smear
  | 4 => some .blocked
  | _ => none

/-- The status of a status field. -/
def CloseStatus.ofCode : Nat → Option CloseStatus
  | 0 => some .whole
  | 1 => some .cut
  | _ => none

/-- The stream number in a byte. -/
def streamOf (b : Byte) : Fin 256 := b.toFin

/-- The packet that bytes hold, or none when step 3 of R6 finds a shape fault. The grade and home hub of a FRAME-OPEN are judged
at trunk ports only; a camera port replaces them (R6, R11). -/
def readPacket (atTrunk : Bool) (bs : List Byte) : Option Packet :=
  let kind := byteAt bs 0
  let k := streamOf (bs.getD 1 0)
  let n := bs.length
  if kind = 1 then
    if n = 8 then
      match Grade.ofCode (byteAt bs 4) with
      | some g => if atTrunk && 15 < byteAt bs 5 then none else some (.frameOpen k (wordAt bs 2) g (byteAt bs 5))
      | none => if atTrunk then none else some (.frameOpen k (wordAt bs 2) .unjudged (byteAt bs 5))
    else none
  else if kind = 2 then
    if n = 2568 && wordAt bs 4 ≤ 719 then some (.line k (wordAt bs 2) (wordAt bs 4) ((bs.drop 6).take Config.lineBytes))
    else none
  else if kind = 3 then
    if n = 7 then (CloseStatus.ofCode (byteAt bs 4)).map (fun st => .frameClose k (wordAt bs 2) st) else none
  else if kind = 8 then
    if atTrunk && byteAt bs 4 ≤ 192 && n = 7 + byteAt bs 4 then
      some (.order (bs.getD 1 0) (bs.getD 2 0) (bs.getD 3 0) ((bs.drop 5).take (byteAt bs 4)))
    else none
  else if kind = 9 then
    if atTrunk && byteAt bs 5 ≤ 192 && n = 8 + byteAt bs 5 then
      some (.notice (bs.getD 1 0) (bs.getD 2 0) (bs.getD 3 0) (bs.getD 4 0) ((bs.drop 6).take (byteAt bs 5)))
    else none
  else none

/-- The faults of a packet that closes with END (R6). -/
inductive PacketFault where
  | check
  | shape
deriving DecidableEq, Repr

/-- The three steps of R6. -/
def judgePacket (atTrunk : Bool) (bs : List Byte) : Except PacketFault Packet :=
  if bs.length < 3 then .error .shape
  else if !passesCheck bs then .error .check
  else
    match readPacket atTrunk bs with
    | some p => .ok p
    | none => .error .shape

/-- Whether the bytes are those of a packet whose LINE header has arrived (R9). -/
def hasLineHeader (bs : List Byte) : Bool := byteAt bs 0 = 2 && 6 ≤ bs.length

/-! ## Enumerated fields (R158): the position of the value in its list -/

/-- A numbered instance. -/
def instanceOf (n k : Nat) : Option (Fin n) := if h : k < n then some ⟨k, h⟩ else none

/-- A yes/no or on/off field. -/
def flagOf : Nat → Option Bool
  | 0 => some false
  | 1 => some true
  | _ => none

/-- A port field: CP0..CP7, TA, TB. -/
def portOf (k : Nat) : Option Port :=
  match instanceOf 8 k with
  | some i => some (.cam i)
  | none => if k = 8 then some (.trunk .ta) else if k = 9 then some (.trunk .tb) else none

/-- The code of a port. -/
def portCode : Port → Nat
  | .cam i => i.val
  | .trunk .ta => 8
  | .trunk .tb => 9

/-- A channel field that may be none (12). -/
def channelOrNoneOf (k : Nat) : Option (Option (Fin 12)) :=
  match instanceOf 12 k with
  | some c => some (some c)
  | none => if k = 12 then some none else none

/-- The code of a channel field that may be none. -/
def channelOrNoneCode : Option (Fin 12) → Nat
  | some c => c.val
  | none => 12

def SubstituteLevel.ofCode : Nat → Option SubstituteLevel
  | 0 => some .never
  | 1 => some .smear
  | 2 => some .blocked
  | _ => none

def SubstituteLevel.code : SubstituteLevel → Nat
  | .never => 0
  | .smear => 1
  | .blocked => 2

def AlertMode.ofCode : Nat → Option AlertMode
  | 0 => some .off
  | 1 => some .auto
  | 2 => some .forcedOn
  | _ => none

def AlertMode.code : AlertMode → Nat
  | .off => 0
  | .auto => 1
  | .forcedOn => 2

def StateCondition.ofCode : Nat → Option StateCondition
  | 0 => some .none
  | 1 => some .staleOrLost
  | 2 => some .lost
  | _ => Option.none

def StateCondition.code : StateCondition → Nat
  | .none => 0
  | .staleOrLost => 1
  | .lost => 2

def GradeCondition.ofCode : Nat → Option GradeCondition
  | 0 => some .none
  | 1 => some .haze
  | 2 => some .smear
  | 3 => some .blocked
  | _ => Option.none

def GradeCondition.code : GradeCondition → Nat
  | .none => 0
  | .haze => 1
  | .smear => 2
  | .blocked => 3

def AlertStyle.ofCode : Nat → Option AlertStyle
  | 0 => some .steady
  | 1 => some .pulsing
  | _ => none

def AlertStyle.code : AlertStyle → Nat
  | .steady => 0
  | .pulsing => 1

def Polarity.ofCode : Nat → Option Polarity
  | 0 => some .activeHigh
  | 1 => some .activeLow
  | _ => none

def Polarity.code : Polarity → Nat
  | .activeHigh => 0
  | .activeLow => 1

/-! ## The parameters of each order

Each reader answers none where the owning rule refuses with BAD-FIELD, and says whether a numeric field was clamped. Readers are
given parameters of the order's length (R157). -/

/-- SET-HUB (R110). -/
def readSetHub (ps : List Byte) : Clamped := clamp 0 255 (wordAt ps 0)

/-- The fields of SET-PORT (R14). -/
structure SetPort where
  port : Fin 8
  enable : Bool
  stream : Fin 256
  profile : Fin 4
deriving DecidableEq, Repr

def readSetPort (ps : List Byte) : Option SetPort := do
  let port ← instanceOf 8 (byteAt ps 0)
  let enable ← flagOf (byteAt ps 1)
  let profile ← instanceOf 4 (byteAt ps 3)
  return { port, enable, stream := streamOf (ps.getD 2 0), profile }

/-- The fields of LOAD-STREAM: the stream and its new entry (R21 checks 1 to 6). -/
def readLoadStream (ps : List Byte) : Option (Fin 256 × StreamEntry) := do
  let k := streamOf (ps.getD 0 0)
  let valid ← flagOf (byteAt ps 1)
  let toTA ← flagOf (byteAt ps 3)
  let toTB ← flagOf (byteAt ps 4)
  let cutTA ← flagOf (byteAt ps 6)
  let cutTB ← flagOf (byteAt ps 7)
  if valid then
    let origin ← portOf (byteAt ps 2)
    let channel ← channelOrNoneOf (byteAt ps 5)
    if (toTA && origin = .trunk .ta) || (toTB && origin = .trunk .tb) then none
    else if (cutTA && !toTA) || (cutTB && !toTB) then none
    else
      match origin with
      | .cam _ =>
        if cutTA || cutTB then none
        else return (k, { valid, origin, sendTo := ⟨toTA, toTB⟩, channel, cutThrough := ⟨cutTA, cutTB⟩ })
      | .trunk _ => return (k, { valid, origin, sendTo := ⟨toTA, toTB⟩, channel, cutThrough := ⟨cutTA, cutTB⟩ })
  else return (k, .reset)

/-- The fields of SET-CHANNEL (R43). -/
structure SetChannel where
  channel : Fin 12
  patch : Nat
  staleTime : Nat
  lostTime : Nat
  clamped : Bool
deriving DecidableEq, Repr

/-- The fields of SET-CHANNEL (R43): each clamped, the lost time also raised to the stale time + 10 (entry 28). -/
def readSetChannel (ps : List Byte) : Option SetChannel := do
  let channel ← instanceOf 12 (byteAt ps 0)
  let patch := clamp 0 15 (byteAt ps 1)
  let stale := clamp 40 2000 (wordAt ps 2)
  let lost := clamp 100 10000 (wordAt ps 4)
  let raised := lost.value < stale.value + 10
  return { channel, patch := patch.value, staleTime := stale.value
           lostTime := if raised then stale.value + 10 else lost.value
           clamped := patch.flag || stale.flag || lost.flag || raised }

/-- A tile of LOAD-VIEW: fitted to the grid, clamped and checked (R122, R123, R124), with its CLAMPED flag. -/
def readTile (ps : List Byte) : Option (Tile × Bool) := do
  let primary ← instanceOf 12 (byteAt ps 0)
  let alternate ← channelOrNoneOf (byteAt ps 1)
  let level ← SubstituteLevel.ofCode (byteAt ps 2)
  let mirror ← flagOf (byteAt ps 19)
  let left := wordAt ps 3 / 8 * 8
  let top := wordAt ps 5 / 8 * 8
  let right := clamp 0 1279 (wordAt ps 7 / 8 * 8 + 7)
  let bottom := clamp 0 719 (wordAt ps 9 / 8 * 8 + 7)
  let x := clamp 0 1279 (wordAt ps 11)
  let y := clamp 0 799 (wordAt ps 13)
  let w := clamp 16 1280 (wordAt ps 15)
  let h := clamp 16 800 (wordAt ps 17)
  let ws := right.value + 1 - left
  let hs := bottom.value + 1 - top
  if alternate = some primary then none
  else if right.value < left || bottom.value < top then none
  else if ws ≤ 8 * w.value && w.value ≤ 4 * ws && hs ≤ 8 * h.value && h.value ≤ 4 * hs then
    return ({ primary, alternate, level, left, top, right := right.value, bottom := bottom.value, x := x.value, y := y.value
              w := w.value, h := h.value, mirror },
            right.flag || bottom.flag || x.flag || y.flag || w.flag || h.flag)
  else none

/-- `n` tiles of 20 bytes each, one after another. -/
def readTiles : Nat → List Byte → Option (List (Tile × Bool))
  | 0, _ => some []
  | n + 1, ps => do
    let t ← readTile (ps.take 20)
    let rest ← readTiles n (ps.drop 20)
    return t :: rest

/-- The fields of LOAD-VIEW (R122): the view, its new contents, and CLAMPED. The parameter length must agree with the tile count
(R157). -/
def readLoadView (ps : List Byte) : Option (Fin 32 × View × Bool) := do
  if ps.length < 5 || 8 < byteAt ps 4 || ps.length ≠ 5 + 20 * byteAt ps 4 then none
  else
    let v ← instanceOf 32 (byteAt ps 0)
    let tiles ← readTiles (byteAt ps 4) (ps.drop 5)
    return (v, { background := ⟨ps.getD 1 0, ps.getD 2 0, ps.getD 3 0⟩, tiles := tiles.map (·.1) }, tiles.any (·.2))

/-- The fields of SET-SCREEN (R119). -/
structure SetScreen where
  screen : Fin 2
  enable : Bool
  defaultView : Fin 32
deriving DecidableEq, Repr

def readSetScreen (ps : List Byte) : Option SetScreen := do
  let screen ← instanceOf 2 (byteAt ps 0)
  let enable ← flagOf (byteAt ps 1)
  let defaultView ← instanceOf 32 (byteAt ps 2)
  return { screen, enable, defaultView }

/-- The fields of LOAD-TRIGGER (R105): the entry, its new contents in state IDLE, and CLAMPED. -/
def readLoadTrigger (ps : List Byte) : Option (Fin 16 × Trigger × Bool) := do
  let t ← instanceOf 16 (byteAt ps 0)
  let enable ← flagOf (byteAt ps 1)
  let view ← instanceOf 32 (byteAt ps 7)
  let priority := clamp 1 15 (byteAt ps 8)
  let linger := clamp 0 60 (byteAt ps 9)
  if 3 < byteAt ps 6 then none
  else
    return (t, { enable, mask := BitVec.ofNat 16 (wordAt ps 2), value := BitVec.ofNat 16 (wordAt ps 4)
                 screens := BitVec.ofNat 2 (byteAt ps 6), view, priority := priority.value, linger := linger.value
                 state := .idle },
            priority.flag || linger.flag)

/-- The fields of SET-LINES (R102); `times` holds the eight filter times as given. -/
structure SetLines where
  lineMask : BitVec 8
  lineValues : BitVec 8
  filterMask : BitVec 8
  times : List Nat
deriving DecidableEq, Repr

def readSetLines (ps : List Byte) : SetLines :=
  { lineMask := ps.getD 0 0, lineValues := ps.getD 1 0, filterMask := ps.getD 2 0
    times := (List.range 8).map (fun i => byteAt ps (3 + i)) }

/-- The fields of PIN-VIEW (R108). -/
def readPinView (ps : List Byte) : Option (Fin 2 × Pin × Bool) := do
  let screen ← instanceOf 2 (byteAt ps 0)
  let view ← instanceOf 32 (byteAt ps 1)
  let priority := clamp 1 15 (byteAt ps 2)
  return (screen, { view, priority := priority.value }, priority.flag)

/-- The fields of LOAD-PROFILE (R94): the profile, its new contents, and CLAMPED. -/
def readLoadProfile (ps : List Byte) : Option (Fin 4 × Profile × Bool) := do
  let lp ← instanceOf 4 (byteAt ps 0)
  let pair ← flagOf (byteAt ps 12)
  let learn := byteAt ps 10
  let noise := clamp 0 63 (byteAt ps 1)
  let threshold := clamp 10 95 (byteAt ps 2)
  let h1 := clamp 1 100 (byteAt ps 3)
  let h2 := clamp 1 100 (byteAt ps 4)
  let h3 := clamp 1 100 (byteAt ps 5)
  let kWorse := clamp 1 15 (byteAt ps 6)
  let kBetter := clamp 1 63 (byteAt ps 7)
  let dark := byteAt ps 8
  let glare := byteAt ps 9
  let drift := clampDrift (byteAt ps 11)
  if !(learn = 4 || learn = 8 || learn = 16) then none
  else if h1.value < h2.value && h2.value < h3.value && dark < glare then
    return (lp, { noise := noise.value, threshold := threshold.value, h1 := h1.value, h2 := h2.value, h3 := h3.value
                  kWorse := kWorse.value, kBetter := kBetter.value, dark, glare, learn, drift := drift.value, pair },
            noise.flag || threshold.flag || h1.flag || h2.flag || h3.flag || kWorse.flag || kBetter.flag || drift.flag)
  else none

/-- The fields of SET-ALERT (R143). -/
def readSetAlert (ps : List Byte) : Option (Fin 4 × AlertSettings) := do
  let entry ← instanceOf 4 (byteAt ps 0)
  let mode ← AlertMode.ofCode (byteAt ps 1)
  let stateCondition ← StateCondition.ofCode (byteAt ps 5)
  let gradeCondition ← GradeCondition.ofCode (byteAt ps 6)
  let style ← AlertStyle.ofCode (byteAt ps 7)
  let polarity ← Polarity.ofCode (byteAt ps 8)
  if 4095 < wordAt ps 2 then none
  else
    return (entry, { mode, channels := BitVec.ofNat 12 (wordAt ps 2), ports := ps.getD 4 0, stateCondition, gradeCondition
                     style, polarity })

/-- The subjects of QUERY and CLEAR-COUNTS (R163). -/
inductive Subject where
  | hub
  | port (p : Port)
  | stream (k : Fin 256)
  | channel (c : Fin 12)
  | profile (p : Fin 4)
  | selector
  | trigger (t : Fin 16)
  | screen (sc : Fin 2)
  | view (v : Fin 32)
  | alert (a : Fin 4)
deriving DecidableEq, Repr

/-- A subject kind and a subject (R163). -/
def readSubject (ps : List Byte) : Option Subject :=
  let n := byteAt ps 1
  match byteAt ps 0 with
  | 0 => if n = 0 then some .hub else none
  | 1 => (portOf n).map .port
  | 2 => some (.stream (streamOf (ps.getD 1 0)))
  | 3 => (instanceOf 12 n).map .channel
  | 4 => (instanceOf 4 n).map .profile
  | 5 => if n = 0 then some .selector else none
  | 6 => (instanceOf 16 n).map .trigger
  | 7 => (instanceOf 2 n).map .screen
  | 8 => (instanceOf 32 n).map .view
  | 9 => (instanceOf 4 n).map .alert
  | _ => none

/-- A BASELINES entry (R174, R177). -/
structure BaselinesEntry where
  port : Fin 8
  learned : Bool
  noise : Nat
  pair : Nat
  baselines : Zones
deriving DecidableEq, Repr

def readBaselines (ps : List Byte) : Option BaselinesEntry := do
  let port ← instanceOf 8 (byteAt ps 0)
  let learned ← flagOf (byteAt ps 1)
  return { port, learned, noise := byteAt ps 2, pair := byteAt ps 3, baselines := Vector.ofFn (fun z => tripleAt ps (4 + 3 * z.val)) }

end Sys2Proof.Machine
end

