-- ==== Sys2Proof/Machine/Notices.lean ====
section
/-! DEFINITION. The notice queue of the order unit (spec 09 section 10.6): offering, coalescing, losing, replying; and the bytes of
each notice (R159, R167). -/

namespace Sys2Proof.Machine

/-- Whether a notice is a REPLY. -/
def Notice.isReply : Notice → Bool
  | .reply _ _ _ => true
  | _ => false

/-- Whether two notices are state notices with one key: their kind and their subject (R165). -/
def Notice.sameKey : Notice → Notice → Bool
  | .grade p _ _ _, .grade q _ _ _ => p = q
  | .source c _ _, .source d _ _ => c = d
  | .view v _ _ _, .view w _ _ _ => v = w
  | .link p _ _, .link q _ _ => p = q
  | .learnEnd p _, .learnEnd q _ => p = q
  | _, _ => false

/-- What becomes of a waiting entry when a notice with its key is offered (R165): it keeps its old value and takes the new one,
and is removed when they are equal; a LEARN-END is replaced whole. -/
def Notice.coalesce (waiting offered : Notice) : Option Notice :=
  match waiting, offered with
  | .grade p old _ _, .grade _ _ new share => if new = old then none else some (.grade p old new share)
  | .source c old _, .source _ _ new => if new = old then none else some (.source c old new)
  | .view v old _ _, .view _ _ new src => if new = old then none else some (.view v old new src)
  | .link p old _, .link _ _ new => if new = old then none else some (.link p old new)
  | .learnEnd _ _, .learnEnd p r => some (.learnEnd p r)
  | w, _ => some w

/-- The notices other than REPLY that wait (R164). -/
def noticesWaiting (q : List Notice) : Nat := (q.filter (fun n => !n.isReply)).length

/-- The REPLY entries that wait (R164). -/
def repliesWaiting (q : List Notice) : Nat := (q.filter (·.isReply)).length

/-- The queue after an offer, or none when the notice is lost (R165, R166). -/
def queueAfterOffer (n : Notice) (q : List Notice) : Option (List Notice) :=
  if q.any n.sameKey then some (q.filterMap (fun w => if n.sameKey w then w.coalesce n else some w))
  else if noticesWaiting q < Config.noticePlaces then some (q ++ [n])
  else none

/-- A notice other than a REPLY is offered to the order unit: it joins the tail, coalesces, or is lost and counted (R165, R166). -/
def OrderUnit.offer (u : OrderUnit) (n : Notice) : OrderUnit :=
  match queueAfterOffer n u.queue with
  | some q => { u with queue := q }
  | none => { u with hub := { u.hub with lost := bumpError u.hub.lost } }

/-- A block offers a notice. -/
def State.offer (s : State) (n : Notice) : State := { s with orders := s.orders.offer n }

/-- A notice offered when a condition holds. -/
def State.offerIf (s : State) (b : Bool) (n : Notice) : State := if b then s.offer n else s

/-- Whether an order slot is SAVING: it keeps a reply place reserved (R160). -/
def OrderSlot.isSaving : OrderSlot → Bool
  | .saving _ => true
  | _ => false

/-- The reply places reserved between events: one for each SAVING slot (R160, R164). -/
def OrderUnit.reservations (u : OrderUnit) : Nat := (u.slots.toList.filter (·.isSaving)).length

/-- Whether a reply place is free (R164). -/
def OrderUnit.replyPlaceFree (u : OrderUnit) : Bool := repliesWaiting u.queue + u.reservations < Config.replyPlaces

/-- An order ends: its REPLY takes its place at the tail of the queue and its slot becomes FREE (R156, R159). -/
def OrderUnit.finish (u : OrderUnit) (i : Fin 2) (o : HeldOrder) (a : Answer) : OrderUnit :=
  { u with queue := u.queue ++ [.reply o.tag o.code a], slots := Tab.upd u.slots i (fun _ => .free) }

/-! ## Bytes of the notices -/

def RefusedReason.code : RefusedReason → Nat
  | .badCode => 1
  | .badField => 2
  | .inUse => 3
  | .busy => 4
  | .starting => 5

/-- The parameters of a REPLY: order code, result, reason, flags, part number, part count, data (R159). A refused QUERY names part 0 of
1, as every other refused order does: the model's choice, entry 41. -/
def replyParams (code : Byte) : Answer → List Byte
  | .done clamped => code :: byte1 0 ++ byte1 0 ++ flagByte clamped ++ byte1 0 ++ byte1 1
  | .data part parts bytes => code :: byte1 0 ++ byte1 0 ++ byte1 0 ++ byte1 part ++ byte1 parts ++ bytes
  | .refused r => code :: byte1 1 ++ byte1 r.code ++ byte1 0 ++ byte1 0 ++ byte1 1
  | .flashTimeout => code :: byte1 2 ++ byte1 6 ++ byte1 0 ++ byte1 0 ++ byte1 1

def LinkState.code : LinkState → Nat
  | .down => 0
  | .up => 1

def ChannelState.code : ChannelState → Nat
  | .unbound => 0
  | .waiting => 1
  | .live => 2
  | .stale => 3
  | .lost => 4

def ViewSource.code : ViewSource → Nat
  | .trigger t => t.val
  | .pin => 16
  | .default => 17

def ResetCause.code : ResetCause → Nat
  | .power => 0
  | .line => 1
  | .order => 2

def ImageResult.code : ImageResult → Nat
  | .absent => 0
  | .damaged => 1
  | .valid => 2

/-- The result, reason and J of a LEARN-END; J is 0 where R92 carries none (R167). -/
def learnEndParams : LearnEnd → List Byte
  | .learned j => byte1 0 ++ byte1 0 ++ byte1 j
  | .tooDark => byte1 1 ++ byte1 1 ++ byte1 0
  | .noTexture j => byte1 1 ++ byte1 2 ++ byte1 j
  | .profileChanged => byte1 1 ++ byte1 3 ++ byte1 0
  | .portRestart => byte1 1 ++ byte1 4 ++ byte1 0

/-- The code, tag or subject, and parameters of a notice (R167). -/
def Notice.fields : Notice → Byte × Byte × List Byte
  | .reply tag code a => (1, tag, replyParams code a)
  | .start tag cause image hub refused =>
    (2, tag.getD 0, byte1 cause.code ++ byte1 image.code ++ byte1 hub ++ byte2 refused ++ flagByte tag.isSome)
  | .silence screens => (3, 0, byte1 screens.toNat)
  | .grade p old new share => (4, BitVec.ofNat 8 p.val, byte1 old.code ++ byte1 new.code ++ byte1 share)
  | .source c old new => (5, BitVec.ofNat 8 c.val, byte1 old.code ++ byte1 new.code)
  | .view v old new src => (6, BitVec.ofNat 8 v.val, byte1 old.val ++ byte1 new.val ++ byte1 src.code)
  | .link p old new => (7, BitVec.ofNat 8 (portCode p), byte1 old.code ++ byte1 new.code)
  | .learnEnd p r => (8, BitVec.ofNat 8 p.val, learnEndParams r)

/-- A notice as the packet it leaves in: with the hub number and the lost count of the moment (R166, R168). -/
def Notice.packet (hub : HubRecord) (n : Notice) : Packet :=
  .notice (BitVec.ofNat 8 hub.number) n.fields.1 n.fields.2.1 (BitVec.ofNat 8 hub.lost) n.fields.2.2

end Sys2Proof.Machine
end

