-- ==== Sys2Proof/Machine/Alerts.lean ====
section
/-! DEFINITION. The alert line unit (spec 08). -/

namespace Sys2Proof.Machine

/-- Whether a channel state satisfies a state condition (R144). -/
def StateCondition.satisfiedBy : StateCondition → ChannelState → Bool
  | .none, _ => false
  | .staleOrLost, st => st = .stale || st = .lost
  | .lost, st => st = .lost

/-- Whether a grade satisfies a grade condition (R144); UNJUDGED satisfies none. -/
def GradeCondition.satisfiedBy : GradeCondition → Grade → Bool
  | .none, _ => false
  | .haze, g => g = .haze || g = .smear || g = .blocked
  | .smear, g => g = .smear || g = .blocked
  | .blocked, g => g = .blocked

/-- Whether a member calls for the lamp in AUTO (R144). -/
def State.memberCalls (s : State) (a : AlertSettings) : Bool :=
  (List.finRange 12).any (fun c => hasMember a.channels c.val &&
    (a.stateCondition.satisfiedBy (Tab.get s.channels c).state || a.gradeCondition.satisfiedBy (Tab.get s.channels c).grade)) ||
  (List.finRange 8).any (fun p => hasMember a.ports p.val && a.gradeCondition.satisfiedBy (Tab.get s.lenses p).stated)

/-- The demand that the settings give for the members as they stand (R146). -/
def State.demandOf (s : State) (a : AlertSettings) : Bool :=
  match a.mode with
  | .off => false
  | .forcedOn => true
  | .auto => s.memberCalls a

/-- The activity of a line (R146): the demand, and for a pulsing entry an active phase. -/
def lineActivity (style : AlertStyle) (demand : Bool) (pulse : Option Pulse) : Bool :=
  demand &&
    match style with
    | .steady => true
    | .pulsing =>
      match pulse with
      | some p => p.activePhase
      | none => false

/-- An entry whose demand has been evaluated to `d` (R146): the pulse timer starts or stops when the demand changes. -/
def Alert.withDemand (e : Alert) (d : Bool) : Alert :=
  if d = e.demand then e
  else if d then { e with demand := true, pulse := some ⟨true, 0⟩, line := true }
  else { e with demand := false, pulse := none, line := false }

/-- One entry is evaluated (R145). -/
def State.evalAlert (s : State) (a : Fin 4) : State :=
  s.updAlert a (fun e => e.withDemand (s.demandOf e.settings))

/-- The entries that have a member of this kind are evaluated (R145): a change at a channel or port that is no member does not
reach an entry. -/
def State.evalAlertsWhere (s : State) (member : AlertSettings → Bool) : State :=
  { s with alerts := s.alerts.map (fun e => if member e.settings then e.withDemand (s.demandOf e.settings) else e) }

/-- The state or grade of a channel has changed (R145). -/
def State.alertsOfChannel (s : State) (c : Fin 12) : State := s.evalAlertsWhere (fun a => hasMember a.channels c.val)

/-- The stated grade of a port has changed (R145). -/
def State.alertsOfPort (s : State) (p : Fin 8) : State := s.evalAlertsWhere (fun a => hasMember a.ports p.val)

/-- An entry that takes new settings, with the demand they give (R143, R146, R147): a demand that stays active keeps its pulse,
and the line is set at once to the activity it now has. -/
def Alert.withSettings (e : Alert) (a : AlertSettings) (d : Bool) : Alert :=
  let e' := { e with settings := a }.withDemand d
  { e' with line := lineActivity a.style e'.demand e'.pulse }

/-- SET-ALERT (R143). -/
def setAlertEffect (params : List Byte) (s : State) : State × Answer :=
  match readSetAlert params with
  | none => (s, .refused .badField)
  | some (i, a) => (s.updAlert i (fun e => e.withSettings a (s.demandOf a)), .done false)

/-- An entry at a pulse boundary (R147): the timer enters its next half, and a pulsing line takes that phase's level. -/
def Alert.atBoundary (e : Alert) : Alert :=
  match e.pulse with
  | none => e
  | some p =>
    { e with pulse := some ⟨!p.activePhase, 0⟩, line := lineActivity e.settings.style e.demand (some ⟨!p.activePhase, 0⟩) }

/-- PULSE_BOUNDARY: a 500 ms pulse boundary of an entry whose timer runs (R147). -/
def execPulseBoundary (entry : Fin 4) (s : State) : Host.Outcome State Fault Refusal :=
  whenRunning (fun s => s.updAlert entry Alert.atBoundary) s

end Sys2Proof.Machine
end

