-- ==== Sys2Proof/Machine/Channels.lean ====
section
/-! DEFINITION. The intake channels and their frame slots (spec 03). -/

namespace Sys2Proof.Machine

/-! ## One channel -/

/-- A slot of a channel. -/
def Channel.slot (c : Channel) (i : Fin 3) : Slot := Tab.get c.slots i

/-- A slot of a channel changed. -/
def Channel.updSlot (c : Channel) (i : Fin 3) (f : Slot → Slot) : Channel := { c with slots := Tab.upd c.slots i f }

/-- The counters of a channel changed. -/
def Channel.count (c : Channel) (f : ChannelCounters → ChannelCounters) : Channel := { c with counters := f c.counters }

/-- A STORED slot that is neither newest nor held by a screen becomes FREE (R44); its other fields stand (entry 20). -/
def Slot.freeIfUnheld (sl : Slot) : Slot :=
  if sl.state = .stored && !sl.newest && sl.readers = 0 then { sl with state := .free } else sl

/-- Every slot loses the newest flag; one that no screen holds becomes FREE (R46 steps 2 and 3, R53 step 3). -/
def Slot.unNewest (sl : Slot) : Slot :=
  if sl.newest then { sl with newest := false }.freeIfUnheld else sl

/-- The open frame is given up: a FILLING slot becomes FREE and the frame counts as incomplete; a DROPPING ends without counting
(R46 step 1, R48 step 1). -/
def Channel.abandonIntake (c : Channel) : Channel :=
  match c.intake with
  | .none => c
  | .filling i _ =>
    ({ c with intake := .none }.updSlot i (fun sl => { sl with state := .free })).count
      (fun k => { k with incomplete := bumpTraffic k.incomplete })
  | .dropping _ => { c with intake := .none }

/-- Binding (R45). -/
def Channel.bind (k : Fin 256) (c : Channel) : Channel :=
  { c with stream := some k, state := .waiting, age := ⟨0, true⟩, grade := .unjudged, home := none, intake := .none }

/-- Unbinding (R46). -/
def Channel.unbind (c : Channel) : Channel :=
  let c := c.abandonIntake
  { c with slots := c.slots.map (fun sl => { sl with newest := false }.freeIfUnheld)
           stream := none, grade := .unjudged, home := none, age := ⟨c.age.ms, false⟩, state := .unbound }

/-- The lowest-numbered FREE slot (R48, R58). -/
def Channel.freeSlot (c : Channel) : Option (Fin 3) := (List.finRange 3).find? (fun i => (c.slot i).state = .free)

/-- A FRAME-OPEN at a bound channel (R48, R49). -/
def Channel.frameOpen (frame : Nat) (grade : Grade) (home : Nat) (c : Channel) : Channel :=
  if c.stream.isNone then c
  else
    let c := { c.abandonIntake with grade := grade, home := some home }
    match c.freeSlot with
    | some i =>
      { c with intake := .filling i frame }.updSlot i (fun sl => { sl with state := .filling, frame := frame, good := [] })
    | none => { c with intake := .dropping frame }.count (fun k => { k with dropped := bumpTraffic k.dropped })

/-- A good LINE written into a FILLING slot, unless its row has been received good (R50). -/
def Slot.goodLine (line : Nat) (pixels : List Byte) (sl : Slot) : Slot :=
  if sl.good.contains line then sl
  else { sl with good := insertLine line sl.good, rows := Mem.write blankRow sl.rows line pixels }

/-- A poisoned LINE's pixels written into a FILLING slot, unless its row has been received good (R51). -/
def Slot.poisonedLine (line : Nat) (pixels : List Byte) (sl : Slot) : Slot :=
  if sl.good.contains line then sl else { sl with rows := Mem.write blankRow sl.rows line pixels }

/-- A stray packet is counted (R55). -/
def Channel.strayPacket (c : Channel) : Channel := c.count (fun k => { k with stray := bumpTraffic k.stray })

/-- A LINE at a channel (R50, R51, R55). -/
def Channel.line (frame line : Nat) (pixels : List Byte) (poisoned : Bool) (c : Channel) : Channel :=
  match c.intake with
  | .none => c.strayPacket
  | .dropping f => if frame = f then c else c.strayPacket
  | .filling i f =>
    if frame = f then
      if poisoned then
        (c.updSlot i (Slot.poisonedLine line pixels)).count (fun k => { k with poisoned := bumpTraffic k.poisoned })
      else c.updSlot i (Slot.goodLine line pixels)
    else c.strayPacket

/-- Publication of the frame in a slot, whose missing lines are given (R53). -/
def Channel.publish (i : Fin 3) (missing : List Nat) (c : Channel) : Channel :=
  let c := { c with slots := c.slots.map Slot.unNewest }
  let c := c.updSlot i (fun sl => { sl with state := .stored, newest := true, missing := missing })
  let c := c.count
    (fun k => { k with published := bumpTraffic k.published, patched := bumpTraffic k.patched missing.length })
  { c with intake := .none, age := ⟨0, true⟩, state := .live }

/-- A FRAME-CLOSE at a channel (R52, R55). -/
def Channel.frameClose (frame : Nat) (status : CloseStatus) (c : Channel) : Channel :=
  match c.intake with
  | .none => c.strayPacket
  | .dropping f => if frame = f then { c with intake := .none } else c.strayPacket
  | .filling i f =>
    if frame = f then
      let missing := missingLines (c.slot i).good
      if status = .cut || c.patch < missing.length then c.abandonIntake else c.publish i missing
    else c.strayPacket

/-- The newest slot (R56). -/
def Channel.newestSlot (c : Channel) : Option (Fin 3) := (List.finRange 3).find? (fun i => (c.slot i).newest)

/-- A screen leaves the reader set of a slot, which becomes FREE if it is then unheld and not newest (R56, R57). -/
def Slot.leave (sc : Fin 2) (sl : Slot) : Slot :=
  if hasMember sl.readers sc.val then { sl with readers := dropMember sl.readers sc.val }.freeIfUnheld else sl

/-- A release (R57). -/
def Channel.release (sc : Fin 2) (c : Channel) : Channel := { c with slots := c.slots.map (Slot.leave sc) }

/-- A take (R56): the screen leaves every slot but the newest, and joins the newest. -/
def Channel.take (sc : Fin 2) (c : Channel) : Channel :=
  match c.newestSlot with
  | none => c.release sc
  | some i =>
    if hasMember (c.slot i).readers sc.val then c
    else (c.release sc).updSlot i (fun sl => { sl with readers := addMember sl.readers sc.val })

/-- The frame age reaches the stale time (R60). -/
def Channel.ageStale (c : Channel) : Channel :=
  if c.state = .live then { c with state := .stale, age := ⟨max c.age.ms c.staleTime, c.age.running⟩ } else c

/-- The frame age reaches the lost time, and stops (R59, R60). -/
def Channel.ageLost (c : Channel) : Channel :=
  if c.state = .waiting || c.state = .stale then { c with state := .lost, age := ⟨max c.age.ms c.lostTime, false⟩ } else c

/-- The first comparison of R61: a LIVE channel at or above the stale time. -/
def Channel.compareStale (c : Channel) : Channel :=
  if c.state = .live && c.staleTime ≤ c.age.ms then { c with state := .stale } else c

/-- The second comparison of R61: a STALE or WAITING channel at or above the lost time; its age stops (R59). -/
def Channel.compareLost (c : Channel) : Channel :=
  if (c.state = .stale || c.state = .waiting) && c.lostTime ≤ c.age.ms then
    { c with state := .lost, age := ⟨c.age.ms, false⟩ }
  else c

/-! ## The channel among the other blocks -/

/-- An event at a channel: each change of its state offers a SOURCE notice (R62), and each change of its state or grade is seen
by the alert entries that watch it (R145). -/
def State.channelEvent (s : State) (c : Fin 12) (f : Channel → Channel) : State :=
  let old := Tab.get s.channels c
  let new := f old
  let s := (s.updChannel c f).offerIf (old.state ≠ new.state) (.source c old.state new.state)
  if old.state ≠ new.state || old.grade ≠ new.grade then s.alertsOfChannel c else s

/-- SET-CHANNEL (R43, R61). -/
def setChannelEffect (params : List Byte) (s : State) : State × Answer :=
  match readSetChannel params with
  | none => (s, .refused .badField)
  | some o =>
    let old := Tab.get s.channels o.channel
    let s := s.updChannel o.channel
      (fun c => { c with patch := o.patch, staleTime := o.staleTime, lostTime := o.lostTime })
    let s :=
      if old.staleTime ≠ o.staleTime || old.lostTime ≠ o.lostTime then
        (s.channelEvent o.channel Channel.compareStale).channelEvent o.channel Channel.compareLost
      else s
    (s, .done o.clamped)

/-- FRAME_AGE_STALE (R60). -/
def execFrameAgeStale (channel : Fin 12) (s : State) : Host.Outcome State Fault Refusal :=
  whenRunning (fun s => s.channelEvent channel Channel.ageStale) s

/-- FRAME_AGE_LOST (R60). -/
def execFrameAgeLost (channel : Fin 12) (s : State) : Host.Outcome State Fault Refusal :=
  whenRunning (fun s => s.channelEvent channel Channel.ageLost) s

end Sys2Proof.Machine
end

