-- ==== Sys2Proof/Machine/Outputs.lean ====
section
/-! DEFINITION. The trunk outputs (spec 02 section 3.3): the management queue, the video queue, the waiting list and the arbiter. -/

namespace Sys2Proof.Machine

/-- The output of a trunk. -/
def State.out (s : State) (t : Trunk) : Output := (s.trunks.get t).out

/-- Queue cuts counted at an output (R34, R35). -/
def State.countQueueCuts (s : State) (t : Trunk) (k : Nat) : State :=
  s.updTrunkCounters t (fun c => { c with queueCuts := bumpTraffic c.queueCuts k })

/-- The cut flag of a stream for an output is set (R34, R37, R40). -/
def State.setCut (s : State) (t : Trunk) (k : Fin 256) : State :=
  s.updFlow k (fun f => { f with cut := f.cut.upd t (fun _ => true) })

/-! ## Management packets -/

/-- Whether an output can take a management packet of the hub's own (R168). -/
def State.mgmtRoom (s : State) (t : Trunk) : Bool := s.trunkUp t && (s.out t).mgmt.length < Config.mgmtPlaces

/-- A management packet enters the management queue (R32). -/
def State.enqueueMgmt (s : State) (t : Trunk) (e : MgmtEntry) : State := s.updOut t (fun o => { o with mgmt := o.mgmt ++ [e] })

/-- A management packet is offered (R32): discarded uncounted on a DOWN link, counted as a drop at a full queue. -/
def State.offerMgmt (s : State) (t : Trunk) (e : MgmtEntry) : State :=
  if !s.trunkUp t then s
  else if (s.out t).mgmt.length < Config.mgmtPlaces then s.enqueueMgmt t e
  else s.updTrunkCounters t (fun c => { c with mgmtDrops := bumpTraffic c.mgmtDrops })

/-- A management packet that arrived on a trunk is forwarded out of `t` (R153): one that would leave by its arrival trunk is
unroutable. -/
def State.forward (s : State) (arrival t : Trunk) (e : MgmtEntry) : State :=
  if t = arrival then s.updTrunkCounters arrival (fun c => { c with unroutable := bumpTraffic c.unroutable })
  else s.offerMgmt t e

/-! ## Picture packets -/

/-- Whether a packet is of a stream. -/
def Packet.ofStream (k : Fin 256) (p : Packet) : Bool := p.stream = some k

/-- A FRAME-OPEN or FRAME-CLOSE of a stream at an output whose link is UP, with the queue cuts it costs (R35). The
combinations R35 does not list replace the waiting packet (entry 25). -/
def Output.control (k : Fin 256) (p : Packet) (o : Output) : Output × Nat :=
  match o.waiting.find? (Packet.ofStream k) with
  | none =>
    if o.video.length < Config.videoPlaces then ({ o with video := o.video ++ [p] }, 0)
    else ({ o with waiting := o.waiting ++ [p] }, 0)
  | some w =>
    if w.isFrameOpen && p.isFrameClose then ({ o with waiting := o.waiting.filter (fun q => !q.ofStream k) }, 2)
    else ({ o with waiting := o.waiting.map (fun q => if q.ofStream k then p else q) }, 1)

/-- A FRAME-OPEN or FRAME-CLOSE is offered to an output (R35, R37). -/
def State.sendControl (s : State) (t : Trunk) (k : Fin 256) (p : Packet) : State :=
  if !s.trunkUp t then s
  else
    let r := (s.out t).control k p
    let s := s.updOut t (fun _ => r.1)
    if r.2 = 0 then s else s.countQueueCuts t r.2

/-- Whether a FRAME-OPEN of a stream waits (R34 case 3). -/
def Output.frameOpenWaits (k : Fin 256) (o : Output) : Bool := o.waiting.any (fun p => p.ofStream k && p.isFrameOpen)

/-- A stored LINE of the open frame is offered to an output: the five cases of R34 (entry 32). -/
def State.offerLine (s : State) (t : Trunk) (k : Fin 256) (p : Packet) : State :=
  if !s.trunkUp t then s.setCut t k
  else if (Tab.get s.streams k).flow.cut.get t then s.countQueueCuts t 1
  else if (s.out t).frameOpenWaits k || Config.videoPlaces ≤ (s.out t).video.length then (s.setCut t k).countQueueCuts t 1
  else s.updOut t (fun o => { o with video := o.video ++ [p] })

/-! ## The arbiter and the link -/

/-- The packet the arbiter takes, and the output after (R30): the head of the management queue, or else of the video queue, whose
freed place goes to the oldest waiting packet. -/
def Output.startNext (o : Output) : Output :=
  match o.mgmt with
  | e :: rest => { o with mgmt := rest, sending := .sending e.packet e.copyOf }
  | [] =>
    match o.video with
    | [] => o
    | p :: rest =>
      match o.waiting with
      | [] => { o with video := rest, sending := .sending p none }
      | w :: ws => { o with video := rest ++ [w], waiting := ws, sending := .sending p none }

/-- Whether the arbiter may start (R30). -/
def State.canStart (s : State) (t : Trunk) : Bool :=
  s.trunkUp t && (s.out t).sending = .idle && !((s.out t).mgmt.isEmpty && (s.out t).video.isEmpty)

/-- TRANSMISSION_START (R30). -/
def execTransmissionStart (trunk : Trunk) (s : State) : Host.Outcome State Fault Refusal :=
  whenRunning (fun s => if s.canStart trunk then s.updOut trunk Output.startNext else s) s

/-- The output ends what it sends, having put these bytes on the link: the sent counter counts it (R31, R39). -/
def State.endTransmission (s : State) (t : Trunk) (tx : Transmission) : State :=
  (s.updOut t (fun o => { o with sending := .idle, lastTx := some tx })).updTrunkCounters t
    (fun c => { c with sent := bumpTraffic c.sent })

/-- A queued packet that is being sent ends (R31). -/
def State.transmissionEnd (s : State) (t : Trunk) : State :=
  match (s.out t).sending with
  | .sending p _ => s.endTransmission t { bytes := p.wire, poisoned := false }
  | .idle => s
  | .cutting _ => s

/-- TRANSMISSION_END (R31). -/
def execTransmissionEnd (trunk : Trunk) (s : State) : Host.Outcome State Fault Refusal :=
  whenRunning (fun s => s.transmissionEnd trunk) s

/-- The stream records when an output's link goes DOWN: the cut flag for the output of every open stream whose route includes it
(R37). -/
def StreamRecord.linkLost (t : Trunk) (r : StreamRecord) : StreamRecord :=
  if r.flow.isOpen && r.entry.sendTo.get t then
    { r with flow := { r.flow with cut := r.flow.cut.upd t (fun _ => true) } }
  else r

/-- An output whose link goes DOWN empties both queues and the waiting list and stops what it sends, counting nothing (R37). -/
def State.outputLinkDown (s : State) (t : Trunk) : State :=
  let s := s.updOut t (fun o => { o with mgmt := [], video := [], waiting := [], sending := .idle })
  { s with streams := s.streams.map (StreamRecord.linkLost t) }

end Sys2Proof.Machine
end

