-- ==== Sys2Proof/Machine/Switch.lean ====
section
/-! DEFINITION. The stream switch (spec 02): routing, closing, origin loss, the two parts of a LINE, cut-through. -/

namespace Sys2Proof.Machine

/-- The stream record of a number. -/
def State.streamRec (s : State) (k : Fin 256) : StreamRecord := Tab.get s.streams k

/-! ## Sending on a route -/

/-- A picture control packet is offered to a trunk output if the route includes it. -/
def State.sendIfRouted (s : State) (e : StreamEntry) (t : Trunk) (k : Fin 256) (p : Packet) : State :=
  if e.sendTo.get t then s.sendControl t k p else s

/-- A channel event at the channel of the route, if there is one (R29). -/
def State.deliver (s : State) (e : StreamEntry) (f : Channel → Channel) : State :=
  match e.channel with
  | some c => s.channelEvent c f
  | none => s

/-- The switch closes an open frame itself: FRAME-CLOSE CUT to every trunk output and the channel of the route; the stream state
then shows the stream closed (R22 step 1, R25 step 1, R28). -/
def State.closeCut (s : State) (k : Fin 256) : State :=
  let r := s.streamRec k
  let p := Packet.frameClose k r.flow.frame .cut
  let s := (s.sendIfRouted r.entry .ta k p).sendIfRouted r.entry .tb k p
  (s.deliver r.entry (Channel.frameClose r.flow.frame .cut)).updFlow k (fun f => { f with isOpen := false })

/-- The stream is closed if it is open. -/
def State.closeIfOpen (s : State) (k : Fin 256) : State := if (s.streamRec k).flow.isOpen then s.closeCut k else s

/-- A port reports origin loss (R13, R28): every open stream with a valid entry and this origin is closed. That several are closed in
ascending order of their numbers, and so which FRAME-CLOSE enters a nearly full output first, is the model's choice (entry 45). -/
def State.originLoss (s : State) (p : Port) : State :=
  (List.finRange 256).foldl
    (fun s k =>
      let r := s.streamRec k
      if r.flow.isOpen && r.entry.valid && r.entry.origin = p then s.closeCut k else s)
    s

/-! ## Picture packets -/

/-- The lookup of R24. -/
inductive Lookup where
  | unrouted
  | misrouted
  | routed
deriving DecidableEq, Repr

/-- The arrival port is compared with the entry's origin (R24). -/
def StreamEntry.lookup (e : StreamEntry) (p : Port) : Lookup :=
  if !e.valid then .unrouted else if e.origin = p then .routed else .misrouted

def State.countUnrouted (s : State) (p : Port) : State :=
  s.updArrivals p (fun c => { c with unrouted := bumpTraffic c.unrouted })

def State.countMisrouted (s : State) (p : Port) : State :=
  s.updArrivals p (fun c => { c with misrouted := bumpTraffic c.misrouted })

def State.countStray (s : State) (p : Port) : State :=
  s.updArrivals p (fun c => { c with stray := bumpTraffic c.stray })

/-- A FRAME-OPEN that passes R24 (R25). -/
def State.routeFrameOpen (s : State) (k : Fin 256) (frame : Nat) (grade : Grade) (home : Nat) : State :=
  let s := s.closeIfOpen k
  let s := s.updFlow k (fun f => { isOpen := true, frame := frame, cut := ⟨false, false⟩, epoch := f.epoch + 1 })
  let e := (s.streamRec k).entry
  let p := Packet.frameOpen k frame grade home
  ((s.sendIfRouted e .ta k p).sendIfRouted e .tb k p).deliver e (Channel.frameOpen frame grade home)

/-- A FRAME-OPEN reaches the switch (R24, R25). -/
def State.switchFrameOpen (s : State) (p : Port) (k : Fin 256) (frame : Nat) (grade : Grade) (home : Nat) : State :=
  match (s.streamRec k).entry.lookup p with
  | .unrouted => s.countUnrouted p
  | .misrouted => s.countMisrouted p
  | .routed => s.routeFrameOpen k frame grade home

/-- The status with which a close leaves a trunk output (R27, R36). -/
def StreamFlow.closeStatus (f : StreamFlow) (t : Trunk) (status : CloseStatus) : CloseStatus :=
  if f.cut.get t then .cut else status

/-- A FRAME-CLOSE of the open frame (R27). -/
def State.routeFrameClose (s : State) (k : Fin 256) (frame : Nat) (status : CloseStatus) : State :=
  let r := s.streamRec k
  let s := s.updFlow k (fun f => { f with isOpen := false })
  let s := s.sendIfRouted r.entry .ta k (.frameClose k frame (r.flow.closeStatus .ta status))
  let s := s.sendIfRouted r.entry .tb k (.frameClose k frame (r.flow.closeStatus .tb status))
  s.deliver r.entry (Channel.frameClose frame status)

/-- A FRAME-CLOSE reaches the switch (R24, R27). -/
def State.switchFrameClose (s : State) (p : Port) (k : Fin 256) (frame : Nat) (status : CloseStatus) : State :=
  let r := s.streamRec k
  match r.entry.lookup p with
  | .unrouted => s.countUnrouted p
  | .misrouted => s.countMisrouted p
  | .routed =>
    if r.flow.isOpen && r.flow.frame = frame then s.routeFrameClose k frame status else s.countStray p

/-! ## The two parts of a LINE -/

/-- What the switch makes of a LINE at its header (R24, R26). -/
def StreamRecord.lineFate (r : StreamRecord) (p : Port) (frame : Nat) : LineFate :=
  match r.entry.lookup p with
  | .unrouted => .unrouted
  | .misrouted => .misrouted
  | .routed => if r.flow.isOpen && r.flow.frame = frame then .belongs r.flow.epoch else .stray

/-- Whether a LINE is sent cut-through at an output (R38). -/
def State.canCutThrough (s : State) (t : Trunk) (r : StreamRecord) : Bool :=
  r.entry.cutThrough.get t && s.trunkUp t && (s.out t).sending = .idle && (s.out t).mgmt.isEmpty && (s.out t).video.isEmpty &&
    !r.flow.cut.get t

/-- The decision for one trunk output at the header of a line of the open frame (R26, R34 cases 1 and 2, R38). -/
def State.lineDecision (s : State) (t : Trunk) (r : StreamRecord) : LineDecision :=
  if !r.entry.sendTo.get t then .offRoute
  else if !s.trunkUp t then .discardedDown
  else if r.flow.cut.get t then .discardedCut
  else if s.canCutThrough t r then .cutThrough
  else .stored

/-- The decision takes effect at the output: a discard on a DOWN link sets the cut flag (R37), a cut-through makes the output
CUTTING (R38). -/
def State.applyDecision (s : State) (p : Port) (k : Fin 256) (t : Trunk) (d : LineDecision) : State :=
  match d with
  | .discardedDown => s.setCut t k
  | .cutThrough => s.updOut t (fun o => { o with sending := .cutting p })
  | .offRoute | .discardedCut | .stored => s

/-- The header of a LINE reaches the switch (R9, R24, R26): the line in arrival is recorded with what was decided. -/
def State.switchLineHeader (s : State) (p : Port) (k : Fin 256) (frame line : Nat) : State :=
  let r := s.streamRec k
  let fate := r.lineFate p frame
  let d : Duo LineDecision :=
    match fate with
    | .belongs _ => ⟨s.lineDecision .ta r, s.lineDecision .tb r⟩
    | .unrouted | .misrouted | .stray => ⟨.offRoute, .offRoute⟩
  let s := s.updRx p (fun x => { x with arrival := some { stream := k, frame := frame, line := line, fate := fate, decisions := d } })
  (s.applyDecision p k .ta d.ta).applyDecision p k .tb d.tb

/-- The end reports of a LINE (R9). -/
inductive EndReport where
  | good
  | poisoned
  | failed
deriving DecidableEq, Repr

/-- The bytes a cut-through line leaves on the link (R38, R39), given the bytes of the packet that arrived: the header as the
switch had it, then the pixel bytes that arrived, then the computed check where the whole line was sent. -/
def LineArrival.transmission (a : LineArrival) (report : EndReport) (bytes : List Byte) : Transmission :=
  let sent := (Packet.line a.stream a.frame a.line ((bytes.drop 6).take Config.lineBytes)).body
  match report with
  | .good => { bytes := withCheck sent, poisoned := false }
  | .poisoned | .failed => { bytes := if sent.length = 2566 then withCheck sent else sent, poisoned := true }

/-- The cut-through copy of a line ends at an output that is still CUTTING it (R39). -/
def State.endCutThrough (s : State) (p : Port) (t : Trunk) (tx : Transmission) : State :=
  if (s.out t).sending = .cutting p then s.endTransmission t tx else s

/-- One trunk output's copy of a line that still belongs to the open frame is settled (R26, R34, R40, entry 32). -/
def State.settleCopy (s : State) (a : LineArrival) (report : EndReport) (pixels : List Byte) (t : Trunk) : State :=
  match a.decisions.get t, report with
  | .stored, .good => s.offerLine t a.stream (.line a.stream a.frame a.line pixels)
  | .stored, _ => s.setCut t a.stream
  | .discardedCut, .failed => s
  | .discardedCut, _ => s.countQueueCuts t 1
  | _, _ => s

/-- The queue cut of a copy that case 2 of R34 discarded at the line's header is counted, as its end report is GOOD or POISONED. -/
def State.countHeaderCut (s : State) (a : LineArrival) (t : Trunk) : State :=
  if a.decisions.get t = .discardedCut then s.countQueueCuts t 1 else s

/-- The switch settles a LINE at its end report (R24, R26). A line whose stream has been closed or reopened since its header is stray
(R26), and the queue cuts of its copies that were discarded at the header are counted all the same (R34): entry 42. -/
def State.settleLine (s : State) (p : Port) (a : LineArrival) (report : EndReport) (bytes : List Byte) : State :=
  let pixels := (bytes.drop 6).take Config.lineBytes
  let r := s.streamRec a.stream
  match a.fate with
  | .unrouted => if report = .failed then s else s.countUnrouted p
  | .misrouted => if report = .failed then s else s.countMisrouted p
  | .stray => if report = .failed then s else s.countStray p
  | .belongs epoch =>
    if r.flow.isOpen && r.flow.epoch = epoch then
      let s := (s.settleCopy a report pixels .ta).settleCopy a report pixels .tb
      match report with
      | .good => s.deliver r.entry (Channel.line a.frame a.line pixels false)
      | .poisoned => s.deliver r.entry (Channel.line a.frame a.line pixels true)
      | .failed => s
    else if report = .failed then s
    else ((s.countHeaderCut a .ta).countHeaderCut a .tb).countStray p

/-- The end of a LINE in arrival is reported (R9, R26, R39): cut-through copies end in every case, the rest is settled. `bytes` is
what arrived of the packet, from its kind byte. -/
def State.reportLineEnd (s : State) (p : Port) (report : EndReport) (bytes : List Byte) : State :=
  match (s.rx p).arrival with
  | none => s
  | some a =>
    let s := s.updRx p (fun x => { x with arrival := none })
    let tx := a.transmission report bytes
    ((s.endCutThrough p .ta tx).endCutThrough p .tb tx).settleLine p a report bytes

/-- The end of a LINE is still to come, and the port does not form it (R2, R9, R10). -/
def State.markUnformed (s : State) (p : Port) (u : UnformedLine) : State := s.updRx p (fun x => { x with unformed := some u })

/-- A LINE in arrival is abandoned by RESTART-PORT or the disabling of its port (R9, R10, R15): it ends FAILED, and the rest of it is not
formed. How much of it had arrived is a free value (entry 9). -/
def State.abandonArrival (s : State) (p : Port) : State :=
  match (s.rx p).arrival with
  | none => s
  | some a =>
    ({ s with freeUsed := s.freeUsed + 1 }.reportLineEnd p .failed
      (List.replicate 6 0 ++ Config.arrivedTail s.freeUsed)).markUnformed p ⟨a.stream, a.frame, a.line⟩

/-! ## The stream table -/

/-- Whether another valid entry names the channel (R21 check 7). -/
def State.channelTaken (s : State) (k : Fin 256) (c : Fin 12) : Bool :=
  (List.finRange 256).any (fun j => j ≠ k && (s.streamRec j).entry.valid && (s.streamRec j).entry.channel = some c)

/-- LOAD-STREAM (R21, R22). -/
def loadStreamEffect (params : List Byte) (s : State) : State × Answer :=
  match readLoadStream params with
  | none => (s, .refused .badField)
  | some (k, e) =>
    if (e.channel.map (s.channelTaken k)).getD false then (s, .refused .inUse)
    else
      let old := (s.streamRec k).entry
      let s :=
        if (s.streamRec k).flow.isOpen then
          (s.closeCut k).updFlow k (fun f => { f with cut := ⟨false, false⟩ })
        else s
      let s := if old.channel ≠ e.channel then s.deliver old Channel.unbind else s
      let s := s.updStream k (fun r => { r with entry := e })
      let s := if old.channel ≠ e.channel then s.deliver e (Channel.bind k) else s
      (s, .done false)

end Sys2Proof.Machine
end

