-- ==== Sys2Proof/Machine/Lens.lean ====
section
/-! DEFINITION. The lens assessor: measures and grading (spec 04), learning, baselines and profiles (spec 05). -/

namespace Sys2Proof.Machine

/-! ## Measuring a line (spec 04 sections 5.2) -/

/-- The members of a list at even places. -/
def evenPlaces {α : Type} : List α → List α
  | [] => []
  | [a] => [a]
  | a :: _ :: rest => a :: evenPlaces rest

/-- The lumas of a line, column by column (R5). -/
def lumas (pixels : List Byte) : List Nat := (evenPlaces pixels).map (·.toNat)

/-- The sampled columns of a zone's 160 columns of a row: even columns, or odd columns in the odd phase (R67). Each is paired with
the next. -/
def zoneSamples (odd : Bool) (row : List Nat) (column : Nat) : List Nat :=
  evenPlaces (((row.drop (160 * column)).take 160).drop (if odd then 1 else 0))

/-- The term of a sample pair (R68). -/
def pairTerm (noise y0 y2 : Nat) : Nat :=
  let d := if y0 ≤ y2 then y2 - y0 else y0 - y2
  min (d - noise) 63

/-- The terms of consecutive samples, added. -/
def sumTerms (noise : Nat) : List Nat → Nat
  | a :: b :: rest => pairTerm noise a b + sumTerms noise (b :: rest)
  | _ => 0

/-- The lumas of the first pixels of the pairs, added (R69): every sample but the last. -/
def sumFirsts : List Nat → Nat
  | a :: b :: rest => a + sumFirsts (b :: rest)
  | _ => 0

/-- Whether a row is sampled in a phase (R67). -/
def sampledRow (odd : Bool) (y : Nat) : Bool := y % 4 = if odd then 2 else 0

/-- A line added to a frame measure (R68, R69, R70). -/
def Measure.addLine (m : Measure) (y : Nat) (pixels : List Byte) : Measure :=
  if sampledRow m.odd y then
    let row := lumas pixels
    { m with
      sums := Vector.ofFn (fun z : Fin 48 =>
        if z.val / 8 = y / 120 then m.sums[z] + sumTerms m.noise (zoneSamples m.odd row (z.val % 8)) else m.sums[z])
      luma := m.luma + ((List.range 8).map (fun c => sumFirsts (zoneSamples m.odd row c))).sum }
  else m

/-- The frame measure created at a FRAME-OPEN (R66). -/
def Measure.start (frame noise : Nat) : Measure :=
  { frame := frame, odd := frame % 2 = 1, noise := noise, sums := .zero, luma := 0, void := false }

/-! ## Verdicts and grading (spec 04 sections 5.3 to 5.7) -/

/-- The verdict of a group from its brightness (R75). -/
def Profile.verdict (p : Profile) (m : Nat) : Verdict :=
  if m < p.dark then .dark else if p.glare < m then .glare else .judged

/-- A clarity figure (R77). -/
def clarityOf (energy baseline : Nat) : Nat := if baseline = 0 then 0 else min (energy * 100 / baseline) 250

/-- The number of zones with a property. -/
def countZones (f : Fin 48 → Bool) : Nat := ((List.finRange 48).filter f).length

/-- The number of judgeable zones (R78, R90). -/
def judgeable (baselines : Zones) : Nat := countZones (fun z => baselines[z] ≠ 0)

/-- The number of dull zones (R78). -/
def dullZones (threshold : Nat) (baselines clarity : Zones) : Nat :=
  countZones (fun z => baselines[z] ≠ 0 && clarity[z] < threshold)

/-- The candidate grade of a dull share (R78). -/
def Profile.candidate (p : Profile) (share : Nat) : Grade :=
  if share < p.h1 then .clean else if share < p.h2 then .haze else if share < p.h3 then .smear else .blocked

/-- The persistence step (R79). -/
def Lens.persist (p : Profile) (candidate : Grade) (l : Lens) : Lens :=
  if candidate = l.stated then { l with pending := none, run := 0 }
  else
    let run := if l.pending = some candidate then l.run + 1 else 1
    let limit := if candidate.worse l.stated then p.kWorse else p.kBetter
    if limit ≤ run then { l with stated := candidate, pending := none, run := 0 }
    else { l with pending := some candidate, run := run }

/-- A baseline moved toward an energy (R81). -/
def driftBaseline (shift baseline energy : Nat) : Nat :=
  if baseline ≤ energy then baseline + (energy - baseline) / 2 ^ shift
  else max Config.baselineMin (baseline - (baseline - energy) / 2 ^ shift)

/-- The drift of a JUDGED group (R81); `l` is the record after its persistence step. -/
def Lens.driftBy (p : Profile) (candidate : Grade) (energies : Zones) (l : Lens) : Lens :=
  if p.drift ≠ 0 && l.stated = .clean && candidate = .clean then
    { l with baselines := Vector.ofFn (fun z : Fin 48 =>
        if l.baselines[z] ≠ 0 && p.threshold ≤ l.clarity[z] then driftBaseline p.drift l.baselines[z] energies[z]
        else l.baselines[z]) }
  else l

/-- A JUDGED group of an ASSESSING record (R77 to R81). -/
def Lens.assess (p : Profile) (energies : Zones) (l : Lens) : Lens :=
  let clarity : Zones := Vector.ofFn (fun z => clarityOf energies[z] l.baselines[z])
  let j := judgeable l.baselines
  let share := dullZones p.threshold l.baselines clarity * 100 / j
  let candidate := p.candidate share
  ({ l with clarity := clarity, share := share, lastJ := j, verdict := some .judged }.persist p candidate).driftBy p candidate
    energies

/-- The baselines of a learning that has gathered `n` groups (R90). -/
def formBaselines (sums : Zones) (n : Nat) : Zones :=
  sums.map (fun sum => if sum / n < Config.baselineMin then 0 else sum / n)

/-- A learning ends without baselines (R89, R91, R95, R98): the learning fields keep their values. -/
def Lens.unlearn (l : Lens) : Lens := { l with state := .unlearned, baselines := .zero }

/-- A JUDGED group of a LEARNING record (R88, R90, R91), and how the learning ended if it did. -/
def Lens.gather (energies : Zones) (l : Lens) : Lens × Option LearnEnd :=
  let l := { l with sums := Vector.zipWith (· + ·) l.sums energies, count := l.count + 1, nonJudged := 0
                    verdict := some .judged }
  if l.count = l.target then
    let baselines := formBaselines l.sums l.target
    let j := judgeable baselines
    if Config.zonesMin ≤ j then
      ({ l with state := .assessing, stated := .clean, pending := none, run := 0, baselines := baselines, clarity := .zero
                share := 0, lastJ := j }, some (.learned j))
    else (l.unlearn, some (.noTexture j))
  else (l, none)

/-- A DARK, GLARE or INCOMPLETE verdict (R76, R88, R89). -/
def Lens.notJudged (v : Verdict) (l : Lens) : Lens × Option LearnEnd :=
  let l := { l with verdict := some v }
  if l.state = .learning then
    let l := { l with nonJudged := bumpError l.nonJudged }
    if l.nonJudged = 255 then (l.unlearn, some .tooDark) else (l, none)
  else (l, none)

/-- A JUDGED group by lens state (R76). -/
def Lens.judged (p : Profile) (energies : Zones) (l : Lens) : Lens × Option LearnEnd :=
  match l.state with
  | .unlearned => ({ l with verdict := some .judged }, none)
  | .learning => l.gather energies
  | .assessing => (l.assess p energies, none)

/-- A group of these energies and this brightness (R75, R76). -/
def Lens.group (p : Profile) (energies : Zones) (brightness : Nat) (l : Lens) : Lens × Option LearnEnd :=
  match p.verdict brightness with
  | .judged => l.judged p energies
  | v => l.notJudged v

/-- A complete frame, by pair mode (R72). -/
def Lens.completeFrame (p : Profile) (energies : Zones) (luma : Nat) (l : Lens) : Lens × Option LearnEnd :=
  if p.pair then
    match l.half with
    | none => ({ l with half := some ⟨energies, luma⟩ }, none)
    | some h => { l with half := none }.group p (Vector.zipWith (· + ·) h.energies energies) ((h.luma + luma) / 227520)
  else l.group p energies (luma / 113760)

/-- The frame open at the port ends (R71): its measure is taken away, and a complete frame is grouped unless it is void. -/
def Lens.frameEnd (p : Profile) (complete : Bool) (l : Lens) : Lens × Option LearnEnd :=
  match l.measure with
  | some m =>
    if complete && !m.void then { l with measure := none }.completeFrame p m.sums m.luma
    else { l with measure := none, half := none }.notJudged .incomplete
  | none => { l with half := none }.notJudged .incomplete

/-- A changed noise floor, pair mode or profile number (R74, R95, R97). -/
def Lens.scaleChanged (l : Lens) : Lens × Option LearnEnd :=
  let l := { l with half := none, measure := l.measure.map (fun (m : Measure) => { m with void := true }) }
  match l.state with
  | .unlearned => (l, none)
  | .learning => (l.unlearn, some .profileChanged)
  | .assessing => ({ l.unlearn with stated := .unjudged, pending := none, run := 0 }, none)

/-- Other profile fields changed (R96). -/
def Lens.settingsChanged (l : Lens) : Lens :=
  if l.state = .assessing then { l with pending := none, run := 0 } else l

/-- RESTART-PORT or the enable turned off abandons a learning (R98). -/
def Lens.portStopped (l : Lens) : Lens × Option LearnEnd :=
  if l.state = .learning then (l.unlearn, some .portRestart) else (l, none)

/-- LEARN accepted (R86). -/
def Lens.startLearning (p : Profile) (l : Lens) : Lens :=
  { l with baselines := .zero, state := .learning, stated := .unjudged, pending := none, run := 0, sums := .zero, count := 0
           nonJudged := 0, target := p.learn }

/-! ## The lens record among the other blocks -/

/-- The lens record of a camera port. -/
def State.lens (s : State) (i : Fin 8) : Lens := Tab.get s.lenses i

/-- The profile a camera port names. -/
def State.profileOf (s : State) (i : Fin 8) : Profile := Tab.get s.profiles (Tab.get s.cams i).profile

/-- The dull share a GRADE notice carries: that of the group for a change made by persistence, and 0 for every other change
(R80, R86, R91, R95, R177). -/
def gradeShare (old new : Lens) : Nat := if old.state = .assessing && new.state = .assessing then new.share else 0

/-- An event at a lens record (R80, R92): a change of the stated grade offers a GRADE notice and is seen by the alert entries that
name the port, and the end of a learning offers a LEARN-END notice after it. -/
def State.lensEvent (s : State) (i : Fin 8) (f : Lens → Lens × Option LearnEnd) : State :=
  let old := s.lens i
  let r := f old
  let s := (s.updLens i (fun _ => r.1)).offerIf (old.stated ≠ r.1.stated) (.grade i old.stated r.1.stated (gradeShare old r.1))
  let s := if old.stated ≠ r.1.stated then s.alertsOfPort i else s
  match r.2 with
  | some e => s.offer (.learnEnd i e)
  | none => s

/-! ## The open frame of a camera port (R12) -/

/-- The open frame ends, complete or not, and is handed to the assessor (R12, R71). -/
def State.endOpenFrame (s : State) (i : Fin 8) (complete : Bool) : State :=
  match (Tab.get s.cams i).openFrame with
  | none => s
  | some _ => (s.updCam i (fun c => { c with openFrame := none })).lensEvent i (Lens.frameEnd (s.profileOf i) complete)

/-- A FRAME-OPEN handed on by a camera port (R12, R66). -/
def State.openCameraFrame (s : State) (i : Fin 8) (frame : Nat) : State :=
  let s := s.endOpenFrame i false
  (s.updCam i (fun c => { c with openFrame := some ⟨frame, []⟩ })).updLens i
    (fun l => { l with measure := some (Measure.start frame (s.profileOf i).noise) })

/-- A LINE handed on with a good end by a camera port: it is offered to the assessor (R12, R70). -/
def State.cameraLine (s : State) (i : Fin 8) (frame line : Nat) (pixels : List Byte) : State :=
  match (Tab.get s.cams i).openFrame with
  | none => s
  | some f =>
    if f.frame = frame && !f.good.contains line then
      (s.updCam i (fun c => { c with openFrame := some { f with good := insertLine line f.good } })).updLens i
        (fun l => { l with measure := l.measure.map (fun m => m.addLine line pixels) })
    else s

/-- A FRAME-CLOSE handed on by a camera port (R12). -/
def State.closeCameraFrame (s : State) (i : Fin 8) (frame : Nat) (status : CloseStatus) : State :=
  match (Tab.get s.cams i).openFrame with
  | none => s
  | some f =>
    if f.frame = frame then s.endOpenFrame i (f.good.length = Config.lines && status = .whole) else s

/-- The link goes DOWN, the port is restarted or disabled: the open frame ends incomplete and the half pair is discarded, also
when no frame is open (R12, R73). -/
def State.loseCameraFrame (s : State) (i : Fin 8) : State :=
  (s.endOpenFrame i false).updLens i (fun l => { l with half := none })

/-! ## Orders -/

/-- An event at the lens record of every camera port that names a profile (R95, R96). That the ports are taken from CP0 to CP7, and so
which notices find the last free places, is the model's choice (entry 46). -/
def State.lensEventsOfProfile (s : State) (lp : Fin 4) (f : Lens → Lens × Option LearnEnd) : State :=
  (List.finRange 8).foldl (fun s i => if (Tab.get s.cams i).profile = lp then s.lensEvent i f else s) s

/-- LOAD-PROFILE (R94, R95, R96), and an entry of the PROFILES section as this order (R176): during the load too a changed noise floor or
pair mode voids an open frame measure and drops a half pair (R74), while the UNLEARNED records stay as R99 has them. That R99 leaves
R74 in force is the model's choice, entry 43. -/
def loadProfileEffect (params : List Byte) (s : State) : State × Answer :=
  match readLoadProfile params with
  | none => (s, .refused .badField)
  | some (lp, p, clamped) =>
    let old := Tab.get s.profiles lp
    let s := { s with profiles := Tab.upd s.profiles lp (fun _ => p) }
    let s :=
      if old.noise ≠ p.noise || old.pair ≠ p.pair then s.lensEventsOfProfile lp Lens.scaleChanged
      else if old ≠ p then s.lensEventsOfProfile lp (fun l => (l.settingsChanged, none))
      else s
    (s, .done clamped)

/-- LEARN (R86). -/
def learnEffect (params : List Byte) (s : State) : State × Answer :=
  match instanceOf 8 (byteAt params 0) with
  | none => (s, .refused .badField)
  | some i => (s.lensEvent i (fun l => (l.startLearning (s.profileOf i), none)), .done false)

/-- QUERY-ZONES (R83, R163): the 48 clarity figures, then the 48 baseline-present marks. -/
def queryZonesEffect (params : List Byte) (s : State) : State × Answer :=
  match instanceOf 8 (byteAt params 0) with
  | none => (s, .refused .badField)
  | some i =>
    (s, .data 0 1 (((s.lens i).clarity.toList.map (BitVec.ofNat 8)) ++
      (s.lens i).baselines.toList.map (fun b => if b ≠ 0 then 1 else 0)))

end Sys2Proof.Machine
end

