-- ==== Sys2Proof/Machine/Travel.lean ====
section
/-! DEFINITION. How orders and notices travel through the order unit: routing, forwarding, consuming (spec 09 sections 10.2, 10.3),
and the moving of the notice queue's head to the trunks (R168). -/

namespace Sys2Proof.Machine

/-- The silence timer stops with this much of its time left; a timer that has stopped already stays as it stopped (R110, R163). -/
def HubRecord.stopSilence (h : HubRecord) : HubRecord :=
  { h with silenceTimer := none, silenceStopped := h.silenceTimer.getD h.silenceStopped }

/-- The silence timer restarts with the whole silence time, or stops when that time is 0 (R110). -/
def HubRecord.restartSilence (h : HubRecord) : HubRecord :=
  if h.silenceTime = 0 then h.stopSilence else { h with silenceTimer := some (h.silenceTime * 1000) }

/-- The controller side of a trunk. -/
def Side.ofTrunk : Trunk → Side
  | .ta => .ta
  | .tb => .tb

/-- The lower-numbered FREE order slot (R155). -/
def OrderUnit.freeSlot (u : OrderUnit) : Option (Fin 2) := (List.finRange 2).find? (fun i => Tab.get u.slots i = .free)

/-- A consumed order is offered to the order slots (R155). -/
def OrderUnit.offerOrder (u : OrderUnit) (o : HeldOrder) : OrderUnit :=
  match u.freeSlot with
  | some i => { u with slots := Tab.upd u.slots i (fun _ => .pending o) }
  | none => { u with hub := { u.hub with overflow := bumpError u.hub.overflow } }

/-- Consumption (R154): the controller side, the silence timer, then the order slots. -/
def OrderUnit.consume (u : OrderUnit) (arrival : Trunk) (broadcast : Bool) (code tag : Byte) (params : List Byte) : OrderUnit :=
  { u with hub := { u.hub with side := .ofTrunk arrival }.restartSilence, nextSeq := u.nextSeq + 1 }.offerOrder
    { code := code, tag := tag, params := params, arrival := arrival, seq := u.nextSeq, broadcast := broadcast }

/-- A good ORDER arrival (R152, R153). -/
def State.takeOrder (s : State) (arrival : Trunk) (dest code tag : Byte) (params : List Byte) : State :=
  let p := Packet.order dest code tag params
  let own := s.orders.hub.number
  if dest.toNat = 0 then
    (s.updOrders (fun u => u.consume arrival true code tag params)).forward arrival arrival.other
      { packet := p, copyOf := some s.orders.nextSeq }
  else if own = 0 then s.forward arrival arrival.other { packet := p, copyOf := none }
  else if dest.toNat = own then s.updOrders (fun u => u.consume arrival false code tag params)
  else if dest.toNat < own then s.forward arrival .ta { packet := p, copyOf := none }
  else s.forward arrival .tb { packet := p, copyOf := none }

/-- A good NOTICE arrival is forwarded out the other trunk (R169). -/
def State.takeNotice (s : State) (arrival : Trunk) (p : Packet) : State :=
  s.forward arrival arrival.other { packet := p, copyOf := none }

/-- The trunks the head of the notice queue would enter now (R168); none when it stays. -/
def State.noticeTargets (s : State) : List Trunk :=
  match s.orders.hub.side with
  | .ta => if s.mgmtRoom .ta then [.ta] else []
  | .tb => if s.mgmtRoom .tb then [.tb] else []
  | .both =>
    if s.trunkUp .ta && s.trunkUp .tb then
      if s.mgmtRoom .ta && s.mgmtRoom .tb then [.ta, .tb] else []
    else if s.mgmtRoom .ta then [.ta]
    else if s.mgmtRoom .tb then [.tb]
    else []

/-- The head of the notice queue moves (R168). -/
def State.moveNotice (s : State) : State :=
  match s.orders.queue, s.noticeTargets with
  | n :: rest, t :: ts =>
    let e : MgmtEntry := { packet := n.packet s.orders.hub, copyOf := none }
    (t :: ts).foldl (fun s t => s.enqueueMgmt t e) (s.updOrders (fun u => { u with queue := rest }))
  | _, _ => s

/-- NOTICE_MOVE (R168). -/
def execNoticeMove (s : State) : Host.Outcome State Fault Refusal := whenRunning State.moveNotice s

end Sys2Proof.Machine
end

