-- ==== Sys2Proof/Machine/Ports.lean ====
section
/-! DEFINITION. The ports (spec 01): arrivals and their judging, link states, and the two orders that act on a port. -/

namespace Sys2Proof.Machine

/-! ## Arrivals -/

/-- Whether a port is a trunk port. -/
def isTrunkPort : Port → Bool
  | .trunk _ => true
  | .cam _ => false

/-- Received packets are counted (R8). -/
def State.countReceived (s : State) (p : Port) : State :=
  s.updArrivals p (fun c => { c with received := bumpTraffic c.received })

/-- A framing fault is counted (R1). -/
def State.countFraming (s : State) (p : Port) : State :=
  s.updArrivals p (fun c => { c with framing := bumpError c.framing })

/-- A shape fault is counted (R6, R7, R9). -/
def State.countShape (s : State) (p : Port) : State :=
  s.updArrivals p (fun c => { c with shape := bumpError c.shape })

/-- A fault of R6 is counted. -/
def State.countFault (s : State) (p : Port) : PacketFault → State
  | .check => s.updArrivals p (fun c => { c with check := bumpError c.check })
  | .shape => s.countShape p

/-- A poisoned arrival is counted at a trunk port (R7). -/
def State.countPoisoned (s : State) (p : Port) : State :=
  match p with
  | .trunk t => s.updTrunkCounters t (fun c => { c with poisoned := bumpError c.poisoned })
  | .cam _ => s

/-- The port ignores every symbol until the next START, or no longer does (R1, R9). -/
def State.setIgnoring (s : State) (p : Port) (b : Bool) : State := s.updRx p (fun x => { x with ignoring := b })

/-- The stream number under which a port hands a picture packet on (R11). -/
def State.arrivalStream (s : State) (p : Port) (given : Byte) : Fin 256 :=
  match p with
  | .cam i => (Tab.get s.cams i).stream
  | .trunk _ => streamOf given

/-- A LINE whose line number is above 719 is a shape fault and is discarded (R9). A LINE still in arrival ends FAILED first (entry 5). -/
def State.judgeHighLine (s : State) (p : Port) : State := (s.reportLineEnd p .failed []).countShape p

/-- The header of a LINE at a port that forms packets (R9): of one whose line number is above 719 the port forms nothing more. A LINE
still in arrival there ends FAILED first (entry 5). -/
def State.takeHeader (s : State) (p : Port) (stream : Byte) (frame line : Nat) : State :=
  if 719 < line then ((s.judgeHighLine p).setIgnoring p true).markUnformed p ⟨s.arrivalStream p stream, frame, line⟩
  else ((s.reportLineEnd p .failed []).setIgnoring p false).switchLineHeader p (s.arrivalStream p stream) frame line

/-- No LINE under way is left unformed at a port. -/
def State.clearUnformed (s : State) (p : Port) : State := s.updRx p (fun x => { x with unformed := none })

/-- LINE_HEADER (R9). A port that forms no packets does not form the rest of the LINE either, also if it forms packets by then (R2, R10). -/
def execLineHeader (port : Port) (stream : Byte) (frame line : BitVec 16) (s : State) : Host.Outcome State Fault Refusal :=
  whenRunning (fun s =>
    if s.receives port then (s.clearUnformed port).takeHeader port stream frame.toNat line.toNat
    else (s.setIgnoring port false).markUnformed port ⟨s.arrivalStream port stream, frame.toNat, line.toNat⟩) s

/-- Whether these bytes hold the LINE of this stream, frame and line. A camera port renumbers the stream and does not compare it. -/
def holdsLine (p : Port) (stream : Fin 256) (frame line : Nat) (bytes : List Byte) : Bool :=
  frame = wordAt bytes 2 && line = wordAt bytes 4 && (!isTrunkPort p || stream = streamOf (bytes.getD 1 0))

/-- Whether the LINE in arrival at a port is the one these bytes hold (entry 5). -/
def State.headerTaken (s : State) (p : Port) (bytes : List Byte) : Bool :=
  match (s.rx p).arrival with
  | some a => holdsLine p a.stream a.frame a.line bytes
  | none => false

/-- Whether these bytes are of the LINE that a port does not form (R2, R9, R10, R15). -/
def State.isUnformed (s : State) (p : Port) (bytes : List Byte) : Bool :=
  match (s.rx p).unformed with
  | some u => hasLineHeader bytes && holdsLine p u.stream u.frame u.line bytes
  | none => false

/-- A packet of these bytes is over. A port that forms packets does `f` with it, unless it is the LINE that the port does not form (R2,
R9, R10, R15); otherwise the port waits for the next START alone, through the packet's further symbols if it `goesOn`. -/
def State.packetOver (s : State) (p : Port) (bytes : List Byte) (goesOn : Bool) (f : State → State) : State :=
  if s.receives p && !s.isUnformed p bytes then f (s.clearUnformed p)
  else (s.clearUnformed p).setIgnoring p goesOn

/-- The header of the LINE that these bytes hold has been handed on, now if not before (R9, entry 5). -/
def State.ensureHeader (s : State) (p : Port) (bytes : List Byte) : State :=
  if s.headerTaken p bytes then s else s.takeHeader p (bytes.getD 1 0) (wordAt bytes 2) (wordAt bytes 4)

/-- A framing fault: the packet is discarded and counted, and a LINE whose header was handed on ends FAILED (R1, R9). -/
def State.framingFault (s : State) (p : Port) (cause : FramingCause) (bytes : List Byte) : State :=
  if hasLineHeader bytes && 719 < wordAt bytes 4 then (s.judgeHighLine p).setIgnoring p (cause ≠ .startInside)
  else
    let s := if hasLineHeader bytes then (s.setIgnoring p false).ensureHeader p bytes else s
    ((s.countFraming p).reportLineEnd p .failed bytes).setIgnoring p (cause = .overLong)

/-- FRAMING_FAULT (R1). -/
def execFramingFault (port : Port) (cause : FramingCause) (bytes : List Byte) (s : State) : Host.Outcome State Fault Refusal :=
  whenRunning (fun s => s.packetOver port bytes (cause ≠ .startInside) (fun s => s.framingFault port cause bytes)) s

/-- Whether these bytes are of a packet that the port has discarded as over-long, and whose rest it ignores (R1). -/
def State.isOverLongRest (s : State) (p : Port) (bytes : List Byte) : Bool :=
  (s.rx p).ignoring && Config.longestPacket < bytes.length

/-- An over-long packet that closes: a framing fault, counted now if not before (R1). -/
def State.overLongEnd (s : State) (p : Port) (bytes : List Byte) : State :=
  (if s.isOverLongRest p bytes then s else s.framingFault p .overLong bytes).setIgnoring p false

/-- A good FRAME-OPEN is handed on (R8, R11, R12): a camera port renumbers it and stamps its stated grade and the hub number. -/
def State.handFrameOpen (s : State) (p : Port) (k : Fin 256) (frame : Nat) (grade : Grade) (home : Nat) : State :=
  let s := s.countReceived p
  match p with
  | .cam i =>
    let grade := (s.lens i).stated
    (s.openCameraFrame i frame).switchFrameOpen p (Tab.get s.cams i).stream frame grade s.orders.hub.number
  | .trunk _ => s.switchFrameOpen p k frame grade home

/-- A good FRAME-CLOSE is handed on (R8, R11, R12). At a camera port the lens record takes the end of the frame before the switch and
its channel take the close, and so do the alert entries that watch both (R145): the model's choice, entry 44. -/
def State.handFrameClose (s : State) (p : Port) (k : Fin 256) (frame : Nat) (status : CloseStatus) : State :=
  let s := s.countReceived p
  match p with
  | .cam i => (s.closeCameraFrame i frame status).switchFrameClose p (Tab.get s.cams i).stream frame status
  | .trunk _ => s.switchFrameClose p k frame status

/-- A good LINE is handed on (R8, R12): a camera port offers it to the assessor, then its end is reported. -/
def State.handLine (s : State) (p : Port) (frame line : Nat) (pixels bytes : List Byte) : State :=
  let s := s.countReceived p
  match p with
  | .cam i => (s.cameraLine i frame line pixels).reportLineEnd p .good bytes
  | .trunk _ => s.reportLineEnd p .good bytes

/-- A good arrival is handed on to its one consumer (R8). -/
def State.handOn (s : State) (p : Port) (packet : Packet) (bytes : List Byte) : State :=
  match packet, p with
  | .frameOpen k f g h, p => s.handFrameOpen p k f g h
  | .frameClose k f st, p => s.handFrameClose p k f st
  | .line _ f n pixels, p => s.handLine p f n pixels bytes
  | .order dest code tag params, .trunk t => (s.countReceived p).takeOrder t dest code tag params
  | .notice source code subject lost params, .trunk t => (s.countReceived p).takeNotice t (.notice source code subject lost params)
  | .order _ _ _ _, .cam _ => s
  | .notice _ _ _ _ _, .cam _ => s

/-- A packet that closes with END is judged, then discarded or handed on (R6, R8, R9). -/
def State.judgeArrival (s : State) (p : Port) (bytes : List Byte) : State :=
  match judgePacket (isTrunkPort p) bytes with
  | .error fault => (s.countFault p fault).reportLineEnd p .failed bytes
  | .ok packet => s.handOn p packet bytes

/-- A packet of these bytes closes with END at a port that forms packets (R1, R6, R9). -/
def State.packetEnd (s : State) (p : Port) (bytes : List Byte) : State :=
  if Config.longestPacket < bytes.length then s.overLongEnd p bytes
  else if hasLineHeader bytes then
    if 719 < wordAt bytes 4 then (s.judgeHighLine p).setIgnoring p false
    else ((s.setIgnoring p false).ensureHeader p bytes).judgeArrival p bytes
  else ((s.reportLineEnd p .failed []).setIgnoring p false).judgeArrival p bytes

/-- PACKET_END (R6). -/
def execPacketEnd (port : Port) (bytes : List Byte) (s : State) : Host.Outcome State Fault Refusal :=
  whenRunning (fun s => s.packetOver port bytes false (fun s => s.packetEnd port bytes)) s

/-- A poisoned packet that is not handed on is discarded (R7): a trunk port counts it poisoned, a camera port as a shape fault. A
line in arrival ends FAILED (entry 6). -/
def State.discardPoisoned (s : State) (p : Port) (bytes : List Byte) : State :=
  (match p with
    | .trunk _ => s.countPoisoned p
    | .cam _ => s.countShape p).reportLineEnd p .failed bytes

/-- A packet of these bytes closes with END-POISON at a port that forms packets (R7, R9). -/
def State.poisonedArrival (s : State) (p : Port) (bytes : List Byte) : State :=
  if Config.longestPacket < bytes.length then s.overLongEnd p bytes
  else if hasLineHeader bytes then
    if 719 < wordAt bytes 4 then (s.judgeHighLine p).setIgnoring p false
    else
      let s := (s.setIgnoring p false).ensureHeader p bytes
      if bytes.length = Config.longestPacket then ((s.countPoisoned p).countReceived p).reportLineEnd p .poisoned bytes
      else s.discardPoisoned p bytes
  else ((s.reportLineEnd p .failed []).setIgnoring p false).discardPoisoned p bytes

/-- POISONED_ARRIVAL (R7). -/
def execPoisonedArrival (port : Port) (bytes : List Byte) (s : State) : Host.Outcome State Fault Refusal :=
  whenRunning (fun s => s.packetOver port bytes false (fun s => s.poisonedArrival port bytes)) s

/-! ## Link states -/

/-- A DOWN link comes UP (R2, R16). -/
def State.linkUp (s : State) (p : Port) : State :=
  if (s.rx p).link = .down && (s.rx p).hold.isNone then
    (s.updRx p (fun x => { x with link := .up })).offer (.link p .down .up)
  else s

/-- LINK_UP (R2). -/
def execLinkUp (port : Port) (s : State) : Host.Outcome State Fault Refusal := whenRunning (fun s => s.linkUp port) s

/-- What a port whose link is no longer UP reports to its neighbours: the open frame ends incomplete (R12, R73), the output is
emptied (R37), and the switch hears of origin loss (R13). -/
def State.portLost (s : State) (p : Port) : State :=
  (match p with
    | .cam i => s.loseCameraFrame i
    | .trunk t => s.outputLinkDown t).originLoss p

/-- Whether a port counts what it receives: a disabled camera port counts nothing (R10). -/
def State.counts (s : State) (p : Port) : Bool :=
  match p with
  | .cam i => (Tab.get s.cams i).enable
  | .trunk _ => true

/-- An UP link goes DOWN (R2): an open packet is a framing fault, unless the port does not form it (R10) or ignores it (R1, R9), and a LINE
whose header was handed on ends FAILED. -/
def State.linkDown (s : State) (p : Port) (arrived : Option (List Byte)) : State :=
  if (s.rx p).link = .up then
    let bytes := arrived.getD []
    let opened := (arrived.isSome || (s.rx p).arrival.isSome) && s.counts p && !s.isUnformed p bytes && !s.isOverLongRest p bytes
    let s := if opened then s.framingFault p .idleOrInvalid bytes else s.reportLineEnd p .failed bytes
    ((s.updRx p (fun x => { x with link := .down, unformed := none, ignoring := false })).offer (.link p .up .down)).portLost p
  else s

/-- LINK_DOWN (R2). -/
def execLinkDown (port : Port) (arrived : Option (List Byte)) (s : State) : Host.Outcome State Fault Refusal :=
  whenRunning (fun s => s.linkDown port arrived) s

/-- RESTART_HOLD_END (R15). -/
def execRestartHoldEnd (port : Port) (s : State) : Host.Outcome State Fault Refusal :=
  whenRunning (fun s => s.updRx port (fun x => { x with hold := none })) s

/-! ## SET-PORT and RESTART-PORT -/

/-- Whether another enabled camera port carries a stream number (R14). -/
def State.streamClash (s : State) (i : Fin 8) (k : Fin 256) : Bool :=
  (List.finRange 8).any (fun j => j ≠ i && (Tab.get s.cams j).enable && (Tab.get s.cams j).stream = k)

/-- The lens record of a port that is restarted or disabled (R98): a learning is abandoned. -/
def State.stopLens (s : State) (i : Fin 8) : State := s.lensEvent i Lens.portStopped

/-- What turning a camera port's enable off does (R10, R13, R73, R98). -/
def State.disablePort (s : State) (i : Fin 8) : State :=
  (((s.abandonArrival (.cam i)).stopLens i).loseCameraFrame i).originLoss (.cam i)

/-- SET-PORT (R14): the fields are stored, then each change has its effects (R10, R13, R97), those of the enable first and those of the
profile last: the model's choice, entry 12. -/
def setPortEffect (params : List Byte) (s : State) : State × Answer :=
  match readSetPort params with
  | none => (s, .refused .badField)
  | some o =>
    if o.enable && s.streamClash o.port o.stream then (s, .refused .inUse)
    else
      let old := Tab.get s.cams o.port
      let s := s.updCam o.port (fun c => { c with enable := o.enable, stream := o.stream, profile := o.profile })
      let s :=
        if old.enable && !o.enable then s.disablePort o.port
        else if old.enable && old.stream ≠ o.stream then s.originLoss (.cam o.port)
        else s
      let s := if old.profile ≠ o.profile then s.lensEvent o.port Lens.scaleChanged else s
      (s, .done false)

/-- The error counters of a port become 0 (R15). -/
def State.clearErrors (s : State) (p : Port) : State :=
  let s := s.updArrivals p (fun c => { c with framing := 0, check := 0, shape := 0 })
  match p with
  | .trunk t => s.updTrunkCounters t (fun c => { c with poisoned := 0 })
  | .cam _ => s

/-- RESTART-PORT accepted (R15, R98). -/
def State.restartPort (s : State) (p : Port) : State :=
  let wasUp := (s.rx p).link = .up
  let s := s.abandonArrival p
  let s := s.updRx p (fun x => { x with link := .down, hold := some Config.holdTime, ignoring := false })
  let s := (s.clearErrors p).offerIf wasUp (.link p .up .down)
  let s :=
    match p with
    | .cam i => s.stopLens i
    | .trunk _ => s
  s.portLost p

/-- RESTART-PORT (R15). -/
def restartPortEffect (params : List Byte) (s : State) : State × Answer :=
  match portOf (byteAt params 0) with
  | none => (s, .refused .badField)
  | some p => (s.restartPort p, .done false)

end Sys2Proof.Machine
end

