-- ==== Sys2Proof/Machine/Select.lean ====
section
/-! DEFINITION. The view selector (spec 06): door-line filters, virtual lines, triggers, pins, the silence timer, chosen views. -/

namespace Sys2Proof.Machine

/-- A door line. -/
def State.door (s : State) (d : Fin 8) : DoorLine := Tab.get s.selector.doors d

/-- A trigger entry. -/
def State.trigger (s : State) (t : Fin 16) : Trigger := Tab.get s.selector.triggers t

/-! ## The line vector and the triggers -/

/-- The line vector (R103): the filtered levels of DL0..DL7 at positions 0 to 7, the virtual lines at positions 8 to 15. -/
def Selector.lineVector (v : Selector) : BitVec 16 :=
  v.virtual ++ setOf 8 (fun d => (Tab.get v.doors d).filtered)

/-- Whether the condition of an entry holds at a line vector (R104): only the positions in the mask are compared. -/
def Trigger.holds (t : Trigger) (vector : BitVec 16) : Bool := (vector &&& t.mask) = (t.value &&& t.mask)

/-- The move of an entry at a change of the line vector (R106). -/
def Trigger.evaluate (vector : BitVec 16) (t : Trigger) : Trigger :=
  if !t.enable then t
  else if t.holds vector then { t with state := .active }
  else
    match t.state with
    | .active => { t with state := if t.linger = 0 then .idle else .linger (t.linger * 1000) }
    | .idle => t
    | .linger _ => t

/-! ## The chosen views (R112) -/

/-- Whether an entry claims its view for a screen (R112 step 1). -/
def Trigger.claims (t : Trigger) (sc : Fin 2) : Bool := t.state ≠ .idle && hasMember t.screens sc.val

/-- The better of a best entry so far and the next entry: the higher priority, or the lower index among equals (R112 step 1). -/
def betterEntry (triggers : Vector Trigger 16) (sc : Fin 2) (best : Option (Fin 16)) (t : Fin 16) : Option (Fin 16) :=
  if (Tab.get triggers t).claims sc then
    match best with
    | none => some t
    | some b => if (Tab.get triggers b).priority < (Tab.get triggers t).priority then some t else some b
  else best

/-- The best entry of a screen (R112 step 1). -/
def bestEntry (triggers : Vector Trigger 16) (sc : Fin 2) : Option (Fin 16) :=
  (List.finRange 16).foldl (betterEntry triggers sc) none

/-- The chosen view of a screen from its triggers, its pin and its default view (R112 steps 2 and 3). -/
def chooseView (triggers : Vector Trigger 16) (sc : Fin 2) (pin : Option Pin) (defaultView : Fin 32) : Chosen :=
  match pin, bestEntry triggers sc with
  | none, none => ⟨defaultView, .default⟩
  | none, some t => ⟨(Tab.get triggers t).view, .trigger t⟩
  | some p, none => ⟨p.view, .pin⟩
  | some p, some t =>
    if (Tab.get triggers t).priority < p.priority then ⟨p.view, .pin⟩ else ⟨(Tab.get triggers t).view, .trigger t⟩

/-- The chosen view record of a screen is recomputed (R112); a change of the view offers a VIEW notice (R113). -/
def State.recompute (s : State) (sc : Fin 2) : State :=
  let old := Tab.get s.selector.chosen sc
  let new := chooseView s.selector.triggers sc (Tab.get s.selector.pins sc) (Tab.get s.screens sc).defaultView
  let s := { s with selector := { s.selector with chosen := Tab.upd s.selector.chosen sc (fun _ => new) } }
  s.offerIf (old.view ≠ new.view) (.view sc old.view new.view new.source)

/-- Both chosen view records are recomputed, SC0's first. -/
def State.recomputeBoth (s : State) : State := (s.recompute 0).recompute 1

/-- A change of the line vector (R103): every entry is evaluated, and when a trigger state changed the chosen views are
recomputed (R106, entry 13). -/
def State.vectorChanged (s : State) : State :=
  let triggers := s.selector.triggers.map (Trigger.evaluate s.selector.lineVector)
  if triggers = s.selector.triggers then s
  else { s with selector := { s.selector with triggers := triggers } }.recomputeBoth

/-! ## Door lines (R100, R101) -/

/-- A door line takes a filtered level, and its wait stops at `stop` (R163); a change of the level is a change of the line
vector (R103). -/
def State.setFiltered (s : State) (d : Fin 8) (level : Bool) (stop : Nat) : State :=
  let changed := (s.door d).filtered ≠ level
  let s := s.updDoor d (fun l => { l with filtered := level, wait := none, stoppedAt := stop })
  if changed then s.vectorChanged else s

/-- The filter wait of a line whose raw level has changed (R100): it starts from 0 when the raw level departs from the filtered level,
and stops with its elapsed time discarded when it returns. -/
def DoorLine.rawChange (level : Bool) (l : DoorLine) : DoorLine :=
  if level ≠ l.filtered then { l with raw := level, wait := some 0 }
  else { l with raw := level, wait := none, stoppedAt := 0 }

/-- The raw level of a door line changes (R100); with filter time 0 the filtered level follows and the wait never runs (R101). -/
def State.doorChange (s : State) (d : Fin 8) (level : Bool) : State :=
  let l := s.door d
  if level = l.raw then s
  else if l.filterTime = 0 then (s.updDoor d (fun l => { l with raw := level })).setFiltered d level l.stoppedAt
  else s.updDoor d (DoorLine.rawChange level)

/-- DOOR_LINE_CHANGE (R100). While the hub is held in reset the filtered level goes with the raw level, which it has at reset exit
(R101, R116, entry 37). -/
def execDoorLineChange (line : Fin 8) (level : Bool) (s : State) : Host.Outcome State Fault Refusal :=
  .next (if s.held then s.updDoor line (fun l => { l with raw := level, filtered := level }) else s.doorChange line level)

/-- A running filter wait reaches the filter time (entry 2), where it stops: the filtered level takes the raw level (R100). -/
def State.filterExpiry (s : State) (d : Fin 8) : State :=
  match (s.door d).wait with
  | some elapsed => s.setFiltered d (s.door d).raw (max elapsed (s.door d).filterTime)
  | none => s

/-- FILTER_WAIT_EXPIRY (R100). -/
def execFilterWaitExpiry (line : Fin 8) (s : State) : Host.Outcome State Fault Refusal :=
  whenRunning (fun s => s.filterExpiry line) s

/-- A new filter time is compared with the running wait at once (R101). -/
def State.setFilterTime (s : State) (d : Fin 8) (time : Nat) : State :=
  let s := s.updDoor d (fun l => { l with filterTime := time })
  match (s.door d).wait with
  | some elapsed => if time ≤ elapsed then s.setFiltered d (s.door d).raw elapsed else s
  | none => s

/-! ## SET-LINES (R102) -/

/-- The virtual lines with the masked ones set (R102). -/
def maskedLines (old mask values : BitVec 8) : BitVec 8 := (old &&& ~~~mask) ||| (values &&& mask)

/-- The filter times of the masked door lines are set, DL0 first (R102, entry 12). -/
def State.setFilterTimes (s : State) (mask : BitVec 8) (times : List Nat) : State :=
  (List.finRange 8).foldl
    (fun s d => if hasMember mask d.val then s.setFilterTime d (clamp 0 250 (times.getD d.val 0)).value else s) s

/-- Whether a masked filter time is clamped (R102). -/
def timesClamped (mask : BitVec 8) (times : List Nat) : Bool :=
  (List.finRange 8).any (fun d => hasMember mask d.val && (clamp 0 250 (times.getD d.val 0)).flag)

/-- SET-LINES on its fields (R102): the virtual lines in one change of the vector, then the filter times. -/
def State.setLines (s : State) (o : SetLines) : State :=
  let virtual := maskedLines s.selector.virtual o.lineMask o.lineValues
  let s :=
    if virtual ≠ s.selector.virtual then { s with selector := { s.selector with virtual := virtual } }.vectorChanged else s
  s.setFilterTimes o.filterMask o.times

/-- SET-LINES (R102). -/
def setLinesEffect (params : List Byte) (s : State) : State × Answer :=
  let o := readSetLines params
  (s.setLines o, .done (timesClamped o.filterMask o.times))

/-! ## Trigger orders and timers -/

/-- LOAD-TRIGGER (R105): the entry is written IDLE, evaluated against the present line vector, and the chosen views are
recomputed. -/
def loadTriggerEffect (params : List Byte) (s : State) : State × Answer :=
  match readLoadTrigger params with
  | none => (s, .refused .badField)
  | some (t, e, clamped) =>
    ((s.updTrigger t (fun _ => e.evaluate s.selector.lineVector)).recomputeBoth, .done clamped)

/-- A linger timer expires (R107). -/
def State.lingerExpiry (s : State) (t : Fin 16) : State :=
  match (s.trigger t).state with
  | .linger _ => (s.updTrigger t (fun e => { e with state := .idle })).recomputeBoth
  | .idle => s
  | .active => s

/-- LINGER_EXPIRY (R107). -/
def execLingerExpiry (trigger : Fin 16) (s : State) : Host.Outcome State Fault Refusal :=
  whenRunning (fun s => s.lingerExpiry trigger) s

/-! ## Pins and the silence timer -/

/-- A screen's pin is set or cleared, and its chosen view recomputed (R108, R109). -/
def State.setPin (s : State) (sc : Fin 2) (pin : Option Pin) : State :=
  { s with selector := { s.selector with pins := Tab.upd s.selector.pins sc (fun _ => pin) } }.recompute sc

/-- PIN-VIEW (R108). -/
def pinViewEffect (params : List Byte) (s : State) : State × Answer :=
  match readPinView params with
  | none => (s, .refused .badField)
  | some (sc, pin, clamped) => (s.setPin sc (some pin), .done clamped)

/-- RELEASE-VIEW (R109). -/
def releaseViewEffect (params : List Byte) (s : State) : State × Answer :=
  match instanceOf 2 (byteAt params 0) with
  | none => (s, .refused .badField)
  | some sc => (s.setPin sc none, .done false)

/-- SET-HUB (R110). -/
def setHubEffect (params : List Byte) (s : State) : State × Answer :=
  let n := readSetHub params
  (s.updHub (fun h => { h with silenceTime := n.value }.restartSilence), .done n.flag)

/-- The screens whose pins are present (R111). -/
def Selector.pinnedScreens (v : Selector) : BitVec 2 := setOf 2 (fun sc => (Tab.get v.pins sc).isSome)

/-- The silence timer expires, with nothing of its time left (R111). The VIEW notices of the two screens are offered before the SILENCE
notice: the model's choice, entry 39. -/
def State.silenceExpiry (s : State) : State :=
  match s.orders.hub.silenceTimer with
  | none => s
  | some _ =>
    let pinned := s.selector.pinnedScreens
    let s := s.updHub (fun h => { h with silenceTimer := none, silenceStopped := 0 })
    ({ s with selector := { s.selector with pins := Vector.replicate 2 none } }.recomputeBoth).offer (.silence pinned)

/-- SILENCE_EXPIRY (R111). -/
def execSilenceExpiry (s : State) : Host.Outcome State Fault Refusal := whenRunning State.silenceExpiry s

end Sys2Proof.Machine
end

