-- ==== Sys2Proof/Machine/Screens.lean ====
section
/-! DEFINITION. The screen composers (spec 07): the view table, the output frame start, the tile decisions. -/

namespace Sys2Proof.Machine

/-- A channel record. -/
def State.channel (s : State) (c : Fin 12) : Channel := Tab.get s.channels c

/-- A screen record. -/
def State.screen (s : State) (sc : Fin 2) : Screen := Tab.get s.screens sc

/-! ## LOAD-VIEW and SET-SCREEN -/

/-- LOAD-VIEW (R122, R125). -/
def loadViewEffect (params : List Byte) (s : State) : State × Answer :=
  match readLoadView params with
  | none => (s, .refused .badField)
  | some (v, view, clamped) => ({ s with views := Tab.upd s.views v (fun _ => view) }, .done clamped)

/-- A screen releases the slot it holds of a channel (R57, R117). -/
def State.releaseSlot (s : State) (sc : Fin 2) (c : Fin 12) : State :=
  (s.channelEvent c (Channel.release sc)).updScreen sc (fun x => { x with held := Tab.upd x.held c (fun _ => none) })

/-- A screen releases the slots it holds of the channels for which `f` holds, IC0 first (R120, R132). -/
def State.releaseWhere (s : State) (sc : Fin 2) (f : Fin 12 → Bool) : State :=
  (List.finRange 12).foldl
    (fun s c => if (Tab.get (s.screen sc).held c).isSome && f c then s.releaseSlot sc c else s) s

/-- A screen is turned off (R120): the rest of its frame is black, its slots are released, its copy and record cleared (entry 18).
The cleared copy holds no tile and keeps its background colour: the model's choice, entry 40. A start whose takes have not been made
is given up with them (entry 26). -/
def State.disableScreen (s : State) (sc : Fin 2) : State :=
  (s.releaseWhere sc (fun _ => true)).updScreen sc
    (fun x => { x with composing := false, copy := { x.copy with tiles := [] }, record := [], reading := none })

/-- SET-SCREEN (R119, R120). -/
def setScreenEffect (params : List Byte) (s : State) : State × Answer :=
  match readSetScreen params with
  | none => (s, .refused .badField)
  | some o =>
    let old := s.screen o.screen
    let s := s.updScreen o.screen (fun x => { x with enable := o.enable, defaultView := o.defaultView })
    let s := if old.defaultView ≠ o.defaultView then s.recompute o.screen else s
    let s := if old.enable && !o.enable then s.disableScreen o.screen else s
    (s, .done false)

/-! ## The tile decisions -/

/-- Whether a grade is at or beyond a substitute level (R129). -/
def SubstituteLevel.reachedBy : SubstituteLevel → Grade → Bool
  | .never, _ => false
  | .smear, g => g = .smear || g = .blocked
  | .blocked, g => g = .blocked

/-- Whether a tile's primary is unfit (R129). -/
def Channel.unfitPrimary (c : Channel) (level : SubstituteLevel) : Bool :=
  c.state = .unbound || c.state = .waiting || c.state = .lost || c.newestSlot.isNone || level.reachedBy c.grade

/-- Whether a tile's alternate is fit (R129). -/
def Channel.fitAlternate (c : Channel) (level : SubstituteLevel) : Bool :=
  (c.state = .live || c.state = .stale) && c.newestSlot.isSome && !level.reachedBy c.grade

/-- The drawn channel of a tile, and whether it is the alternate (R130). -/
def drawnChannel (channels : Vector Channel 12) (t : Tile) : Fin 12 × Bool :=
  match t.alternate with
  | none => (t.primary, false)
  | some a =>
    if (Tab.get channels t.primary).unfitPrimary t.level && (Tab.get channels a).fitAlternate t.level then (a, true)
    else (t.primary, false)

/-- A tile's condition from its drawn channel as the take found it (R134). UNJUDGED counts as CLEAN. -/
def tileCondition (c : Channel) (alternate : Bool) : TileCondition :=
  if c.state = .unbound || c.state = .waiting || c.state = .lost || c.newestSlot.isNone then .placeholder
  else if alternate then .substituted
  else if c.state = .stale then
    if c.grade = .smear || c.grade = .blocked then .staleDirty else .stale
  else
    match c.grade with
    | .blocked => .blocked
    | .smear => .smear
    | .haze => .haze
    | .clean => .clear
    | .unjudged => .clear

/-! ## The output frame start -/

/-- A screen takes a channel's newest slot, and its held slot becomes the answer (R56, R131). -/
def State.takeSlot (s : State) (sc : Fin 2) (c : Fin 12) : State :=
  let newest := (s.channel c).newestSlot
  (s.channelEvent c (Channel.take sc)).updScreen sc (fun x => { x with held := Tab.upd x.held c (fun _ => newest) })

/-- The takes of a start: one at each channel that is drawn, IC0 first (R131). -/
def State.takeWhere (s : State) (sc : Fin 2) (drawn : Fin 12 → Bool) : State :=
  (List.finRange 12).foldl (fun s c => if drawn c then s.takeSlot sc c else s) s

/-- What a start reads and decides (R128 to R130): the chosen view, its copy, and the drawn channel of every tile. -/
def State.readFrame (s : State) (sc : Fin 2) : FrameReading :=
  let view := (Tab.get s.selector.chosen sc).view
  { view := view, copy := Tab.get s.views view, drawn := (Tab.get s.views view).tiles.map (drawnChannel s.channels) }

/-- The tile records of a reading whose takes find these channels (R131, R134): a take answers with the channel as it then stands. -/
def FrameReading.record (r : FrameReading) (channels : Vector Channel 12) : List TileRecord :=
  r.drawn.map (fun d => { drawn := d.1, alternate := d.2, condition := tileCondition (Tab.get channels d.1) d.2 })

/-- The takes, the releases and the tile records of a start (R131, R132, R134). -/
def State.composeFrame (s : State) (sc : Fin 2) (r : FrameReading) : State :=
  let drawn : Fin 12 → Bool := fun c => r.drawn.any (fun d => d.1 = c)
  ((s.takeWhere sc drawn).releaseWhere sc (fun c => !drawn c)).updScreen sc
    (fun x => { x with activeView := r.view, copy := r.copy, record := r.record s.channels, composing := true })

/-- The reading that a start composes from: the one made when its moment came (`State.tickScreen`), as long as the chosen view and its
record are still the ones read; else a new one, so that a LOAD-VIEW or a change of the chosen view that is taken first is seen (R125,
R128, entry 26). -/
def State.startReading (s : State) (sc : Fin 2) : FrameReading :=
  let now := s.readFrame sc
  match (s.screen sc).reading with
  | some r => if r.view = now.view ∧ r.copy = now.copy then r else now
  | none => now

/-- A frame begins (R118): the blink position is used and advanced, and the frame timer starts again. -/
def Screen.beginFrame (x : Screen) : Screen :=
  { x with frameBlink := x.blink, blink := (x.blink + 1) % 50, frameTimer := Config.frameTime, composing := false, reading := none }

/-- A screen starts an output frame (R118): a disabled one sends black, an enabled one composes. What the channels have done since a
reading that still stands is seen by the takes and not by the decisions (R131, entry 26). -/
def State.frameStart (s : State) (sc : Fin 2) : State :=
  let x := s.screen sc
  if !x.enable then s.updScreen sc Screen.beginFrame
  else (s.updScreen sc Screen.beginFrame).composeFrame sc (s.startReading sc)

/-- OUTPUT_FRAME_START (R118). -/
def execOutputFrameStart (screen : Fin 2) (s : State) : Host.Outcome State Fault Refusal :=
  whenRunning (fun s => s.frameStart screen) s

end Sys2Proof.Machine
end

