-- ==== Sys2Proof/Machine/Compose.lean ====
section
/-! DEFINITION. The pixels of the frame under way on a screen (R126, R127, R133 to R137), as a function of the state: the tile copy,
the tile record, the held slots and the blink position of the frame. No pixel time is modelled (entry 31). -/

namespace Sys2Proof.Machine

/-- A pixel as sent: its luma byte and its chroma byte. -/
structure Pixel where
  luma : Byte
  chroma : Byte
deriving DecidableEq, Repr

/-- A flat colour in a screen column (R136): Cb in an even column, Cr in an odd one. -/
def Colour.pixel (c : Colour) (column : Nat) : Pixel := ⟨c.y, if column % 2 = 0 then c.cb else c.cr⟩

/-- R136. -/
def Colour.red : Colour := { y := 81, cb := 90, cr := 240 }
/-- R136. -/
def Colour.amber : Colour := { y := 162, cb := 44, cr := 182 }
/-- R136. -/
def Colour.blue : Colour := { y := 41, cb := 240, cr := 110 }
/-- R136. -/
def Colour.black : Colour := { y := 16, cb := 128, cr := 128 }

/-- The row a STORED slot yields for row `k` (R54): its own, or the nearest above it that is not missing, or the nearest below. -/
def yieldedRow (missing : List Nat) (k : Nat) : Nat :=
  if missing.contains k then
    match (List.range k).reverse.find? (fun r => !missing.contains r) with
    | some r => r
    | none => ((List.range Config.lines).find? (fun r => k < r && !missing.contains r)).getD k
  else k

/-- The source column of tile column `u` (R126). -/
def Tile.sourceColumn (t : Tile) (u : Nat) : Nat :=
  let step := u * (t.right + 1 - t.left) / t.w
  if t.mirror then t.right - step else t.left + step

/-- The source row of tile row `v` (R126). -/
def Tile.sourceRow (t : Tile) (v : Nat) : Nat := t.top + v * (t.bottom + 1 - t.top) / t.h

/-- The pixel of a source row for a screen column (R127): the luma of the source column, and the Cb or Cr of its pair by the parity
of the screen column. -/
def rowPixel (row : List Byte) (sx column : Nat) : Pixel :=
  let pair := 2 * (sx / 2)
  ⟨row.getD (2 * sx) 0, row.getD (2 * (if column % 2 = 0 then pair else pair + 1) + 1) 0⟩

/-- Whether a column and a row are of the 1280 × 800 frame (R137): what lies beyond is clipped (R126). -/
def onScreen (column row : Nat) : Bool := column < Config.screenColumns && row < Config.screenRows

/-- Whether a screen pixel is an unclipped pixel of a tile's destination rectangle (R126). -/
def Tile.covers (t : Tile) (column row : Nat) : Bool :=
  onScreen column row && t.x ≤ column && column < t.x + t.w && t.y ≤ row && row < t.y + t.h

/-- Whether a tile pixel lies in the border 4 pixels wide (R136). -/
def Tile.onBorder (t : Tile) (u v : Nat) : Bool := u < 4 || t.w ≤ u + 4 || v < 4 || t.h ≤ v + 4

/-- The border of a tile condition and whether it blinks (R134). -/
def TileCondition.border : TileCondition → Option (Colour × Bool)
  | .placeholder => some (.red, false)
  | .substituted => some (.blue, false)
  | .staleDirty => some (.red, true)
  | .stale => some (.amber, true)
  | .blocked => some (.red, true)
  | .smear => some (.red, false)
  | .haze => some (.amber, false)
  | .clear => none

/-- Whether a blinking border is drawn at a blink position (R135). -/
def blinkShown (position : Nat) : Bool := position / 25 % 2 = 0

/-- The badge pixel of a tile over a screen pixel, if it draws one there (R135, R136). -/
def badgePixel (blink : Nat) (t : Tile) (r : TileRecord) (column row : Nat) : Option Pixel :=
  if t.covers column row && t.onBorder (column - t.x) (row - t.y) then
    match r.condition.border with
    | some (colour, blinks) => if !blinks || blinkShown blink then some (colour.pixel column) else none
    | none => none
  else none

/-- The pixel of a tile, under its badge (R126, R127, R137 step 2): grey for a PLACEHOLDER. -/
def State.tilePixel (s : State) (sc : Fin 2) (t : Tile) (r : TileRecord) (column row : Nat) : Option Pixel :=
  if t.covers column row then
    match r.condition, Tab.get (s.screen sc).held r.drawn with
    | .placeholder, _ => some (Colour.grey.pixel column)
    | _, none => some (Colour.grey.pixel column)
    | _, some i =>
      let slot := (s.channel r.drawn).slot i
      some (rowPixel (slot.row (yieldedRow slot.missing (t.sourceRow (row - t.y)))) (t.sourceColumn (column - t.x)) column)
  else none

/-- The last of the pixels that are drawn. -/
def lastDrawn : List (Option Pixel) → Option Pixel
  | [] => none
  | p :: rest => (lastDrawn rest).or p

/-- The pixel at a column and row of a composed frame (R137): background, tiles, badges. -/
def State.composedPixel (s : State) (sc : Fin 2) (column row : Nat) : Pixel :=
  let x := s.screen sc
  let tiles := x.copy.tiles.zip x.record
  match lastDrawn (tiles.map (fun tr => badgePixel x.frameBlink tr.1 tr.2 column row)) with
  | some p => p
  | none =>
    match lastDrawn (tiles.map (fun tr => s.tilePixel sc tr.1 tr.2 column row)) with
    | some p => p
    | none => x.copy.background.pixel column

/-- The pixel at a column and row of the frame under way on a screen (R118, R120, R137): composed or black, and none beyond the
screen's edge. -/
def State.framePixel (s : State) (sc : Fin 2) (column row : Nat) : Option Pixel :=
  if onScreen column row then
    some (if (s.screen sc).composing then s.composedPixel sc column row else Colour.black.pixel column)
  else none

end Sys2Proof.Machine
end

