-- ==== Sys2Proof/Machine/Pins.lean ====
section
/-! DEFINITION. What the outside sees on the hub's output pins, as functions of the state: the trunks' symbols (R3, R31, R38), the
screen outputs (R118, R141) and the alert lines' levels (R148). -/

namespace Sys2Proof.Machine

/-- What a trunk port transmits. -/
inductive TrunkSymbols where
  /-- No symbols: the hold after a RESTART-PORT, or the hub held in reset (R3). -/
  | silent
  /-- IDLE symbols (R3). -/
  | idle
  /-- A packet of these bytes, with its check (R31). -/
  | packet (bytes : List Byte)
  /-- A LINE cut through from this port (R38). -/
  | through (source : Port)
deriving DecidableEq, Repr

/-- R3, R31, R38. -/
def State.trunkSymbols (s : State) (t : Trunk) : TrunkSymbols :=
  if s.held || (s.rx (.trunk t)).hold.isSome then .silent
  else
    match (s.out t).sending with
    | .idle => .idle
    | .sending p _ => .packet p.wire
    | .cutting p => .through p

/-- Whether an alert line is high (R148): low while the hub is held in reset. -/
def State.alertHigh (s : State) (a : Fin 4) : Bool :=
  let e := Tab.get s.alerts a
  !s.held &&
    match e.settings.polarity with
    | .activeHigh => e.line
    | .activeLow => !e.line

/-- A pixel of a screen output: none while the hub is held in reset (R141), and none beyond the screen's edge (R137). -/
def State.screenPixel (s : State) (sc : Fin 2) (column row : Nat) : Option Pixel :=
  if s.held then none else s.framePixel sc column row

end Sys2Proof.Machine
end

