-- ==== Sys2Proof/Machine/Query.lean ====
section
/-! DEFINITION. The records that QUERY returns (R163), field by field in the order of the owning rules, and CLEAR-COUNTS (R162).
Where no rule gives a field's bytes, entry 14 says what the model sends. -/

namespace Sys2Proof.Machine

/-! ## Field forms -/

/-- An optional field, or a timer whose value is discarded when it stops: 1 and the value, or 0 and zeros (R163). -/
def optional1 (x : Option Nat) : List Byte := flagByte x.isSome ++ byte1 (x.getD 0)

/-- A timer that can be stopped, with a value of one byte: 1 and its value, or 0 and the value it stopped at (R163). -/
def timer1 (x : Option Nat) (stopped : Nat) : List Byte := flagByte x.isSome ++ byte1 (x.getD stopped)

/-- The same with a value of four bytes. -/
def timer4 (x : Option Nat) (stopped : Nat) : List Byte := flagByte x.isSome ++ byte4 (x.getD stopped)

/-- An optional field with a value of two bytes. -/
def optional2 (x : Option Nat) : List Byte := flagByte x.isSome ++ byte2 (x.getD 0)

/-- A set of line numbers as 720 bits, member n with weight 2^n, most significant byte first (entry 14). -/
def lineSetBytes (lines : List Nat) : List Byte :=
  ((List.range 90).reverse).map
    (fun j => BitVec.ofNat 8 ((List.range 8).map (fun b => if lines.contains (8 * j + b) then 2 ^ b else 0)).sum)

/-! ## Records -/

def Side.code : Side → Nat
  | .ta => 0
  | .tb => 1
  | .both => 2

def OrderSlot.code : OrderSlot → Nat
  | .free => 0
  | .pending _ => 1
  | .saving _ => 2

/-- The hub record (R151), the order slots, and the places of the notice queue. The QUERY itself holds its slot PENDING and one
reservation while it executes (R156, entry 21). -/
def hubBytes (u : OrderUnit) : List Byte :=
  byte1 u.hub.number ++ byte1 u.hub.side.code ++ byte2 u.hub.silenceTime ++
    timer4 u.hub.silenceTimer u.hub.silenceStopped ++
    byte1 u.hub.overflow ++ byte1 u.hub.lost ++ byte1 u.hub.cause.code ++ byte1 u.hub.image.code ++ byte2 u.hub.refused ++
    byte1 (Tab.get u.slots 0).code ++ byte1 (Tab.get u.slots 1).code ++
    byte1 (noticesWaiting u.queue) ++ byte1 (repliesWaiting u.queue) ++ byte1 (u.reservations + 1)

def LensState.code : LensState → Nat
  | .unlearned => 0
  | .learning => 1
  | .assessing => 2

/-- The code of a last verdict: none, DARK, GLARE, INCOMPLETE, JUDGED (R65). -/
def verdictCode : Option Verdict → Nat
  | none => 0
  | some .dark => 1
  | some .glare => 2
  | some .incomplete => 3
  | some .judged => 4

/-- The place of a pending grade in its list in R65: CLEAN, HAZE, SMEAR, BLOCKED (R158, entry 14). UNJUDGED is never pending. -/
def Grade.pendingPlace (g : Grade) : Nat := g.code - 1

/-- The lens fields of R83, then the learning fields of R85. -/
def lensBytes (l : Lens) : List Byte :=
  byte1 l.state.code ++ byte1 l.stated.code ++ optional1 (l.pending.map Grade.pendingPlace) ++ byte1 l.run ++
    byte1 (verdictCode l.verdict) ++ byte1 l.share ++ byte1 l.lastJ ++
    l.sums.toList.flatMap byte4 ++ byte1 l.count ++ byte1 l.target ++ byte1 l.nonJudged

/-- A camera port record with its counters in the order of R17, then its lens record. -/
def cameraBytes (p : CameraPort) (l : Lens) : List Byte :=
  let c := p.rx.counters
  flagByte p.enable ++ byte1 p.stream.val ++ byte1 p.profile.val ++ byte1 p.rx.link.code ++
    optional2 (p.openFrame.map (·.frame)) ++ lineSetBytes ((p.openFrame.map (·.good)).getD []) ++
    byte1 c.framing ++ byte1 c.check ++ byte1 c.shape ++
    byte2 c.received ++ byte2 c.unrouted ++ byte2 c.misrouted ++ byte2 c.stray ++ lensBytes l

/-- A trunk port record with its counters in the order of R17. -/
def trunkBytes (p : TrunkPort) : List Byte :=
  let c := p.rx.counters
  let d := p.counters
  byte1 p.rx.link.code ++ byte1 c.framing ++ byte1 c.check ++ byte1 c.shape ++ byte1 d.poisoned ++
    byte2 c.received ++ byte2 c.unrouted ++ byte2 c.misrouted ++ byte2 c.stray ++
    byte2 d.unroutable ++ byte2 d.sent ++ byte2 d.queueCuts ++ byte2 d.mgmtDrops

/-- The seven fields of a stream table entry (R20). -/
def entryBytes (e : StreamEntry) : List Byte :=
  flagByte e.valid ++ byte1 (portCode e.origin) ++ flagByte e.sendTo.ta ++ flagByte e.sendTo.tb ++
    byte1 (channelOrNoneCode e.channel) ++ flagByte e.cutThrough.ta ++ flagByte e.cutThrough.tb

/-- Whether a packet of a stream waits at a trunk output (R23, R35). -/
def State.waits (s : State) (t : Trunk) (k : Fin 256) : Bool := (s.out t).waiting.any (Packet.ofStream k)

/-- The stream table entry, the stream state record, and whether a packet waits at each output (R23). -/
def State.streamBytes (s : State) (k : Fin 256) : List Byte :=
  let r := s.streamRec k
  entryBytes r.entry ++ flagByte r.flow.isOpen ++ byte2 r.flow.frame ++ flagByte r.flow.cut.ta ++ flagByte r.flow.cut.tb ++
    flagByte (s.waits .ta k) ++ flagByte (s.waits .tb k)

/-- An intake: none, FILLING or DROPPING, the slot, the frame (R42). -/
def intakeBytes : Intake → List Byte
  | .none => byte1 0 ++ byte1 0 ++ byte2 0
  | .filling i f => byte1 1 ++ byte1 i.val ++ byte2 f
  | .dropping f => byte1 2 ++ byte1 0 ++ byte2 f

def SlotState.code : SlotState → Nat
  | .free => 0
  | .filling => 1
  | .stored => 2

/-- What QUERY shows of a slot (R58). -/
def slotBytes (sl : Slot) : List Byte :=
  byte1 sl.state.code ++ byte2 sl.frame ++ flagByte sl.newest ++ byte1 sl.readers.toNat ++ byte1 sl.missing.length

/-- A channel record (R42) with its slots (R58) and counters (R63). The frame age stops at LOST, so that two bytes hold it (R42, R59, R60,
R163). -/
def channelBytes (c : Channel) : List Byte :=
  let k := c.counters
  optional1 (c.stream.map (·.val)) ++ byte1 c.state.code ++ byte1 c.grade.code ++ optional1 c.home ++ byte1 c.patch ++
    byte2 c.staleTime ++ byte2 c.lostTime ++ flagByte c.age.running ++ byte2 c.age.ms ++ intakeBytes c.intake ++
    c.slots.toList.flatMap slotBytes ++
    byte2 k.published ++ byte2 k.incomplete ++ byte2 k.dropped ++ byte2 k.patched ++ byte2 k.poisoned ++ byte2 k.stray

/-- A profile's fields (R93). -/
def profileBytes (p : Profile) : List Byte :=
  byte1 p.noise ++ byte1 p.threshold ++ byte1 p.h1 ++ byte1 p.h2 ++ byte1 p.h3 ++ byte1 p.kWorse ++ byte1 p.kBetter ++
    byte1 p.dark ++ byte1 p.glare ++ byte1 p.learn ++ byte1 p.drift ++ flagByte p.pair

/-- A door line (R114). -/
def doorBytes (d : DoorLine) : List Byte := flagByte d.raw ++ flagByte d.filtered ++ byte1 d.filterTime ++
  timer1 d.wait d.stoppedAt

def TriggerState.code : TriggerState → Nat
  | .idle => 0
  | .active => 1
  | .linger _ => 2

/-- The remaining linger time. -/
def TriggerState.remaining : TriggerState → Option Nat
  | .linger ms => some ms
  | .idle => none
  | .active => none

/-- A pin and a chosen view record (R114). -/
def chosenBytes (pin : Option Pin) (c : Chosen) : List Byte :=
  flagByte pin.isSome ++ byte1 ((pin.map (·.view.val)).getD 0) ++ byte1 ((pin.map (·.priority)).getD 0) ++
    byte1 c.view.val ++ byte1 c.source.code

/-- The view selector (R114). -/
def selectorBytes (v : Selector) (h : HubRecord) : List Byte :=
  v.doors.toList.flatMap doorBytes ++ byte1 v.virtual.toNat ++ byte2 v.lineVector.toNat ++
    v.triggers.toList.flatMap (fun t => byte1 t.state.code ++ optional2 t.state.remaining) ++
    chosenBytes (Tab.get v.pins 0) (Tab.get v.chosen 0) ++ chosenBytes (Tab.get v.pins 1) (Tab.get v.chosen 1) ++
    byte2 h.silenceTime ++ timer4 h.silenceTimer h.silenceStopped

/-- The fields of a trigger entry as LOAD-TRIGGER carries them after the entry (R104, R158). -/
def triggerFields (t : Trigger) : List Byte :=
  flagByte t.enable ++ byte2 t.mask.toNat ++ byte2 t.value.toNat ++ byte1 t.screens.toNat ++ byte1 t.view.val ++
    byte1 t.priority ++ byte1 t.linger

/-- A trigger entry with its state (R114). -/
def triggerBytes (t : Trigger) : List Byte := triggerFields t ++ byte1 t.state.code

def TileCondition.code : TileCondition → Nat
  | .placeholder => 0
  | .substituted => 1
  | .staleDirty => 2
  | .stale => 3
  | .blocked => 4
  | .smear => 5
  | .haze => 6
  | .clear => 7

/-- A screen record (R139). -/
def screenBytes (x : Screen) : List Byte :=
  flagByte x.enable ++ byte1 x.defaultView.val ++ byte1 x.activeView.val ++ byte1 x.blink ++
    x.held.toList.flatMap (fun h => optional1 (h.map (·.val))) ++
    x.record.flatMap (fun r => byte1 r.drawn.val ++ flagByte r.alternate ++ byte1 r.condition.code)

/-- A tile as LOAD-VIEW carries it (R158). -/
def tileBytes (t : Tile) : List Byte :=
  byte1 t.primary.val ++ byte1 (channelOrNoneCode t.alternate) ++ byte1 t.level.code ++
    byte2 t.left ++ byte2 t.top ++ byte2 t.right ++ byte2 t.bottom ++ byte2 t.x ++ byte2 t.y ++ byte2 t.w ++ byte2 t.h ++
    flagByte t.mirror

/-- A view as LOAD-VIEW carries it after its number (R125, R158). -/
def viewBytes (v : View) : List Byte :=
  [v.background.y, v.background.cb, v.background.cr] ++ byte1 v.tiles.length ++ v.tiles.flatMap tileBytes

/-- The settings of an alert entry as SET-ALERT carries them after the entry (R142, R158). -/
def alertFields (a : AlertSettings) : List Byte :=
  byte1 a.mode.code ++ byte2 a.channels.toNat ++ byte1 a.ports.toNat ++ byte1 a.stateCondition.code ++
    byte1 a.gradeCondition.code ++ byte1 a.style.code ++ byte1 a.polarity.code

/-- The elapsed time of a pulse timer within its period (R149). -/
def Pulse.inPeriod (p : Pulse) : Nat := if p.activePhase then p.elapsed else Config.pulseHalf + p.elapsed

/-- An alert entry (R149). The demand is sent as an on/off field, 1 when active, and the electrical level as its place in R148's "high
or low" (entry 14). -/
def State.alertBytes (s : State) (a : Fin 4) : List Byte :=
  let e := Tab.get s.alerts a
  alertFields e.settings ++ flagByte e.demand ++ optional2 (e.pulse.map Pulse.inPeriod) ++ flagByte e.line ++
    byte1 (if s.alertHigh a then 0 else 1)

/-- The record of a subject (R163). -/
def State.recordBytes (s : State) : Subject → List Byte
  | .hub => hubBytes s.orders
  | .port (.cam i) => cameraBytes (Tab.get s.cams i) (s.lens i)
  | .port (.trunk t) => trunkBytes (s.trunks.get t)
  | .stream k => s.streamBytes k
  | .channel c => channelBytes (s.channel c)
  | .profile p => profileBytes (Tab.get s.profiles p)
  | .selector => selectorBytes s.selector s.orders.hub
  | .trigger t => triggerBytes (s.trigger t)
  | .screen sc => screenBytes (s.screen sc)
  | .view v => viewBytes (Tab.get s.views v)
  | .alert a => s.alertBytes a

/-- The number of parts of a record (R163). -/
def partCount (n : Nat) : Nat := (n + Config.partBytes - 1) / Config.partBytes

/-- QUERY (R163). -/
def queryEffect (params : List Byte) (s : State) : State × Answer :=
  match readSubject params with
  | none => (s, .refused .badField)
  | some subject =>
    let record := s.recordBytes subject
    let part := byteAt params 2
    if part < partCount record.length then
      (s, .data part (partCount record.length) ((record.drop (Config.partBytes * part)).take Config.partBytes))
    else (s, .refused .badField)

/-- The counters of a port become 0 (R17, R162). -/
def State.clearPort (s : State) (p : Port) : State :=
  let s := s.updArrivals p (fun _ => .zero)
  match p with
  | .trunk t => s.updTrunkCounters t (fun _ => .zero)
  | .cam _ => s

/-- CLEAR-COUNTS (R162). -/
def clearCountsEffect (params : List Byte) (s : State) : State × Answer :=
  match readSubject params with
  | some .hub => (s.updHub (fun h => { h with overflow := 0, lost := 0 }), .done false)
  | some (.port p) => (s.clearPort p, .done false)
  | some (.channel c) => (s.updChannel c (fun c => { c with counters := .zero }), .done false)
  | _ => (s, .refused .badField)

end Sys2Proof.Machine
end

