-- ==== Sys2Proof/Machine/Image.lean ====
section
/-! DEFINITION. The settings image (spec 10 sections 11.2 and 11.5): its snapshot (R180), its judging (R175), and its entries. -/

namespace Sys2Proof.Machine

/-- The marker (R174). -/
def imageMarker : List Byte := [79, 72]

/-- Every accept flag set (R174, R180). -/
def allSections : Nat := 1023

/-- The check of an image: over every byte but the check field (R174). -/
def imageCheck (image : List Byte) : Nat := (packetCheck (image.take 6 ++ image.drop 8)).toNat

/-! ## The snapshot (R180) -/

/-- A section with its head (R174). -/
def sectionBytes (number : Nat) (body : List Byte) : List Byte := byte1 number ++ byte2 body.length ++ body

/-- The entries of a numbered table, one after another. -/
def entriesOf (n : Nat) (f : Fin n → List Byte) : List Byte := (List.finRange n).flatMap f

/-- A PORTS entry, as SET-PORT (R180). -/
def State.portEntry (s : State) (i : Fin 8) : List Byte :=
  let c := Tab.get s.cams i
  byte1 i.val ++ flagByte c.enable ++ byte1 c.stream.val ++ byte1 c.profile.val

/-- A BASELINES entry (R180). -/
def State.baselinesEntry (s : State) (i : Fin 8) : List Byte :=
  let l := s.lens i
  let p := s.profileOf i
  let learned : Bool := l.state = .assessing
  byte1 i.val ++ flagByte learned ++ byte1 p.noise ++ flagByte p.pair ++
    l.baselines.toList.flatMap (fun b => byte3 (if learned then b else 0))

/-- A CHANNELS entry, as SET-CHANNEL (R180). -/
def State.channelEntry (s : State) (i : Fin 12) : List Byte :=
  let c := s.channel i
  byte1 i.val ++ byte1 c.patch ++ byte2 c.staleTime ++ byte2 c.lostTime

/-- A SCREENS entry, as SET-SCREEN (R180). -/
def State.screenEntry (s : State) (i : Fin 2) : List Byte :=
  byte1 i.val ++ flagByte (s.screen i).enable ++ byte1 (s.screen i).defaultView.val

/-- The ten sections of the snapshot (R180). -/
def State.snapshotSections (s : State) : List Byte :=
  sectionBytes 0 (byte2 s.orders.hub.silenceTime) ++
  sectionBytes 1 (entriesOf 8 s.portEntry) ++
  sectionBytes 2 (entriesOf 4 (fun i => byte1 i.val ++ profileBytes (Tab.get s.profiles i))) ++
  sectionBytes 3 (entriesOf 8 s.baselinesEntry) ++
  sectionBytes 4 (entriesOf 256 (fun k => byte1 k.val ++ entryBytes (s.streamRec k).entry)) ++
  sectionBytes 5 (entriesOf 12 s.channelEntry) ++
  sectionBytes 6 (entriesOf 32 (fun v => byte1 v.val ++ viewBytes (Tab.get s.views v))) ++
  sectionBytes 7 (entriesOf 16 (fun t => byte1 t.val ++ triggerFields (s.trigger t)) ++
    entriesOf 8 (fun d => byte1 (s.door d).filterTime)) ++
  sectionBytes 8 (entriesOf 2 s.screenEntry) ++
  sectionBytes 9 (entriesOf 4 (fun a => byte1 a.val ++ alertFields (Tab.get s.alerts a).settings))

/-- An image with these accept flags and sections: marker, length, accept set, check (R174). -/
def imageOf (accept : Nat) (sections : List Byte) : List Byte :=
  let head := imageMarker ++ byte2 (8 + sections.length) ++ byte2 accept
  head ++ byte2 (packetCheck (head ++ sections)).toNat ++ sections

/-- The snapshot (R180). -/
def State.snapshot (s : State) : List Byte := imageOf allSections s.snapshotSections

/-! ## Judging (R175) -/

/-- The bodies of the sections with these numbers, when they fill the bytes exactly (R175 step 4). -/
def takeSections : List Nat → List Byte → Option (List (Nat × List Byte))
  | [], rest => if rest.isEmpty then some [] else none
  | n :: ns, rest =>
    if 3 ≤ rest.length && byteAt rest 0 = n && 3 + wordAt rest 1 ≤ rest.length then
      (takeSections ns (rest.drop (3 + wordAt rest 1))).map ((n, (rest.drop 3).take (wordAt rest 1)) :: ·)
    else none

/-- `n` entries of a fixed size. -/
def fixedEntries (kind : EntryKind) (size : Nat) : Nat → List Byte → List ImageEntry
  | 0, _ => []
  | n + 1, bytes => { kind := kind, params := bytes.take size } :: fixedEntries kind size n (bytes.drop size)

/-- A section that is a whole number of entries of a fixed size. -/
def wholeEntries (kind : EntryKind) (size : Nat) (body : List Byte) : Option (List ImageEntry) :=
  if body.length % size = 0 then some (fixedEntries kind size (body.length / size) body) else none

/-- The VIEWS section divided by the tile counts its entries carry; the first argument bounds how many there can be. -/
def viewEntries : Nat → List Byte → Option (List ImageEntry)
  | _, [] => some []
  | 0, _ => none
  | n + 1, bytes =>
    let size := 5 + 20 * byteAt bytes 4
    if 5 ≤ bytes.length && size ≤ bytes.length then
      (viewEntries n (bytes.drop size)).map ({ kind := .view, params := bytes.take size } :: ·)
    else none

/-- The entries of a section (R174), or none when the section does not hold whole entries (R175 step 4). -/
def sectionEntries (number : Nat) (body : List Byte) : Option (List ImageEntry) :=
  match number with
  | 0 => if body.length = 2 then some [{ kind := .hub, params := body }] else none
  | 1 => wholeEntries .port 4 body
  | 2 => wholeEntries .profile 13 body
  | 3 => wholeEntries .baselines 148 body
  | 4 => wholeEntries .stream 8 body
  | 5 => wholeEntries .channel 6 body
  | 6 => viewEntries body.length body
  | 7 =>
    if body.length < 8 then none
    else (wholeEntries .trigger 10 (body.take (body.length - 8))).map
      (· ++ [{ kind := .filterTimes, params := body.drop (body.length - 8) }])
  | 8 => wholeEntries .screen 3 body
  | 9 => wholeEntries .alert 9 body
  | _ => none

/-- The entries of the accepted sections, in order (R176), or none when some section, accepted or not, does not fit. -/
def acceptedEntries (accept : Nat) : List (Nat × List Byte) → Option (List ImageEntry)
  | [] => some []
  | (n, body) :: rest =>
    match sectionEntries n body, acceptedEntries accept rest with
    | some es, some more => some (if accept.testBit n then es ++ more else more)
    | _, _ => none

/-- What the judgement of an image gives: its result and, when VALID, the entries to apply. -/
structure Judgement where
  result : ImageResult
  entries : List ImageEntry
deriving DecidableEq, Repr

/-- The judging of the bytes that the image length covers (R175 steps 3 to 5). -/
def judgeImage (image : List Byte) : Judgement :=
  if imageCheck image ≠ wordAt image 6 then { result := .damaged, entries := [] }
  else
    match (takeSections (List.range 10) (image.drop 8)).bind (acceptedEntries (wordAt image 4)) with
    | none => { result := .damaged, entries := [] }
    | some es => { result := .valid, entries := es }

/-- The judging of what the image area holds (R175). A page 0 left partly programmed is never VALID (R181, entry 8). -/
def Flash.judge (f : Flash) : Judgement :=
  let head := f.readRange 0 8
  if head.take 2 ≠ imageMarker then { result := .absent, entries := [] }
  else if wordAt head 2 < 8 || 16384 < wordAt head 2 || f.torn then { result := .damaged, entries := [] }
  else judgeImage (f.readRange 0 (wordAt head 2))

/-- The judging of the image read from a flash that answers, or of one that does not and is read as erased (R173, entry 30). -/
def Flash.judgeRead (f : Flash) (answers : Bool) : Judgement := if answers then f.judge else Flash.erased.judge

/-! ## The flash under a SAVE job (R181) -/

/-- Bytes of the image area. -/
abbrev areaBytes : Nat := Config.areaPages * Config.pageBytes

/-- A page, or more of the flash, takes the bytes that `g` gives. -/
def Flash.overwrite (f : Flash) (a n : Nat) (g : Nat → Byte) : Flash :=
  { f with cells := Mem.overwrite erasedByte f.cells a n g }

/-- The erase command clears page 0 at once (R181). -/
def Flash.eraseStarted (f : Flash) : Flash :=
  { f.overwrite 0 Config.pageBytes (fun _ => erasedByte) with torn := false }

/-- The erase is reported done: the image area reads as erased (R181). -/
def Flash.eraseDone (f : Flash) : Flash := f.overwrite 0 areaBytes (fun _ => erasedByte)

/-- The erase does not complete, or is not seen to: page 0 is erased, the rest of the area is open (R181, R183, entry 7). -/
def Flash.eraseCut (f : Flash) (draw : Nat) : Flash :=
  f.overwrite Config.pageBytes (areaBytes - Config.pageBytes) (Config.freeByte draw)

/-- A page is programmed with its bytes of the image, padded with 255 (R181). -/
def Flash.pageDone (f : Flash) (image : List Byte) (page : Nat) : Flash :=
  f.overwrite (Config.pageBytes * page) Config.pageBytes (fun a => image.getD a erasedByte)

/-- A page's program does not complete, or is not seen to: its bytes are open, and page 0 is then partly programmed (R181, R183,
entries 7 and 8). -/
def Flash.pageCut (f : Flash) (draw page : Nat) : Flash :=
  { f.overwrite (Config.pageBytes * page) Config.pageBytes (Config.freeByte draw) with torn := f.torn || page = 0 }

/-- What a job's flash command leaves when it is not seen to its end (R181, R182, R183). -/
def SaveJob.cut (j : SaveJob) (f : Flash) (draw : Nat) : Flash :=
  match j.phase with
  | .erasing => f.eraseCut draw
  | .programming page => f.pageCut draw page

/-- The last page of an image (R181). -/
def lastPage (image : List Byte) : Nat := (image.length - 1) / Config.pageBytes

end Sys2Proof.Machine
end

