-- ==== Sys2Proof/Machine/Loader.lean ====
section
/-! DEFINITION. The settings loader (spec 10): the load, its end, the SAVE job. -/

namespace Sys2Proof.Machine

/-! ## Applying entries (R176, R177) -/

/-- The HUB section (R176): SET-HUB without a start of the silence timer (entry 27). -/
def hubSectionEffect (params : List Byte) (s : State) : State × Answer :=
  let n := readSetHub params
  (s.updHub (fun h => { h with silenceTime := n.value }), .done n.flag)

/-- The filter times of the TRIGGERS section (R176): a SET-LINES that names every door line and no virtual line. -/
def filterTimesEffect (params : List Byte) (s : State) : State × Answer := setLinesEffect ([0, 0, 255] ++ params) s

/-- A BASELINES entry accepted at a lens record (R177, entry 47). -/
def Lens.restore (baselines : Zones) (l : Lens) : Lens :=
  { l with state := .assessing, stated := .clean, pending := none, run := 0, baselines := baselines, clarity := .zero, share := 0
           lastJ := judgeable baselines }

/-- A BASELINES entry with learned mark 0 at a lens record (R177, entries 36 and 47). -/
def Lens.forget (l : Lens) : Lens :=
  if l.state = .assessing then { l.unlearn with stated := .unjudged, lastJ := 0 } else l

/-- The conditions of a learned BASELINES entry for a port as it stands (R177). -/
def BaselinesEntry.accepted (e : BaselinesEntry) (p : Profile) : Bool :=
  e.noise = p.noise && e.pair = (if p.pair then 1 else 0) &&
    e.baselines.all (fun b => b = 0 || (Config.baselineMin ≤ b && b ≤ Config.energyMax)) && Config.zonesMin ≤ judgeable e.baselines

/-- A BASELINES entry (R177). MODEL'S CHOICE, entry 47: a group judged since an earlier entry of the port may have moved its stated grade
off CLEAN (R78 to R80), which R177 leaves out of account. An accepted entry then brings the grade back to CLEAN, and one with learned mark 0
to UNJUDGED, each with a GRADE notice from the grade as it stands; a refused one keeps the grade and offers nothing. -/
def baselinesEffect (params : List Byte) (s : State) : State × Answer :=
  match readBaselines params with
  | none => (s, .refused .badField)
  | some e =>
    if !e.learned then (s.lensEvent e.port (fun l => (l.forget, none)), .done false)
    else if e.accepted (s.profileOf e.port) then
      (s.lensEvent e.port (fun l => (l.restore e.baselines, none)), .done false)
    else (s, .refused .badField)

/-- The effect of an entry, that of the order named against its section (R176). -/
def EntryKind.effect : EntryKind → List Byte → State → State × Answer
  | .hub => hubSectionEffect
  | .port => setPortEffect
  | .profile => loadProfileEffect
  | .baselines => baselinesEffect
  | .stream => loadStreamEffect
  | .channel => setChannelEffect
  | .view => loadViewEffect
  | .trigger => loadTriggerEffect
  | .filterTimes => filterTimesEffect
  | .screen => setScreenEffect
  | .alert => setAlertEffect

/-- Whether an answer is a refusal. -/
def Answer.isRefused : Answer → Bool
  | .refused _ => true
  | _ => false

/-- An entry is applied, or skipped and counted when its order would refuse it (R176). -/
def State.applyEntry (s : State) (e : ImageEntry) : State :=
  let r := e.kind.effect e.params s
  if r.2.isRefused then s.updHub (fun h => { h with refused := bumpTraffic h.refused }) else r.1

/-! ## The load (R178, R179) -/

/-- The START notice (R179, R167). -/
def State.startNotice (s : State) : Notice :=
  .start s.loader.resetTag s.orders.hub.cause s.orders.hub.image s.orders.hub.number s.orders.hub.refused

/-- The loader's image state set. -/
def State.setPhase (s : State) (p : LoadPhase) : State := { s with loader := { s.loader with phase := p } }

/-- The load goes on with these entries, or ends when there are none: READY, and a START notice is offered (R178, R179, entry 33).
-/
def State.continueLoad (s : State) (todo : List ImageEntry) : State :=
  if todo.isEmpty then (s.setPhase .ready).offer s.startNotice else s.setPhase (.applying todo)

/-- The image is judged (R175): the result is written, and the load goes on or ends. -/
def State.judgeLoad (s : State) (answers : Bool) : State :=
  match s.loader.phase with
  | .reading =>
    let j := s.flash.judgeRead answers
    (s.updHub (fun h => { h with image := j.result })).continueLoad j.entries
  | .applying _ => s
  | .ready => s

/-- IMAGE_JUDGED (R175). -/
def execImageJudged (answers : Bool) (s : State) : Host.Outcome State Fault Refusal := whenRunning (fun s => s.judgeLoad answers) s

/-- The next entry is applied (R176). -/
def State.applyNext (s : State) : State :=
  match s.loader.phase with
  | .applying (e :: todo) => (s.applyEntry e).continueLoad todo
  | .applying [] => s
  | .reading => s
  | .ready => s

/-- IMAGE_ENTRY_APPLY (R176). -/
def execImageEntryApply (s : State) : Host.Outcome State Fault Refusal := whenRunning State.applyNext s

/-! ## The SAVE job (R181) -/

/-- The SAVE job set. -/
def State.setJob (s : State) (j : Option SaveJob) : State := { s with loader := { s.loader with job := j } }

/-- The SAVE job begins: snapshot and erase command (R180, R181). -/
def State.startSave (s : State) (slot : Fin 2) : State :=
  { s with flash := s.flash.eraseStarted }.setJob (some { snapshot := s.snapshot, phase := .erasing, elapsed := 0, slot := slot })

/-- A SAVING slot's order is answered and its slot freed (R160, R181). -/
def OrderUnit.finishSaving (u : OrderUnit) (i : Fin 2) (a : Answer) : OrderUnit :=
  match Tab.get u.slots i with
  | .saving o => u.finish i o a
  | .pending _ => u
  | .free => u

/-- The SAVE job ends with this answer (R181). -/
def State.endSave (s : State) (j : SaveJob) (a : Answer) : State :=
  (s.setJob none).updOrders (fun u => u.finishSaving j.slot a)

/-- The flash command under way is not seen to its end: what it leaves is a free value (R181, R182, entry 7). -/
def State.cutFlash (s : State) (j : SaveJob) : State :=
  { s with flash := j.cut s.flash s.freeUsed, freeUsed := s.freeUsed + 1 }

/-- The job's flash command times out: the job fails (R181). -/
def State.failSave (s : State) (j : SaveJob) : State := (s.cutFlash j).endSave j .flashTimeout

/-- The erase is reported done (R181): the last page's program command follows. -/
def State.eraseDone (s : State) : State :=
  match s.loader.job with
  | some j =>
    match j.phase with
    | .erasing =>
      { s with flash := s.flash.eraseDone }.setJob (some { j with phase := .programming (lastPage j.snapshot), elapsed := 0 })
    | .programming _ => s
  | none => s

/-- ERASE_DONE (R181). -/
def execEraseDone (s : State) : Host.Outcome State Fault Refusal := whenRunning State.eraseDone s

/-- No erase report within 500 ms (R181). -/
def State.eraseTimeout (s : State) : State :=
  match s.loader.job with
  | some j =>
    match j.phase with
    | .erasing => s.failSave j
    | .programming _ => s
  | none => s

/-- ERASE_TIMEOUT (R181). -/
def execEraseTimeout (s : State) : Host.Outcome State Fault Refusal := whenRunning State.eraseTimeout s

/-- A page is reported done (R181): the next lower page follows, or the job ends DONE after page 0. -/
def State.pageDone (s : State) : State :=
  match s.loader.job with
  | some j =>
    match j.phase with
    | .erasing => s
    | .programming page =>
      let s := { s with flash := s.flash.pageDone j.snapshot page }
      match page with
      | 0 => s.endSave j (.done false)
      | p + 1 => s.setJob (some { j with phase := .programming p, elapsed := 0 })
  | none => s

/-- PAGE_DONE (R181). -/
def execPageDone (s : State) : Host.Outcome State Fault Refusal := whenRunning State.pageDone s

/-- No page report within 20 ms (R181). -/
def State.pageTimeout (s : State) : State :=
  match s.loader.job with
  | some j =>
    match j.phase with
    | .erasing => s
    | .programming _ => s.failSave j
  | none => s

/-- PAGE_TIMEOUT (R181). -/
def execPageTimeout (s : State) : Host.Outcome State Fault Refusal := whenRunning State.pageTimeout s

end Sys2Proof.Machine
end

