-- ==== Sys2Proof/Machine/Reset.lean ====
section
/-! DEFINITION. The three kinds of reset (spec 10 section 11.1). -/

namespace Sys2Proof.Machine

/-- A reset (R171, R182, R183): a SAVE job is abandoned, every block takes its reset values, and the pins, the boot flash and the
commands that wait stay as they are. -/
def State.takeReset (s : State) (cause : ResetCause) (tag : Option Byte) (held : Bool) (straps : BitVec 4) : State :=
  let s :=
    match s.loader.job with
    | some j => s.cutFlash j
    | none => s
  .resetWith cause tag held straps (s.selector.doors.map DoorLine.raw) s.flash s.freeUsed s.pending

/-- POWER_ON (R171): it ends at once, whether or not the reset line is asserted; the tag of a RESET-HUB is discarded
(entry 35). -/
def execPowerOn (straps : BitVec 4) (s : State) : Host.Outcome State Fault Refusal :=
  .next (s.takeReset .power none false straps)

/-- RESET_LINE_ASSERTED (R171): the hub is held in reset. -/
def execResetLineAsserted (s : State) : Host.Outcome State Fault Refusal :=
  .next (if s.held then s else s.takeReset .line none true s.straps)

/-- Reset exit (R171, R172, R116): the straps become the hub number, and each filtered level takes the raw level. -/
def State.exitReset (s : State) (straps : BitVec 4) : State :=
  { s with straps := straps, held := false, selector := .reset (s.selector.doors.map DoorLine.raw) }.updHub
    (fun h => { h with number := straps.toNat })

/-- RESET_LINE_RELEASED (R171): the line reset ends. -/
def execResetLineReleased (straps : BitVec 4) (s : State) : Host.Outcome State Fault Refusal :=
  .next (if s.held then s.exitReset straps else s)

end Sys2Proof.Machine
end

