-- ==== Sys2Proof/Machine/Orders.lean ====
section
/-! DEFINITION. The execution of orders (spec 09 sections 10.3 to 10.5). Each command executes the PENDING order that was consumed
first when it is of the command's kind and its condition to execute holds; otherwise nothing happens (entry 3). -/

namespace Sys2Proof.Machine

/-- The PENDING order that was consumed first, and its slot (R156). -/
def OrderUnit.firstPending (u : OrderUnit) : Option (Fin 2 × HeldOrder) :=
  match Tab.get u.slots 0, Tab.get u.slots 1 with
  | .pending a, .pending b => if a.seq < b.seq then some (0, a) else some (1, b)
  | .pending a, _ => some (0, a)
  | _, .pending b => some (1, b)
  | _, _ => none

/-- Whether the settings load is still going on (R178). -/
def State.loading (s : State) : Bool := s.loader.phase ≠ .ready

/-- The order code of RESET-HUB (R157). -/
abbrev resetHubCode : Byte := 20

/-- Whether an output still holds the copy of the order with this sequence number: in its management queue, or under way on its link
(R161, entry 15). -/
def Output.holdsCopy (o : Output) (seq : Nat) : Bool :=
  o.mgmt.any (fun e => e.copyOf = some seq) ||
    match o.sending with
    | .sending _ copyOf => copyOf = some seq
    | .idle | .cutting _ => false

/-- Whether the copy that a broadcast forwarded has been sent or discarded (R161, entry 15). -/
def State.copyGone (s : State) (o : HeldOrder) : Bool := !o.broadcast || !(s.out o.arrival.other).holdsCopy o.seq

/-- The condition to execute (R156, R161): a free reply place, and for a RESET-HUB after the load the departure of its copy in its
stead. A RESET-HUB that R157 refuses for its length has a REPLY and needs both (entry 15). -/
def State.canExecute (s : State) (o : HeldOrder) : Bool :=
  if o.code = resetHubCode && !s.loading then s.copyGone o && (o.params.isEmpty || s.orders.replyPlaceFree)
  else s.orders.replyPlaceFree

/-- The first-consumed PENDING order executes if its code is one of these and its condition holds. -/
def State.onOrder (s : State) (codes : Byte → Bool) (run : Fin 2 → HeldOrder → State → State) : State :=
  match s.orders.firstPending with
  | some (i, o) => if codes o.code && s.canExecute o then run i o s else s
  | none => s

/-- An order ends with an answer: its REPLY joins the queue behind the notices its effects offered, and its slot becomes FREE
(R157, R159). -/
def State.answer (s : State) (i : Fin 2) (o : HeldOrder) (a : Answer) : State := s.updOrders (fun u => u.finish i o a)

/-- The result of an order (R156, R157): REFUSED STARTING during the load, REFUSED BAD-FIELD for a wrong parameter length, else
what its effect gives. -/
def State.carryOut (s : State) (lengthOk : Bool) (effect : State → State × Answer) : State × Answer :=
  if s.loading then (s, .refused .starting) else if !lengthOk then (s, .refused .badField) else effect s

/-- An order of a code and a parameter length, with its effect (R157). -/
def State.runOrder (s : State) (code : Byte) (length : Nat) (effect : List Byte → State → State × Answer) : State :=
  s.onOrder (fun c => c = code) (fun i o s =>
    let r := s.carryOut (o.params.length = length) (effect o.params)
    r.1.answer i o r.2)

/-- PRESENCE (R162). -/
def execPresence (s : State) : Host.Outcome State Fault Refusal :=
  whenRunning (fun s => s.runOrder 1 0 (fun _ s => (s, .done false))) s

/-- SET-HUB (R110). -/
def execSetHub (s : State) : Host.Outcome State Fault Refusal := whenRunning (fun s => s.runOrder 2 2 setHubEffect) s

/-- SET-PORT (R14). -/
def execSetPort (s : State) : Host.Outcome State Fault Refusal := whenRunning (fun s => s.runOrder 3 4 setPortEffect) s

/-- RESTART-PORT (R15). -/
def execRestartPort (s : State) : Host.Outcome State Fault Refusal :=
  whenRunning (fun s => s.runOrder 4 1 restartPortEffect) s

/-- LOAD-STREAM (R21, R22). -/
def execLoadStream (s : State) : Host.Outcome State Fault Refusal := whenRunning (fun s => s.runOrder 5 8 loadStreamEffect) s

/-- SET-CHANNEL (R43). -/
def execSetChannel (s : State) : Host.Outcome State Fault Refusal := whenRunning (fun s => s.runOrder 6 6 setChannelEffect) s

/-- LOAD-VIEW (R122), whose parameter length follows from the tile count it carries and is checked with it (R157). -/
def execLoadView (s : State) : Host.Outcome State Fault Refusal :=
  whenRunning (fun s => s.onOrder (fun c => c = 7) (fun i o s =>
    let r := s.carryOut true (loadViewEffect o.params)
    r.1.answer i o r.2)) s

/-- SET-SCREEN (R119). -/
def execSetScreen (s : State) : Host.Outcome State Fault Refusal := whenRunning (fun s => s.runOrder 8 3 setScreenEffect) s

/-- LOAD-TRIGGER (R105). -/
def execLoadTrigger (s : State) : Host.Outcome State Fault Refusal := whenRunning (fun s => s.runOrder 9 10 loadTriggerEffect) s

/-- SET-LINES (R102). -/
def execSetLines (s : State) : Host.Outcome State Fault Refusal := whenRunning (fun s => s.runOrder 10 11 setLinesEffect) s

/-- PIN-VIEW (R108). -/
def execPinView (s : State) : Host.Outcome State Fault Refusal := whenRunning (fun s => s.runOrder 11 3 pinViewEffect) s

/-- RELEASE-VIEW (R109). -/
def execReleaseView (s : State) : Host.Outcome State Fault Refusal := whenRunning (fun s => s.runOrder 12 1 releaseViewEffect) s

/-- LOAD-PROFILE (R94). -/
def execLoadProfile (s : State) : Host.Outcome State Fault Refusal := whenRunning (fun s => s.runOrder 13 13 loadProfileEffect) s

/-- LEARN (R86). -/
def execLearn (s : State) : Host.Outcome State Fault Refusal := whenRunning (fun s => s.runOrder 14 1 learnEffect) s

/-- SET-ALERT (R143). -/
def execSetAlert (s : State) : Host.Outcome State Fault Refusal := whenRunning (fun s => s.runOrder 15 9 setAlertEffect) s

/-- QUERY (R163). -/
def execQuery (s : State) : Host.Outcome State Fault Refusal := whenRunning (fun s => s.runOrder 16 3 queryEffect) s

/-- QUERY-ZONES (R83). -/
def execQueryZones (s : State) : Host.Outcome State Fault Refusal := whenRunning (fun s => s.runOrder 17 1 queryZonesEffect) s

/-- CLEAR-COUNTS (R162). -/
def execClearCounts (s : State) : Host.Outcome State Fault Refusal := whenRunning (fun s => s.runOrder 18 2 clearCountsEffect) s

/-- A slot becomes SAVING: its REPLY comes later, in the place it keeps reserved (R160). -/
def OrderUnit.beginSaving (u : OrderUnit) (i : Fin 2) (o : HeldOrder) : OrderUnit :=
  { u with slots := Tab.upd u.slots i (fun _ => .saving o) }

/-- SAVE-SETTINGS at its execution (R160, R180): refused BUSY while another is in flight, else its job begins. -/
def State.saveSettings (s : State) (i : Fin 2) (o : HeldOrder) : State :=
  if s.loading then s.answer i o (.refused .starting)
  else if !o.params.isEmpty then s.answer i o (.refused .badField)
  else if s.loader.job.isSome then s.answer i o (.refused .busy)
  else (s.startSave i).updOrders (fun u => u.beginSaving i o)

/-- SAVE-SETTINGS (R160). -/
def execSaveSettings (s : State) : Host.Outcome State Fault Refusal :=
  whenRunning (fun s => s.onOrder (fun c => c = 19) (fun i o s => s.saveSettings i o)) s

/-- RESET-HUB at its execution (R156, R157, R161). Its reset exit reads the strap lines, whose levels are then a free value (R172,
entry 38). -/
def State.resetHub (s : State) (i : Fin 2) (o : HeldOrder) : State :=
  if s.loading then s.answer i o (.refused .starting)
  else if !o.params.isEmpty then s.answer i o (.refused .badField)
  else { s with freeUsed := s.freeUsed + 1 }.takeReset .order (some o.tag) false (Config.strapLevels s.freeUsed)

/-- RESET-HUB (R161). -/
def execResetHub (s : State) : Host.Outcome State Fault Refusal :=
  whenRunning (fun s => s.onOrder (fun c => c = resetHubCode) (fun i o s => s.resetHub i o)) s

/-- Whether a code is in the catalogue (R157). -/
def knownCode (code : Byte) : Bool := 1 ≤ code.toNat && code.toNat ≤ 20

/-- An order whose code is not in the catalogue (R157); during the load it is answered STARTING (R156). -/
def execBadCode (s : State) : Host.Outcome State Fault Refusal :=
  whenRunning (fun s => s.onOrder (fun c => !knownCode c) (fun i o s =>
    let r := s.carryOut true (fun s => (s, .refused .badCode))
    r.1.answer i o r.2)) s

/-- The command that executes an order of a code (R157). -/
def orderCommand (code : Byte) : Instr :=
  match code.toNat with
  | 1 => .presence
  | 2 => .setHub
  | 3 => .setPort
  | 4 => .restartPort
  | 5 => .loadStream
  | 6 => .setChannel
  | 7 => .loadView
  | 8 => .setScreen
  | 9 => .loadTrigger
  | 10 => .setLines
  | 11 => .pinView
  | 12 => .releaseView
  | 13 => .loadProfile
  | 14 => .learn
  | 15 => .setAlert
  | 16 => .query
  | 17 => .queryZones
  | 18 => .clearCounts
  | 19 => .saveSettings
  | 20 => .resetHub
  | _ => .badCode

/-- The order that can execute now, as a command (R156). -/
def State.orderDue (s : State) : Option Instr :=
  match s.orders.firstPending with
  | some (_, o) => if s.canExecute o then some (orderCommand o.code) else none
  | none => none

end Sys2Proof.Machine
end

