-- ==== Sys2Proof/Machine/Clock.lean ====
section
/-! DEFINITION. What the hub does of itself when no command waits (entry 1): the next event that is due, or else 1 ms passes. -/

namespace Sys2Proof.Machine

/-- A command when a condition holds. -/
def dueIf (b : Bool) (c : Instr) : List Instr := if b then [c] else []

/-- The load's next event (R178). -/
def State.loadDue (s : State) : List Instr :=
  match s.loader.phase with
  | .reading => [.imageJudged true]
  | .applying _ => [.imageEntryApply]
  | .ready => []

/-- The SAVE job's time limits (R181). -/
def State.saveDue (s : State) : List Instr :=
  match s.loader.job with
  | some j =>
    match j.phase with
    | .erasing => dueIf (Config.eraseLimit ≤ j.elapsed) .eraseTimeout
    | .programming _ => dueIf (Config.pageLimit ≤ j.elapsed) .pageTimeout
  | none => []

/-- A trunk's events: the hold's end, the end and the start of a transmission (R15, R30, R31). -/
def State.trunkDue (s : State) (t : Trunk) : List Instr :=
  dueIf ((s.rx (.trunk t)).hold = some 0) (.restartHoldEnd (.trunk t)) ++
    (match (s.out t).sending with
      | .sending _ _ => [.transmissionEnd t]
      | .idle => dueIf (s.canStart t) (.transmissionStart t)
      | .cutting _ => [])

/-- A channel's frame age at its limits (R60). -/
def State.channelDue (s : State) (c : Fin 12) : List Instr :=
  let r := Tab.get s.channels c
  dueIf (r.age.running && r.state = .live && r.staleTime ≤ r.age.ms) (.frameAgeStale c) ++
    dueIf (r.age.running && (r.state = .waiting || r.state = .stale) && r.lostTime ≤ r.age.ms) (.frameAgeLost c)

/-- A door line's filter wait at its filter time (R100). -/
def State.doorDue (s : State) (d : Fin 8) : List Instr :=
  match (s.door d).wait with
  | some elapsed => dueIf ((s.door d).filterTime ≤ elapsed) (.filterWaitExpiry d)
  | none => []

/-- A linger timer at its end (R107). -/
def State.triggerDue (s : State) (t : Fin 16) : List Instr := dueIf ((s.trigger t).state = .linger 0) (.lingerExpiry t)

/-- A pulse timer at the end of its half (R147). -/
def State.pulseDue (s : State) (a : Fin 4) : List Instr :=
  match (Tab.get s.alerts a).pulse with
  | some p => dueIf (Config.pulseHalf ≤ p.elapsed) (.pulseBoundary a)
  | none => []

/-- The hub's own events that are due, in the order in which it takes them (entry 24). -/
def State.due (s : State) : List Instr :=
  s.loadDue ++ s.saveDue ++ s.orderDue.toList ++ dueIf (!s.orders.queue.isEmpty && !s.noticeTargets.isEmpty) .noticeMove ++
    s.trunkDue .ta ++ s.trunkDue .tb ++
    (List.finRange 8).flatMap (fun i => dueIf ((s.rx (.cam i)).hold = some 0) (.restartHoldEnd (.cam i))) ++
    (List.finRange 12).flatMap s.channelDue ++ (List.finRange 8).flatMap s.doorDue ++ (List.finRange 16).flatMap s.triggerDue ++
    dueIf (s.orders.hub.silenceTimer = some 0) .silenceExpiry ++ (List.finRange 4).flatMap s.pulseDue ++
    (List.finRange 2).flatMap (fun sc => dueIf ((s.screen sc).frameTimer = 0) (.outputFrameStart sc))

/-! ## One millisecond -/

def Receiver.tick (r : Receiver) : Receiver := { r with hold := r.hold.map (· - 1) }

def TrunkPort.tick (p : TrunkPort) : TrunkPort := { p with rx := p.rx.tick }

def Channel.tick (c : Channel) : Channel := { c with age := { c.age with ms := if c.age.running then c.age.ms + 1 else c.age.ms } }

def TriggerState.tick : TriggerState → TriggerState
  | .linger ms => .linger (ms - 1)
  | .idle => .idle
  | .active => .active

def Selector.tick (v : Selector) : Selector :=
  { v with
    doors := v.doors.map (fun d => { d with wait := d.wait.map (· + 1) })
    triggers := v.triggers.map (fun t => { t with state := t.state.tick }) }

def Alert.tick (e : Alert) : Alert := { e with pulse := e.pulse.map (fun p => { p with elapsed := p.elapsed + 1 }) }

/-- A frame timer moves on. The millisecond that brings it to the start of a frame makes the start's reading at an enabled screen, so
that what comes before the screen's OUTPUT_FRAME_START falls between the reading and the takes (R131, entry 26). -/
def State.tickScreen (s : State) (sc : Fin 2) (x : Screen) : Screen :=
  { x with frameTimer := x.frameTimer - 1
           reading := if x.enable && x.frameTimer = 1 then some (s.readFrame sc) else x.reading }

/-- Every timer that runs moves on by 1 ms: holds (R15), frame ages (R59), filter waits (R100), linger timers (R107), the silence
timer (R110), frame timers (R118), pulse timers (R147), the SAVE job's limits (R181). -/
def State.tick (s : State) : State :=
  { s with
    cams := s.cams.map (fun c => { c with rx := c.rx.tick })
    trunks := ⟨s.trunks.ta.tick, s.trunks.tb.tick⟩
    channels := s.channels.map Channel.tick
    selector := s.selector.tick
    screens := Vector.ofFn (fun sc => s.tickScreen sc (s.screen sc))
    alerts := s.alerts.map Alert.tick
    orders := { s.orders with hub := { s.orders.hub with silenceTimer := s.orders.hub.silenceTimer.map (· - 1) } }
    loader := { s.loader with job := s.loader.job.map (fun j => { j with elapsed := j.elapsed + 1 }) } }

/-- What an empty queue brings: the command of the event that is due. None: time passes. -/
def State.idleCommand (s : State) : Option Instr := if s.held then none else s.due.head?

/-- What an empty queue brings when nothing is due: 1 ms, or nothing while the hub is held in reset. -/
def State.idle (s : State) : State := if s.held then s else s.tick

end Sys2Proof.Machine
end

