-- ==== Sys2Proof/Machine/Dispatch.lean ====
section
/-! DEFINITION. The meaning of each command: one arm for each constructor, in the order of spec/opcode_table.json. -/

namespace Sys2Proof.Machine

def exec (i : Instr) (s : State) : Host.Outcome State Fault Refusal :=
  match i with
  | .powerOn straps => Sys2Proof.Machine.execPowerOn straps s
  | .resetLineAsserted => Sys2Proof.Machine.execResetLineAsserted s
  | .resetLineReleased straps => Sys2Proof.Machine.execResetLineReleased straps s
  | .framingFault port cause bytes => Sys2Proof.Machine.execFramingFault port cause bytes s
  | .lineHeader port stream frame line => Sys2Proof.Machine.execLineHeader port stream frame line s
  | .packetEnd port bytes => Sys2Proof.Machine.execPacketEnd port bytes s
  | .poisonedArrival port bytes => Sys2Proof.Machine.execPoisonedArrival port bytes s
  | .linkUp port => Sys2Proof.Machine.execLinkUp port s
  | .linkDown port arrived => Sys2Proof.Machine.execLinkDown port arrived s
  | .restartHoldEnd port => Sys2Proof.Machine.execRestartHoldEnd port s
  | .transmissionStart trunk => Sys2Proof.Machine.execTransmissionStart trunk s
  | .transmissionEnd trunk => Sys2Proof.Machine.execTransmissionEnd trunk s
  | .frameAgeStale channel => Sys2Proof.Machine.execFrameAgeStale channel s
  | .frameAgeLost channel => Sys2Proof.Machine.execFrameAgeLost channel s
  | .doorLineChange line level => Sys2Proof.Machine.execDoorLineChange line level s
  | .filterWaitExpiry line => Sys2Proof.Machine.execFilterWaitExpiry line s
  | .lingerExpiry trigger => Sys2Proof.Machine.execLingerExpiry trigger s
  | .silenceExpiry => Sys2Proof.Machine.execSilenceExpiry s
  | .outputFrameStart screen => Sys2Proof.Machine.execOutputFrameStart screen s
  | .pulseBoundary entry => Sys2Proof.Machine.execPulseBoundary entry s
  | .noticeMove => Sys2Proof.Machine.execNoticeMove s
  | .presence => Sys2Proof.Machine.execPresence s
  | .setHub => Sys2Proof.Machine.execSetHub s
  | .setPort => Sys2Proof.Machine.execSetPort s
  | .restartPort => Sys2Proof.Machine.execRestartPort s
  | .loadStream => Sys2Proof.Machine.execLoadStream s
  | .setChannel => Sys2Proof.Machine.execSetChannel s
  | .loadView => Sys2Proof.Machine.execLoadView s
  | .setScreen => Sys2Proof.Machine.execSetScreen s
  | .loadTrigger => Sys2Proof.Machine.execLoadTrigger s
  | .setLines => Sys2Proof.Machine.execSetLines s
  | .pinView => Sys2Proof.Machine.execPinView s
  | .releaseView => Sys2Proof.Machine.execReleaseView s
  | .loadProfile => Sys2Proof.Machine.execLoadProfile s
  | .learn => Sys2Proof.Machine.execLearn s
  | .setAlert => Sys2Proof.Machine.execSetAlert s
  | .query => Sys2Proof.Machine.execQuery s
  | .queryZones => Sys2Proof.Machine.execQueryZones s
  | .clearCounts => Sys2Proof.Machine.execClearCounts s
  | .saveSettings => Sys2Proof.Machine.execSaveSettings s
  | .resetHub => Sys2Proof.Machine.execResetHub s
  | .badCode => Sys2Proof.Machine.execBadCode s
  | .eraseDone => Sys2Proof.Machine.execEraseDone s
  | .eraseTimeout => Sys2Proof.Machine.execEraseTimeout s
  | .pageDone => Sys2Proof.Machine.execPageDone s
  | .pageTimeout => Sys2Proof.Machine.execPageTimeout s
  | .imageJudged answers => Sys2Proof.Machine.execImageJudged answers s
  | .imageEntryApply => Sys2Proof.Machine.execImageEntryApply s

end Sys2Proof.Machine
end

