-- ==== Sys2Proof/Machine/Step.lean ====
section
/-! DEFINITION. One step of the hub: the command at the front of the queue, or on an empty queue what the hub does of itself. -/

namespace Sys2Proof.Machine

/-- `s` with the command that a word spells, if it spells one, put at the front of the queue. The table gives no bits, so no word
spells one (Decode.lean). -/
def State.withFetchWord (s : State) (nbits w : Nat) : State :=
  match decodeTableWord nbits w with
  | some c => { s with pending := c :: s.pending }
  | none => s

/-- One step. -/
def step (s : State) : Host.Outcome State Fault Refusal :=
  match s.pending with
  | c :: rest => exec c { s with pending := rest }
  | [] =>
    match s.idleCommand with
    | some c => exec c s
    | none => .next s.idle

end Sys2Proof.Machine
end

