-- ==== Sys2Proof/Safety.lean ====
section
/-! DEFINITION. What holds of the hub between events: the invariants that the claims speak of, block by block, from the ranges and
the prose of the spec. Each is stated of every state, not of the states that a run reaches. -/

namespace Sys2Proof.Machine

/-! ## Ports and trunk outputs (spec 01, 02) -/

/-- The ports keep R2, R9 and R15: a port in its hold is DOWN, and a LINE is in arrival only at a port that forms packets,
and that forms this one and ignores nothing. -/
def State.PortsConsistent (s : State) : Prop :=
  ∀ p : Port, ((s.rx p).hold.isSome = true → (s.rx p).link = .down) ∧ 
    ((s.rx p).arrival.isSome = true → s.receives p = true ∧ (s.rx p).unformed = none ∧ (s.rx p).ignoring = false)

/-- An output keeps the bounds of R30 and R33: 8 management places, 24 video places; a packet waits only while the video queue is
full; what waits is a FRAME-OPEN or FRAME-CLOSE, at most one for each stream (R35). -/
def Output.Bounded (o : Output) : Prop :=
  o.mgmt.length ≤ 8 ∧ o.video.length ≤ 24 ∧ (o.waiting ≠ [] → o.video.length = 24) ∧
    (∀ p ∈ o.waiting, (p.isFrameOpen || p.isFrameClose) = true) ∧ o.waiting.Pairwise (fun p q => p.stream ≠ q.stream)

/-- An output that holds nothing and sends nothing. -/
def Output.Quiet (o : Output) : Prop := o.mgmt = [] ∧ o.video = [] ∧ o.waiting = [] ∧ o.sending = .idle

/-- The trunk outputs: bounded, and quiet while their link is DOWN (R37). -/
def State.OutputsBounded (s : State) : Prop :=
  ∀ t : Trunk, (s.out t).Bounded ∧ (s.trunkUp t = false → (s.out t).Quiet)

/-- An output is CUTTING only a line that is in arrival, at the port it names, and that was cut through to it (R38, R39). -/
def State.CuttingHasArrival (s : State) : Prop :=
  ∀ (t : Trunk) (p : Port), (s.out t).sending = .cutting p →
    ∃ a : LineArrival, (s.rx p).arrival = some a ∧ a.decisions.get t = .cutThrough

/-! ## Channels (spec 02, 03) -/

/-- A channel keeps R42, R44, R45, R46, R59 and R60: what its stream, state, age, intake and slots say of each other. -/
def Channel.Consistent (c : Channel) : Prop :=
  (c.stream = none ↔ c.state = .unbound) ∧
  (c.age.running = true ↔ (c.state = .waiting ∨ c.state = .live ∨ c.state = .stale)) ∧
  (c.stream = none → c.intake = .none ∧ c.grade = .unjudged ∧ c.home = none ∧ ∀ i, (c.slot i).newest = false) ∧
  (∀ i, (c.slot i).state = .filling ↔ ∃ f, c.intake = .filling i f) ∧
  (∀ i f, c.intake = .filling i f → (c.slot i).frame = f) ∧
  (∀ i, (c.slot i).state = .stored ↔ ((c.slot i).newest = true ∨ (c.slot i).readers ≠ 0)) ∧
  (∀ i j, (c.slot i).newest = true → (c.slot j).newest = true → i = j) ∧
  (∀ i, (c.slot i).state = .stored → (c.slot i).missing.length ≤ 15) ∧
  c.patch ≤ 15 ∧ 40 ≤ c.staleTime ∧ c.staleTime ≤ 2000 ∧ c.staleTime + 10 ≤ c.lostTime ∧ c.lostTime ≤ 10000 ∧
  c.age.ms ≤ 10000

/-- Streams and channels name each other (R20, R21, R45, R46), every channel is consistent, and an invalid entry holds the reset
values (R21). -/
def State.ChannelsConsistent (s : State) : Prop :=
  (∀ c, (s.channel c).Consistent) ∧
  (∀ k c, (s.streamRec k).entry.channel = some c ↔ (s.channel c).stream = some k) ∧
  (∀ k, (s.streamRec k).entry.valid = false → (s.streamRec k).entry = .reset)

/-! ## Lens records (spec 04, 05) -/

/-- A lens record keeps R65, R86, R89, R90, R91 and R177. -/
def Lens.Consistent (l : Lens) : Prop :=
  (l.state = .assessing →
    l.stated ≠ .unjudged ∧ 12 ≤ judgeable l.baselines ∧ ∀ z : Fin 48, l.baselines[z] = 0 ∨ 64 ≤ l.baselines[z]) ∧
  (l.state ≠ .assessing → l.stated = .unjudged ∧ l.baselines = .zero) ∧
  (l.state = .learning → l.count < l.target ∧ l.nonJudged < 255) ∧
  (l.target = 4 ∨ l.target = 8 ∨ l.target = 16) ∧
  l.pending ≠ some .unjudged ∧ (∀ z : Fin 48, l.clarity[z] ≤ 250) ∧ l.share ≤ 100 ∧ l.lastJ ≤ 48

/-- A profile keeps the ranges of R93 and the checks of R94. -/
def Profile.Consistent (p : Profile) : Prop :=
  p.noise ≤ 63 ∧ 10 ≤ p.threshold ∧ p.threshold ≤ 95 ∧ 1 ≤ p.h1 ∧ p.h1 < p.h2 ∧ p.h2 < p.h3 ∧ p.h3 ≤ 100 ∧
  1 ≤ p.kWorse ∧ p.kWorse ≤ 15 ∧ 1 ≤ p.kBetter ∧ p.kBetter ≤ 63 ∧ p.dark < p.glare ∧ p.glare ≤ 255 ∧
  (p.learn = 4 ∨ p.learn = 8 ∨ p.learn = 16) ∧ (p.drift = 0 ∨ (4 ≤ p.drift ∧ p.drift ≤ 8))

/-- The lens assessor. -/
def State.LensesConsistent (s : State) : Prop :=
  (∀ i, (s.lens i).Consistent) ∧ ∀ p : Fin 4, (Tab.get s.profiles p).Consistent

/-! ## View selector (spec 06) -/

/-- Every entry stands as the present line vector has it (R104, R106): an enabled one is ACTIVE exactly while its condition holds, a
disabled one is IDLE. -/
def State.TriggersFollowVector (s : State) : Prop :=
  ∀ t, ((s.trigger t).enable = true → ((s.trigger t).state = .active ↔ (s.trigger t).holds s.selector.lineVector = true)) ∧
    ((s.trigger t).enable = false → (s.trigger t).state = .idle)

/-- Every chosen view record is what R112 gives for the triggers, the pin and the default view as they stand. -/
def State.ChosenViewsCurrent (s : State) : Prop :=
  ∀ sc : Fin 2, Tab.get s.selector.chosen sc =
    chooseView s.selector.triggers sc (Tab.get s.selector.pins sc) (s.screen sc).defaultView

/-- A filter wait runs exactly while the raw level of its line differs from the filtered level (R100, R101). -/
def State.FilterWaitsRun (s : State) : Prop :=
  ∀ d, ((s.door d).wait.isSome = true ↔ (s.door d).raw ≠ (s.door d).filtered)

/-! ## Screens (spec 07) -/

/-- A screen's held slots are the slots whose reader sets it is in (R56, R57, R117). -/
def State.HeldSlotsAreRead (s : State) : Prop :=
  ∀ (sc : Fin 2) (c : Fin 12) (i : Fin 3),
    Tab.get (s.screen sc).held c = some i ↔ hasMember ((s.channel c).slot i).readers sc.val = true

/-- The blink position is in 0..49 (R117), every tile copied has its record, a reading decides every tile of its copy, and a view holds
at most 8 tiles (R121). -/
def State.ScreensConsistent (s : State) : Prop :=
  (∀ sc : Fin 2, (∀ r, (s.screen sc).reading = some r → r.drawn.length = r.copy.tiles.length) ∧ (s.screen sc).blink < 50 ∧ (s.screen sc).frameBlink < 50 ∧
    (s.screen sc).record.length = (s.screen sc).copy.tiles.length) ∧
  ∀ v : Fin 32, (Tab.get s.views v).tiles.length ≤ 8

/-! ## Alert lines (spec 08) -/

/-- Every entry's demand is what its members call for, its pulse timer runs exactly while its demand is active, and its line has
the activity that R146 gives (R144 to R147). -/
def State.AlertsFollowMembers (s : State) : Prop :=
  ∀ a : Fin 4,
    let e := Tab.get s.alerts a
    e.demand = s.demandOf e.settings ∧ (e.pulse.isSome = true ↔ e.demand = true) ∧
      e.line = lineActivity e.settings.style e.demand e.pulse

/-! ## Order unit and loader (spec 09, 10) -/

/-- The notice queue keeps R164: at most 30 notices besides replies, at most 2 replies with the reservations, and no two state
notices of one kind and subject. -/
def State.NoticesBounded (s : State) : Prop :=
  noticesWaiting s.orders.queue ≤ 30 ∧ repliesWaiting s.orders.queue + s.orders.reservations ≤ 2 ∧
    s.orders.queue.Pairwise (fun a b => a.sameKey b = false)

/-- The SAVE job and its order slot stand for each other (R160), and page 0 reads as erased while the job lasts (R181). -/
def State.SaveJobConsistent (s : State) : Prop :=
  (∀ i : Fin 2, (Tab.get s.orders.slots i).isSaving = true ↔ ∃ j, s.loader.job = some j ∧ j.slot = i) ∧
  (s.loader.job.isSome = true → s.flash.torn = false ∧ ∀ a, a < 256 → s.flash.read a = 255)

/-- The boot flash and every slot's rows are in canonical form. -/
def State.MemoryCanonical (s : State) : Prop :=
  Mem.wf erasedByte s.flash.cells = true ∧ ∀ (c : Fin 12) (i : Fin 3), Mem.wf blankRow ((s.channel c).slot i).rows = true

/-! ## Counters (spec 00 section 1.4.4) -/

def ArrivalCounters.WithinLimits (c : ArrivalCounters) : Prop :=
  c.framing ≤ 255 ∧ c.check ≤ 255 ∧ c.shape ≤ 255 ∧ c.received ≤ 65535 ∧ c.unrouted ≤ 65535 ∧ c.misrouted ≤ 65535 ∧
    c.stray ≤ 65535

def TrunkCounters.WithinLimits (c : TrunkCounters) : Prop :=
  c.poisoned ≤ 255 ∧ c.unroutable ≤ 65535 ∧ c.sent ≤ 65535 ∧ c.queueCuts ≤ 65535 ∧ c.mgmtDrops ≤ 65535

def ChannelCounters.WithinLimits (c : ChannelCounters) : Prop :=
  c.published ≤ 65535 ∧ c.incomplete ≤ 65535 ∧ c.dropped ≤ 65535 ∧ c.patched ≤ 65535 ∧ c.poisoned ≤ 65535 ∧ c.stray ≤ 65535

/-- Error counters stay at or below 255, channel and traffic counters and the refused figure at or below 65,535. -/
def State.CountersWithinLimits (s : State) : Prop :=
  (∀ p, (s.rx p).counters.WithinLimits) ∧ (∀ t, (s.trunks.get t).counters.WithinLimits) ∧
  (∀ c, (s.channel c).counters.WithinLimits) ∧ s.orders.hub.overflow ≤ 255 ∧ s.orders.hub.lost ≤ 255 ∧
  s.orders.hub.refused ≤ 65535

/-! ## The words of the claims -/

/-- The first-consumed PENDING order can execute with its full effect: the hub runs, the load is over, and a reply place is free
(R156). It is `o` in slot `i`, with this code and these parameters. -/
structure State.Executes (s : State) (i : Fin 2) (o : HeldOrder) (code : Byte) (params : List Byte) : Prop where
  running : s.held = false
  loaded : s.loader.phase = .ready
  first : s.orders.firstPending = some (i, o)
  hasCode : o.code = code
  carries : o.params = params
  place : s.orders.replyPlaceFree = true

/-- A port between packets: it forms packets, no LINE is in arrival, formed or not, and it waits for a START only as every
port does. -/
structure State.BetweenPackets (s : State) (p : Port) : Prop where
  running : s.held = false
  forms : s.receives p = true
  noLine : (s.rx p).arrival = none
  listens : (s.rx p).ignoring = false
  forming : (s.rx p).unformed = none

/-- A LINE whose header has been handed on is in arrival at a port that forms packets (R9). -/
structure State.InLine (s : State) (p : Port) (a : LineArrival) : Prop where
  running : s.held = false
  forms : s.receives p = true
  arrives : (s.rx p).arrival = some a
  listens : (s.rx p).ignoring = false
  forming : (s.rx p).unformed = none

/-- These bytes hold the LINE of this stream, frame and line (R5); a camera port renumbers the stream and does not compare it. -/
def HoldsLine (p : Port) (stream : Fin 256) (frame line : Nat) (bytes : List Byte) : Prop :=
  hasLineHeader bytes = true ∧ wordAt bytes 2 = frame ∧ wordAt bytes 4 = line ∧ ∀ u, p = .trunk u → (bytes.getD 1 0).toFin = stream

/-- A line in arrival still belongs to the frame that its stream has open (R26). -/
def State.StillOpen (s : State) (a : LineArrival) : Prop :=
  (s.streamRec a.stream).flow.isOpen = true ∧ a.fate = .belongs (s.streamRec a.stream).flow.epoch

/-- At a trunk the output, its port's further counters and the cut flag of a stream are as in another state. -/
def State.CopyIs (t x : State) (u : Trunk) (k : Fin 256) : Prop :=
  t.out u = x.out u ∧ (t.trunks.get u).counters = (x.trunks.get u).counters ∧
    (t.streamRec k).flow.cut.get u = (x.streamRec k).flow.cut.get u

/-- A LINE delivered to a channel takes it from `c` to `d` (R50, R51, R55). -/
structure Channel.TookLine (c : Channel) (frame line : Nat) (pixels : List Byte) (poisoned : Bool) (d : Channel) : Prop where
  stray : (c.intake = .none ∨ (∃ i f, c.intake = .filling i f ∧ f ≠ frame) ∨ ∃ f, c.intake = .dropping f ∧ f ≠ frame) →
    d = { c with counters := { c.counters with stray := min (c.counters.stray + 1) 65535 } }
  dropping : c.intake = .dropping frame → d = c
  filling : ∀ i, c.intake = .filling i frame →
    { d with slots := c.slots, counters := c.counters } = c ∧
    d.counters = (if poisoned then { c.counters with poisoned := min (c.counters.poisoned + 1) 65535 } else c.counters) ∧
    (∀ j, j ≠ i → d.slot j = c.slot j) ∧ { d.slot i with good := (c.slot i).good, rows := (c.slot i).rows } = c.slot i ∧
    (∀ k, k ∈ (d.slot i).good ↔ k ∈ (c.slot i).good ∨ (poisoned = false ∧ k = line)) ∧
    ∀ k, (d.slot i).row k = if k = line ∧ line ∉ (c.slot i).good then pixels else (c.slot i).row k

/-- A LINE of this stream is in arrival at a port. -/
def State.arrivesAt (s : State) (p : Port) (k : Fin 256) : Prop := ∃ a, (s.rx p).arrival = some a ∧ a.stream = k

/-- What a LINE in arrival at a port that is lost leaves, which ends FAILED (R9, R39, R40), from `s` to `t`: the cut flags of its stored
copies are set, and no output goes on cutting it. -/
structure State.ArrivalFailed (s : State) (p : Port) (t : State) : Prop where
  spoiled : ∀ a u, (s.rx p).arrival = some a → s.StillOpen a → a.decisions.get u = .stored →
    (t.streamRec a.stream).flow.cut.get u = true
  ended : s.CuttingHasArrival → ∀ u, .trunk u ≠ p →
    (t.out u).sending = if (s.out u).sending = .cutting p then .idle else (s.out u).sending

/-- What origin loss at a port makes of the streams, the channels and the outputs (R13, R28, R37), from `s` to `t`; a trunk port that reports
it has lost its link. A LINE that ends with it is of one of the streams `ended`. What `State.originLoss` makes of an output is a claim of
its own. -/
structure State.OriginLost (s : State) (p : Port) (ended : Fin 256 → Prop) (t : State) : Prop where
  streams : ∀ k, { t.streamRec k with flow := { (t.streamRec k).flow with cut := (s.streamRec k).flow.cut } } =
    if (s.streamRec k).entry.valid = true ∧ (s.streamRec k).entry.origin = p then
      { s.streamRec k with flow := { (s.streamRec k).flow with isOpen := false } }
    else s.streamRec k
  cut : ∀ k u, p = .trunk u → (s.streamRec k).flow.isOpen = true → (s.streamRec k).entry.sendTo.get u = true →
    (t.streamRec k).flow.cut.get u = true
  uncut : ∀ k u, ¬ended k → ¬(p = .trunk u ∧ (s.streamRec k).flow.isOpen = true ∧ (s.streamRec k).entry.sendTo.get u = true) →
    (t.streamRec k).flow.cut.get u = (s.streamRec k).flow.cut.get u
  closed : s.ChannelsConsistent → ∀ c k, (s.channel c).stream = some k → (s.streamRec k).entry.origin = p →
    (s.streamRec k).flow.isOpen = true → t.channel c = (s.channel c).frameClose (s.streamRec k).flow.frame .cut
  others : s.ChannelsConsistent → ∀ c, (∀ k, (s.channel c).stream = some k →
    ¬((s.streamRec k).entry.origin = p ∧ (s.streamRec k).flow.isOpen = true)) → t.channel c = s.channel c
  outputs : ∀ u, .trunk u ≠ p → (t.out u).mgmt = (s.out u).mgmt ∧ (t.out u).video = ((s.originLoss p).out u).video ∧
    (t.out u).waiting = ((s.originLoss p).out u).waiting ∧
    (t.trunks.get u).counters.queueCuts = ((s.originLoss p).trunks.get u).counters.queueCuts

/-- What the end report of a LINE in arrival makes of the hub (R9, R24, R26, R34, R38 to R40), from `s`, where the packet has been counted
and offered to the assessor, to `t`. `bytes` is what arrived of the packet. Entry 32 says how a discarded copy is counted, entry 42 that
this holds of a line whose stream was closed meanwhile too, which is stray besides. -/
structure State.LineEnded (s : State) (p : Port) (a : LineArrival) (report : EndReport) (bytes : List Byte) (t : State) : Prop where
  uncounted : report = .failed ∨ s.StillOpen a → t.rx p = { s.rx p with arrival := none }
  unrouted : report ≠ .failed → a.fate = .unrouted → t.rx p =
    { s.rx p with arrival := none, counters := { (s.rx p).counters with unrouted := min ((s.rx p).counters.unrouted + 1) 65535 } }
  misrouted : report ≠ .failed → a.fate = .misrouted → t.rx p =
    { s.rx p with arrival := none, counters := { (s.rx p).counters with misrouted := min ((s.rx p).counters.misrouted + 1) 65535 } }
  stray : report ≠ .failed → (a.fate = .stray ∨ ((∃ n, a.fate = .belongs n) ∧ ¬s.StillOpen a)) → t.rx p =
    { s.rx p with arrival := none, counters := { (s.rx p).counters with stray := min ((s.rx p).counters.stray + 1) 65535 } }
  receivers : ∀ q, q ≠ p → t.rx q = s.rx q
  through : ∀ u, (s.out u).sending = .cutting p →
    let line := (Packet.line a.stream a.frame a.line ((bytes.drop 6).take 2560)).body
    let checked := if report = .good ∨ line.length = 2566 then line ++ byte2 (packetCheck line).toNat else line
    t.CopyIs (s.updTrunk u (fun x =>
      { x with out := { x.out with sending := .idle, lastTx := some ⟨checked, decide (report ≠ .good)⟩ }
               counters := { x.counters with sent := min (x.counters.sent + 1) 65535 } })) u a.stream
  stored : ∀ u, s.StillOpen a → a.decisions.get u = .stored → report = .good →
    t.CopyIs (s.offerLine u a.stream (.line a.stream a.frame a.line ((bytes.drop 6).take 2560))) u a.stream
  spoiled : ∀ u, s.StillOpen a → a.decisions.get u = .stored → report ≠ .good → t.CopyIs (s.setCut u a.stream) u a.stream
  cut : ∀ u, (∃ n, a.fate = .belongs n) → a.decisions.get u = .discardedCut → report ≠ .failed →
    t.CopyIs (s.countQueueCuts u 1) u a.stream
  kept : ∀ u, (s.out u).sending ≠ .cutting p → ¬(s.StillOpen a ∧ a.decisions.get u = .stored) →
    ¬((∃ n, a.fate = .belongs n) ∧ a.decisions.get u = .discardedCut ∧ report ≠ .failed) → t.CopyIs s u a.stream
  streams : ∀ k, k ≠ a.stream → t.streamRec k = s.streamRec k
  stream : { t.streamRec a.stream with flow := { (t.streamRec a.stream).flow with cut := (s.streamRec a.stream).flow.cut } } =
    s.streamRec a.stream
  delivered : ∀ c, s.StillOpen a → report ≠ .failed → (s.streamRec a.stream).entry.channel = some c →
    (s.channel c).TookLine a.frame a.line ((bytes.drop 6).take 2560) (decide (report = .poisoned)) (t.channel c)
  channels : ∀ c, ¬(s.StillOpen a ∧ report ≠ .failed ∧ (s.streamRec a.stream).entry.channel = some c) → t.channel c = s.channel c
  cams : ∀ i, { Tab.get t.cams i with rx := (Tab.get s.cams i).rx } = Tab.get s.cams i
  rest : t.lenses = s.lenses ∧ t.profiles = s.profiles ∧ t.selector = s.selector ∧ t.screens = s.screens ∧ t.views = s.views ∧
    t.alerts = s.alerts ∧ t.orders = s.orders ∧ t.loader = s.loader ∧ t.flash = s.flash ∧ t.straps = s.straps ∧
    t.held = s.held ∧ t.pending = s.pending

/-- The order unit `w` after the recomputation of a screen that takes its chosen view from `s` to `t`: a VIEW notice when the view changed
(R113). -/
def State.viewNotice (s t : State) (sc : Fin 2) (w : OrderUnit) : OrderUnit :=
  let old := Tab.get s.selector.chosen sc
  let new := Tab.get t.selector.chosen sc
  if old.view = new.view then w else w.offer (.view sc old.view new.view new.source)

/-- What one change of the line vector makes of the hub (R103, R106, R112, R113), from `s` before it to `t`, where the door lines and the
virtual lines stand as changed. Entry 13 says how often the chosen views are recomputed, and in which order their notices join. -/
structure State.VectorMoves (s t : State) : Prop where
  triggers : ∀ n, t.trigger n = { s.trigger n with
    state :=
      if (s.trigger n).enable = false then (s.trigger n).state
      else if t.selector.lineVector &&& (s.trigger n).mask = (s.trigger n).value &&& (s.trigger n).mask then .active
      else match (s.trigger n).state with
        | .active => if (s.trigger n).linger = 0 then .idle else .linger (1000 * (s.trigger n).linger)
        | .idle => .idle
        | .linger ms => .linger ms }
  chosen : s.ChosenViewsCurrent → t.ChosenViewsCurrent
  unmoved : (∀ n, t.trigger n = s.trigger n) → t.selector.chosen = s.selector.chosen
  notices : t.orders = s.viewNotice t 1 (s.viewNotice t 0 s.orders)
  pins : t.selector.pins = s.selector.pins
  rest : t.cams = s.cams ∧ t.trunks = s.trunks ∧ t.streams = s.streams ∧ t.channels = s.channels ∧ t.lenses = s.lenses ∧
    t.profiles = s.profiles ∧ t.screens = s.screens ∧ t.views = s.views ∧ t.alerts = s.alerts ∧ t.loader = s.loader ∧
    t.flash = s.flash ∧ t.straps = s.straps ∧ t.held = s.held ∧ t.pending = s.pending

/-- Row `r` is what a STORED slot with these missing lines yields for row `k` (R54): the row itself when it is not missing, else the
nearest row above that is not, else the nearest below. -/
def RowYielded (missing : List Nat) (k r : Nat) : Prop :=
  (k ∉ missing ∧ r = k) ∨
  (k ∈ missing ∧ r < k ∧ r ∉ missing ∧ ∀ q, r < q → q < k → q ∈ missing) ∨
  (k ∈ missing ∧ (∀ q, q < k → q ∈ missing) ∧ k < r ∧ r < 720 ∧ r ∉ missing ∧ ∀ q, k < q → q < r → q ∈ missing)

/-- The entries of a section of the settings image, by its number (R174): their kind and their size. -/
def SectionHolds : Nat → List ImageEntry → Prop
  | 0, es => ∃ b, es = [⟨.hub, b⟩] ∧ b.length = 2
  | 1, es => ∀ e ∈ es, e.kind = .port ∧ e.params.length = 4
  | 2, es => ∀ e ∈ es, e.kind = .profile ∧ e.params.length = 13
  | 3, es => ∀ e ∈ es, e.kind = .baselines ∧ e.params.length = 148
  | 4, es => ∀ e ∈ es, e.kind = .stream ∧ e.params.length = 8
  | 5, es => ∀ e ∈ es, e.kind = .channel ∧ e.params.length = 6
  | 6, es => ∀ e ∈ es, e.kind = .view ∧ 5 ≤ e.params.length ∧ e.params.length = 5 + 20 * (e.params.getD 4 0).toNat
  | 7, es => ∃ ts b, es = ts ++ [⟨.filterTimes, b⟩] ∧ b.length = 8 ∧ ∀ e ∈ ts, e.kind = .trigger ∧ e.params.length = 10
  | 8, es => ∀ e ∈ es, e.kind = .screen ∧ e.params.length = 3
  | 9, es => ∀ e ∈ es, e.kind = .alert ∧ e.params.length = 9
  | _, _ => False

/-- These bytes are the ten sections of a settings image (R174), each with its number, its length and its entries, and nothing more. -/
structure Sections (bytes : List Byte) (parts : List (List ImageEntry)) : Prop where
  ten : parts.length = 10
  hold : ∀ n es, parts[n]? = some es → SectionHolds n es
  joined : bytes = parts.zipIdx.flatMap (fun x =>
    let body := x.1.flatMap ImageEntry.params
    byte1 x.2 ++ byte2 body.length ++ body)

/-- A packet whose fields are in the ranges of R5. -/
def Packet.WellFormed : Packet → Prop
  | .frameOpen _ f _ h => f < 65536 ∧ h < 16
  | .line _ f n pixels => f < 65536 ∧ n < 720 ∧ pixels.length = 2560
  | .frameClose _ f _ => f < 65536
  | .order _ _ _ params => params.length ≤ 192
  | .notice _ _ _ _ params => params.length ≤ 192

/-- The state after an order's REPLY with this result: the REPLY stands at the tail of the notice queue and the slot is FREE (R156,
R159). -/
def State.replied (s : State) (i : Fin 2) (o : HeldOrder) (a : Answer) : State :=
  { s with orders := { s.orders with
    queue := s.orders.queue ++ [.reply o.tag o.code a]
    slots := s.orders.slots.set i.val .free } }

/-- Every block at the values that its chapter gives for every kind of reset (R18, R19, R41, R64, R84, R93, R99, R116, R140, R150,
R170, R183), with this cause. Frame memory, of which the spec says nothing, is as entry 19 has it. -/
structure State.AtReset (s : State) (cause : ResetCause) : Prop where
  cameras : ∀ i : Fin 8, Tab.get s.cams i =
    { rx := { link := .down, hold := none, arrival := none, unformed := none, ignoring := false, counters := ⟨0, 0, 0, 0, 0, 0, 0⟩ }
      enable := false, stream := 0, profile := 0, openFrame := none }
  trunks : ∀ t : Trunk, s.trunks.get t =
    { rx := { link := .down, hold := none, arrival := none, unformed := none, ignoring := false, counters := ⟨0, 0, 0, 0, 0, 0, 0⟩ }
      counters := ⟨0, 0, 0, 0, 0⟩
      out := { mgmt := [], video := [], waiting := [], sending := .idle, lastTx := none } }
  streams : ∀ k : Fin 256, s.streamRec k =
    { entry := { valid := false, origin := .cam 0, sendTo := ⟨false, false⟩, channel := none, cutThrough := ⟨false, false⟩ }
      flow := { isOpen := false, frame := 0, cut := ⟨false, false⟩, epoch := 0 } }
  channels : ∀ c : Fin 12, s.channel c =
    { stream := none, state := .unbound, grade := .unjudged, home := none, patch := 4, staleTime := 200, lostTime := 2000
      age := ⟨0, false⟩, intake := .none
      slots := Vector.replicate 3 { state := .free, frame := 0, good := [], missing := [], newest := false, readers := 0, rows := [] }
      counters := ⟨0, 0, 0, 0, 0, 0⟩ }
  lenses : ∀ i : Fin 8, s.lens i =
    { state := .unlearned, stated := .unjudged, pending := none, run := 0, baselines := Vector.replicate 48 0
      clarity := Vector.replicate 48 0, verdict := none, share := 0, lastJ := 0, measure := none, half := none
      sums := Vector.replicate 48 0, count := 0, target := 8, nonJudged := 0 }
  profiles : ∀ i : Fin 4, Tab.get s.profiles i =
    { noise := 8, threshold := 60, h1 := 15, h2 := 35, h3 := 70, kWorse := 3, kBetter := 10, dark := 24, glare := 235
      learn := 8, drift := 6, pair := false }
  doors : ∀ d : Fin 8, (s.door d).filtered = (s.door d).raw ∧ (s.door d).filterTime = 10 ∧ (s.door d).wait = none ∧
    (s.door d).stoppedAt = 0
  virtualLines : s.selector.virtual = 0
  triggers : ∀ t : Fin 16, s.trigger t =
    { enable := false, mask := 0, value := 0, screens := 0, view := 0, priority := 1, linger := 0, state := .idle }
  pins : ∀ sc : Fin 2, Tab.get s.selector.pins sc = none
  chosen : ∀ sc : Fin 2, Tab.get s.selector.chosen sc = ⟨0, .default⟩
  screens : ∀ sc : Fin 2, s.screen sc =
    { enable := true, defaultView := 0, activeView := 0, copy := { background := ⟨96, 128, 128⟩, tiles := [] }, blink := 0
      held := Vector.replicate 12 none, record := [], composing := false, frameBlink := 0, frameTimer := 0
      reading := none }
  views : ∀ v : Fin 32, Tab.get s.views v = { background := ⟨96, 128, 128⟩, tiles := [] }
  alerts : ∀ a : Fin 4, Tab.get s.alerts a =
    { settings := { mode := .off, channels := 0, ports := 0, stateCondition := .none, gradeCondition := .none, style := .steady
                    polarity := .activeHigh }
      demand := false, pulse := none, line := false }
  slots : ∀ i : Fin 2, Tab.get s.orders.slots i = .free
  queue : s.orders.queue = []
  side : s.orders.hub.side = .both
  silence : s.orders.hub.silenceTime = 0 ∧ s.orders.hub.silenceTimer = none ∧ s.orders.hub.silenceStopped = 0
  counts : s.orders.hub.overflow = 0 ∧ s.orders.hub.lost = 0
  cause : s.orders.hub.cause = cause
  number : s.orders.hub.number = s.straps.toNat
  image : s.orders.hub.image = .absent ∧ s.orders.hub.refused = 0
  loader : s.loader.phase = .reading ∧ s.loader.job = none

/-- While the hub is held in reset every block stands at its reset values, with cause LINE (R171). -/
def State.HeldAtReset (s : State) : Prop := s.held = true → s.AtReset .line

end Sys2Proof.Machine
end

