-- ==== Sys2Proof/Certificates/Slice0/Obligations.lean ====
section
/-! DEFINITION. The statements about the hub, chapter by chapter. Each docstring names the rules of spec/ it formalises; where a
clause is the model's own choice it names the entry of notes/assumptions. The words of the statements that are not the model's
stand at the end of Safety.lean. -/

open Sys2Proof Sys2Proof.Machine

/-! ## One step, and the three resets -/

/-- A step with a command at the front of the queue is that command's meaning on the state with the rest of the queue (95: each
command is one event). -/
def Obligations.StepRunsFrontCommand : Prop :=
  ∀ (c : Instr) (rest : List Instr) (s : State),
    step { s with pending := c :: rest } = exec c { s with pending := rest }

/-- MODEL'S CHOICE (entries 1 and 24). On an empty queue the hub takes its next event that is due; when none is due 1 ms passes;
while it is held in reset nothing happens. -/
def Obligations.EmptyQueueTakesDueEventOrTime : Prop :=
  ∀ s : State, s.pending = [] →
    (s.held = true → step s = .next s) ∧
    (s.held = false → ∀ c rest, s.due = c :: rest → step s = exec c s) ∧
    (s.held = false → s.due = [] → step s = .next s.tick)

/-- POWER_ON (R171, R172, and the reset rules of every chapter): every block at its reset values, cause POWER, the straps read, the
tag of a RESET-HUB discarded, the door lines' raw levels and the boot flash as they stand (but for a SAVE job that it abandons,
R182), no command lost. -/
def Obligations.PowerOnResetsEveryBlock : Prop :=
  ∀ (straps : BitVec 4) (s : State), ∃ t : State,
    exec (.powerOn straps) s = .next t ∧ t.AtReset .power ∧ t.held = false ∧ t.straps = straps ∧ t.loader.resetTag = none ∧
    (∀ d, (t.door d).raw = (s.door d).raw) ∧ (s.loader.job = none → t.flash = s.flash) ∧ t.pending = s.pending

/-- RESET_LINE_ASSERTED and RESET_LINE_RELEASED (R171, R172, R116): the hub is held at its reset values with cause LINE; at the
release the straps are read, the filtered levels take the raw levels, and all else stays. MODEL'S CHOICE (entry 37): a door-line change at
a hub that is held in reset moves the raw and the filtered level together; R116 fixes the filtered level at reset exit only. -/
def Obligations.ResetLineHoldsAndReleases : Prop :=
  ∀ (straps : BitVec 4) (s : State),
    (s.held = false → ∃ t : State,
      exec .resetLineAsserted s = .next t ∧ t.AtReset .line ∧ t.held = true ∧ t.loader.resetTag = none ∧ t.straps = s.straps ∧
      (∀ d, (t.door d).raw = (s.door d).raw) ∧ (s.loader.job = none → t.flash = s.flash) ∧ t.pending = s.pending) ∧
    (s.held = true → s.AtReset .line → ∃ t : State,
      exec (.resetLineReleased straps) s = .next t ∧ t.AtReset .line ∧ t.held = false ∧ t.straps = straps ∧
      (∀ d, (t.door d).raw = (s.door d).raw) ∧ t.loader = s.loader ∧ t.flash = s.flash ∧ t.pending = s.pending) ∧
    (s.held = true → ∀ d level, exec (.doorLineChange d level) s =
      .next (s.updDoor d (fun x => { x with raw := level, filtered := level })))

/-- MODEL'S CHOICE (entry 3; R171 has no event at a hub that is held in reset). While the hub is held in reset every command leaves
the state as it is, but POWER_ON, the release, and the raw level of a door line. -/
def Obligations.HeldHubStandsStill : Prop :=
  ∀ (c : Instr) (s : State), s.held = true →
    (∀ straps, c ≠ .powerOn straps) → (∀ straps, c ≠ .resetLineReleased straps) → (∀ d l, c ≠ .doorLineChange d l) →
    exec c s = .next s

/-- RESET-HUB after the load (R161, R171, R172, R182): it resets the hub with cause ORDER and keeps its tag, without a REPLY; while the
copy of a broadcast stands in the management queue it was offered to, or is under way on that output, it waits. That a copy under way has
not been sent is entry 15; what the strap lines carry at this reset exit is a free value, entry 38. -/
def Obligations.ResetHubResetsAndKeepsTag : Prop :=
  ∀ (s : State) (i : Fin 2) (o : HeldOrder), s.held = false → s.loader.phase = .ready →
    s.orders.firstPending = some (i, o) → o.code = 20 → o.params = [] →
    let stands : Prop := o.broadcast = true ∧ ((∃ e ∈ (s.out o.arrival.other).mgmt, e.copyOf = some o.seq) ∨
      ∃ p, (s.out o.arrival.other).sending = .sending p (some o.seq))
    (¬stands → ∃ t : State,
      exec .resetHub s = .next t ∧ t.AtReset .order ∧ t.held = false ∧ t.loader.resetTag = some o.tag ∧
      t.straps = Config.strapLevels s.freeUsed ∧ (∀ d, (t.door d).raw = (s.door d).raw) ∧
      (s.loader.job = none → t.flash = s.flash) ∧ t.pending = s.pending) ∧
    (stands → exec .resetHub s = .next s)

/-- The state after reset is that of a power-on reset. MODEL'S CHOICE: the strap and door lines low (entry 16), the boot flash
erased (entry 17), nothing waiting. -/
def Obligations.StateResetIsPowerOn : Prop :=
  State.reset.AtReset .power ∧ State.reset.held = false ∧ State.reset.straps = 0 ∧ State.reset.loader.resetTag = none ∧
    (∀ d, (State.reset.door d).raw = false) ∧ State.reset.flash = { cells := [], torn := false } ∧ State.reset.pending = []

/-! ## The picture link (spec 01) -/

/-- Every packet whose fields are in range, sent with its computed check, is read back whole at a trunk port (R4, R5, R6). -/
def Obligations.WirePacketsRoundTrip : Prop :=
  ∀ p : Packet, p.WellFormed → judgePacket true p.wire = .ok p

/-- FRAMING_FAULT, and PACKET_END of a faulty packet (R1, R6, R9): the packet is discarded, the one counter counts it, and nothing
else of the hub changes; after an over-long packet the port ignores all until the next START, and a packet that this START opens is
counted as any other. A LINE whose header has been handed on, and
whose packet then has a framing, check or shape fault, ends FAILED; one with a line number above 719 is a shape fault alone. A LINE whose
header comes with the command that ends or cuts its packet (FRAMING_FAULT, PACKET_END, POISONED_ARRIVAL or LINK_DOWN) has handed its header
on too: the command does what it does after the LINE_HEADER. That pairing of commands is the model's choice, entry 5, and what the channels
and counters of a discarded copy show is entry 32. -/
def Obligations.FaultyPacketsAreCounted : Prop :=
  ∀ (p : Port) (s : State),
    let faulty : FramingCause → State := fun cause => s.updRx p (fun x =>
      { x with ignoring := decide (cause = .overLong), counters := { x.counters with framing := min (x.counters.framing + 1) 255 } })
    let check : State := s.updRx p (fun x =>
      { x with ignoring := false, counters := { x.counters with check := min (x.counters.check + 1) 255 } })
    let shape : Bool → State := fun ignoring => s.updRx p (fun x =>
      { x with ignoring := ignoring, counters := { x.counters with shape := min (x.counters.shape + 1) 255 } })
    let sameElsewhere : State → Prop := fun t =>
      t.channels = s.channels ∧ t.lenses = s.lenses ∧ t.orders = s.orders ∧ t.selector = s.selector ∧ t.screens = s.screens ∧
        t.views = s.views ∧ t.alerts = s.alerts ∧ t.flash = s.flash
    (s.held = false → s.receives p = true → (s.rx p).arrival = none → (s.rx p).unformed = none →
      (∀ cause bytes, hasLineHeader bytes = false → exec (.framingFault p cause bytes) s = .next (faulty cause)) ∧
      (∀ cause bytes, hasLineHeader bytes = true → 719 < wordAt bytes 4 →
        exec (.framingFault p cause bytes) s = .next (shape (decide (cause ≠ .startInside)))) ∧
      (∀ cause bytes, hasLineHeader bytes = true → wordAt bytes 4 ≤ 719 → ∃ t : State,
        exec (.framingFault p cause bytes) s = .next t ∧ (t.rx p).arrival = none ∧
        (t.rx p).ignoring = decide (cause = .overLong) ∧ (t.rx p).counters = ((faulty cause).rx p).counters ∧ sameElsewhere t) ∧
      (∀ bytes, bytes.length < 3 → exec (.packetEnd p bytes) s = .next (shape false)) ∧
      (∀ bytes, 3 ≤ bytes.length → bytes.length ≤ 2568 → hasLineHeader bytes = false → passesCheck bytes = false →
        exec (.packetEnd p bytes) s = .next check) ∧
      (∀ bytes, 3 ≤ bytes.length → bytes.length ≤ 2568 → hasLineHeader bytes = false → passesCheck bytes = true →
        readPacket (isTrunkPort p) bytes = none → exec (.packetEnd p bytes) s = .next (shape false)) ∧
      (∀ bytes, bytes.length ≤ 2568 → hasLineHeader bytes = true → 719 < wordAt bytes 4 →
        exec (.packetEnd p bytes) s = .next (shape false)) ∧
      (∀ bytes, bytes.length ≤ 2568 → hasLineHeader bytes = true → wordAt bytes 4 ≤ 719 → passesCheck bytes = false → ∃ t : State,
        exec (.packetEnd p bytes) s = .next t ∧ (t.rx p).arrival = none ∧ (t.rx p).counters = (check.rx p).counters ∧
        sameElsewhere t)) ∧
    (∀ a : LineArrival, s.InLine p a → s.CuttingHasArrival → s.MemoryCanonical →
      (∀ cause bytes, (hasLineHeader bytes = false ∨ (HoldsLine p a.stream a.frame a.line bytes ∧ a.line ≤ 719)) → ∃ t : State,
        exec (.framingFault p cause bytes) s = .next t ∧ (faulty cause).LineEnded p a .failed bytes t) ∧
      (∀ bytes, bytes.length ≤ 2568 → HoldsLine p a.stream a.frame a.line bytes → a.line ≤ 719 →
        (passesCheck bytes = false → ∃ t : State, exec (.packetEnd p bytes) s = .next t ∧ check.LineEnded p a .failed bytes t) ∧
        (passesCheck bytes = true → bytes.length ≠ 2568 → ∃ t : State,
          exec (.packetEnd p bytes) s = .next t ∧ (shape false).LineEnded p a .failed bytes t))) ∧
    (s.held = false → s.receives p = true → (s.rx p).unformed = none →
      ∀ (bytes : List Byte) (h : State), hasLineHeader bytes = true → (bytes.length ≤ 2568 ∨ (s.rx p).ignoring = false) →
        (∀ a, (s.rx p).arrival = some a → ¬HoldsLine p a.stream a.frame a.line bytes) →
        exec (.lineHeader p (bytes.getD 1 0) (BitVec.ofNat 16 (wordAt bytes 2)) (BitVec.ofNat 16 (wordAt bytes 4))) s = .next h →
        (∀ cause, exec (.framingFault p cause bytes) s = exec (.framingFault p cause bytes) h) ∧
        exec (.packetEnd p bytes) s = exec (.packetEnd p bytes) h ∧
        exec (.poisonedArrival p bytes) s = exec (.poisonedArrival p bytes) h ∧
        exec (.linkDown p (some bytes)) s = exec (.linkDown p (some bytes)) h)

/-- LINE_HEADER, and PACKET_END of the good LINE it opened. A line number above 719 is a shape fault and the rest of the packet is ignored
until the next START (R9); any other header is handed to the switch, which decides what the line is and at which trunk outputs it is cut through (R24, R26,
R38). The good end counts the line received; a camera port adds it to its open frame and its measure, unless it is of another frame or a
repeat (R12, R70); the switch settles it: the counters of R24 and R26, the copies of R34, R39 and R40, the row of R50. How a discarded
copy is counted is entry 32, and that it is counted also where the line is stray by then is entry 42. A port that forms no packets, because
it is disabled or its link is DOWN, hands nothing on, and a LINE whose first six bytes came then is not formed when its end comes, also if
the port forms packets by then (R2, R10). MODEL'S CHOICE, entries 4 and 5: the whole third clause group, which says how the model keeps to
that. The header leaves a mark at a port that forms no packets, as one above 719 does at any port; a packet that ends is taken for the
marked LINE by stream, frame and line number, and is not formed; any other packet is formed. -/
def Obligations.LineHeaderIsDecided : Prop :=
  (∀ (p : Port) (stream : Byte) (frame line : BitVec 16) (s : State), s.BetweenPackets p →
    (719 < line.toNat → exec (.lineHeader p stream frame line) s = .next (s.updRx p (fun x =>
      { x with ignoring := true, counters := { x.counters with shape := min (x.counters.shape + 1) 255 }
               unformed := some ⟨s.arrivalStream p stream, frame.toNat, line.toNat⟩ }))) ∧
    (line.toNat ≤ 719 → ∃ (t : State) (a : LineArrival),
      exec (.lineHeader p stream frame line) s = .next t ∧ (t.rx p).arrival = some a ∧
      (∀ i, p = .cam i → a.stream = (Tab.get s.cams i).stream) ∧ (∀ u, p = .trunk u → a.stream = stream.toFin) ∧
      a.frame = frame.toNat ∧ a.line = line.toNat ∧
      ((s.streamRec a.stream).entry.valid = false → a.fate = .unrouted) ∧
      ((s.streamRec a.stream).entry.valid = true → (s.streamRec a.stream).entry.origin ≠ p → a.fate = .misrouted) ∧
      ((s.streamRec a.stream).entry.valid = true → (s.streamRec a.stream).entry.origin = p →
        ¬((s.streamRec a.stream).flow.isOpen = true ∧ (s.streamRec a.stream).flow.frame = frame.toNat) → a.fate = .stray) ∧
      ((s.streamRec a.stream).entry.valid = true → (s.streamRec a.stream).entry.origin = p →
        (s.streamRec a.stream).flow.isOpen = true → (s.streamRec a.stream).flow.frame = frame.toNat →
        a.fate = .belongs (s.streamRec a.stream).flow.epoch) ∧
      (∀ u : Trunk, (t.out u).sending = .cutting p ∧ a.decisions.get u = .cutThrough ↔
        ((∃ n, a.fate = .belongs n) ∧ (s.streamRec a.stream).entry.sendTo.get u = true ∧
          (s.streamRec a.stream).entry.cutThrough.get u = true ∧ s.trunkUp u = true ∧ (s.out u).sending = .idle ∧
          (s.out u).mgmt = [] ∧ (s.out u).video = [] ∧ (s.streamRec a.stream).flow.cut.get u = false)) ∧
      (∀ u : Trunk, a.decisions.get u ≠ .cutThrough → t.out u = s.out u) ∧
      (∀ u : Trunk, ∀ n, a.fate = .belongs n → (s.streamRec a.stream).entry.sendTo.get u = true →
        (s.trunkUp u = false → a.decisions.get u = .discardedDown ∧ (t.streamRec a.stream).flow.cut.get u = true) ∧
        (s.trunkUp u = true → (s.streamRec a.stream).flow.cut.get u = true → a.decisions.get u = .discardedCut) ∧
        (s.trunkUp u = true → (s.streamRec a.stream).flow.cut.get u = false →
          a.decisions.get u = .cutThrough ∨ a.decisions.get u = .stored)) ∧
      (∀ q, (t.rx q).counters = (s.rx q).counters) ∧ t.channels = s.channels ∧ t.lenses = s.lenses ∧ t.orders = s.orders ∧
      t.selector = s.selector ∧ t.screens = s.screens ∧ t.alerts = s.alerts)) ∧
  (∀ (p : Port) (a : LineArrival) (given : Fin 256) (pixels : List Byte) (s : State), s.InLine p a → s.CuttingHasArrival →
    s.MemoryCanonical → a.frame < 65536 → a.line ≤ 719 → pixels.length = 2560 → (∀ u, p = .trunk u → given = a.stream) →
    let bytes := (Packet.line given a.frame a.line pixels).wire
    let received := s.updRx p (fun x =>
      { x with ignoring := false, counters := { x.counters with received := min (x.counters.received + 1) 65535 } })
    ((∃ u, p = .trunk u) ∨ (∃ i, p = .cam i ∧
        ∀ f, (Tab.get s.cams i).openFrame = some f → f.frame = a.frame → a.line ∈ f.good) → ∃ t : State,
      exec (.packetEnd p bytes) s = .next t ∧ received.LineEnded p a .good bytes t) ∧
    (∀ i f, p = .cam i → (Tab.get s.cams i).openFrame = some f → f.frame = a.frame → a.line ∉ f.good → ∃ t : State,
      exec (.packetEnd p bytes) s = .next t ∧
      ((received.updCam i (fun x => { x with openFrame := some { f with good := insertLine a.line f.good } })).updLens i
        (fun l => { l with measure := l.measure.map (fun m => m.addLine a.line pixels) })).LineEnded p a .good bytes t)) ∧
  ∀ (p : Port) (s : State), s.held = false →
    let quiet : Bool → State := fun ignoring => s.updRx p (fun x => { x with unformed := none, ignoring := ignoring })
    (∀ given, (∀ i, p = .cam i → s.arrivalStream p given = (Tab.get s.cams i).stream) ∧
      ∀ u, p = .trunk u → s.arrivalStream p given = given.toFin) ∧
    (s.receives p = false → ∀ (stream : Byte) (frame line : BitVec 16), exec (.lineHeader p stream frame line) s = .next (s.updRx p (fun x =>
      { x with ignoring := false, unformed := some ⟨s.arrivalStream p stream, frame.toNat, line.toNat⟩ }))) ∧
    ∀ bytes,
      let unformed : Prop := ∃ u, (s.rx p).unformed = some u ∧ HoldsLine p u.stream u.frame u.line bytes
      ((s.receives p = false ∨ unformed) →
        exec (.packetEnd p bytes) s = .next (quiet false) ∧ exec (.poisonedArrival p bytes) s = .next (quiet false) ∧
        ∀ cause, exec (.framingFault p cause bytes) s = .next (quiet (decide (cause ≠ .startInside)))) ∧
      (s.receives p = true → ¬unformed → ∀ x, x = s.updRx p (fun x => { x with unformed := none }) →
        exec (.packetEnd p bytes) s = exec (.packetEnd p bytes) x ∧ exec (.poisonedArrival p bytes) s = exec (.poisonedArrival p bytes) x ∧
        ∀ cause, exec (.framingFault p cause bytes) s = exec (.framingFault p cause bytes) x)

/-- PACKET_END of an ORDER for this hub (R6, R8, R152, R154, R155): it is counted received and consumed. The controller side is its
trunk, the silence timer restarts, and it becomes PENDING in the lower-numbered FREE slot, or is discarded and counted. -/
def Obligations.OrderForThisHubIsConsumed : Prop :=
  ∀ (a : Trunk) (dest code tag : Byte) (params : List Byte) (s : State),
    s.BetweenPackets (.trunk a) → params.length ≤ 192 → dest.toNat = s.orders.hub.number → dest.toNat ≠ 0 →
    ∃ t : State, exec (.packetEnd (.trunk a) (Packet.order dest code tag params).wire) s = .next t ∧
      (t.rx (.trunk a)).counters = { (s.rx (.trunk a)).counters with received := min ((s.rx (.trunk a)).counters.received + 1) 65535 } ∧
      t.orders.hub.side = (match a with | .ta => Side.ta | .tb => Side.tb) ∧
      t.orders.hub.silenceTimer = (if s.orders.hub.silenceTime = 0 then none else some (1000 * s.orders.hub.silenceTime)) ∧
      t.orders.hub.silenceStopped = (if s.orders.hub.silenceTime = 0 then
        s.orders.hub.silenceTimer.getD s.orders.hub.silenceStopped else s.orders.hub.silenceStopped) ∧
      (∀ i, s.orders.freeSlot = some i → t.orders.slots = s.orders.slots.set i.val (.pending
        { code := code, tag := tag, params := params, arrival := a, seq := s.orders.nextSeq, broadcast := false }) ∧
        t.orders.hub.overflow = s.orders.hub.overflow) ∧
      (s.orders.freeSlot = none → t.orders.slots = s.orders.slots ∧ t.orders.hub.overflow = min (s.orders.hub.overflow + 1) 255) ∧
      t.orders.queue = s.orders.queue ∧ t.orders.hub.number = s.orders.hub.number ∧ (∀ u, t.out u = s.out u) ∧ t.cams = s.cams ∧
      t.streams = s.streams ∧ t.channels = s.channels ∧ t.lenses = s.lenses ∧ t.selector = s.selector ∧ t.screens = s.screens ∧
      t.alerts = s.alerts ∧ t.loader = s.loader ∧ t.flash = s.flash

/-- PACKET_END of an ORDER that travels on, and of a NOTICE (R152, R153, R169): a broadcast is consumed and its copy forwarded out the
other trunk; an unplaced hub forwards out the other trunk; a lower number goes out TA and a higher one out TB; what would leave by
its arrival trunk is discarded as unroutable; a NOTICE goes out the other trunk. A forward enters the management queue, is dropped
and counted when that is full, and is discarded uncounted on a DOWN link (R32). -/
def Obligations.ManagementPacketsTravel : Prop :=
  ∀ (a : Trunk) (p : Packet) (s : State), s.BetweenPackets (.trunk a) → p.WellFormed →
    let received := s.updRx (.trunk a) (fun x =>
      { x with counters := { x.counters with received := min (x.counters.received + 1) 65535 } })
    let onward : Trunk → Option Nat → State := fun u copy =>
      if s.trunkUp u = false then received
      else if (s.out u).mgmt.length < 8 then received.updOut u (fun o => { o with mgmt := o.mgmt ++ [⟨p, copy⟩] })
      else received.updTrunkCounters u (fun c => { c with mgmtDrops := min (c.mgmtDrops + 1) 65535 })
    let unroutable := received.updTrunkCounters a (fun c => { c with unroutable := min (c.unroutable + 1) 65535 })
    (∀ dest code tag params, p = .order dest code tag params →
      (dest.toNat ≠ 0 → s.orders.hub.number = 0 → exec (.packetEnd (.trunk a) p.wire) s = .next (onward a.other none)) ∧
      (dest.toNat ≠ 0 → dest.toNat < s.orders.hub.number →
        exec (.packetEnd (.trunk a) p.wire) s = .next (if a = .ta then unroutable else onward .ta none)) ∧
      (s.orders.hub.number ≠ 0 → s.orders.hub.number < dest.toNat →
        exec (.packetEnd (.trunk a) p.wire) s = .next (if a = .tb then unroutable else onward .tb none)) ∧
      (dest.toNat = 0 → exec (.packetEnd (.trunk a) p.wire) s =
        .next { onward a.other (some s.orders.nextSeq) with orders := s.orders.consume a true code tag params })) ∧
    (∀ source code subject lost params, p = .notice source code subject lost params →
      exec (.packetEnd (.trunk a) p.wire) s = .next (onward a.other none))

/-- PACKET_END of a FRAME-OPEN (R6, R8, R11, R12, R24, R25, R48, R49, R66). A camera port renumbers it, stamps its stated grade and the hub
number, and opens its frame with a new measure, an open frame ending INCOMPLETE first. A stream without a valid entry counts unrouted, one
of another origin misrouted, and nothing is opened. Otherwise the stream opens with the frame and its cut flags are cleared; the channel
of the route takes grade and home hub and gives up a frame it is filling, which counts incomplete; the frame goes to the lowest-numbered
FREE slot, or is dropped and counted when none is; and each output of the route takes the packet, after the FRAME-CLOSE CUT of the frame
that was open. -/
def Obligations.FrameOpenArrivalIsRouted : Prop :=
  ∀ (p : Port) (given k : Fin 256) (frame home h : Nat) (g grade : Grade) (s : State),
    s.BetweenPackets p → frame < 65536 → home < 16 →
    (∀ i, p = .cam i → k = (Tab.get s.cams i).stream ∧ grade = (s.lens i).stated ∧ h = s.orders.hub.number) →
    (∀ u, p = .trunk u → k = given ∧ grade = g ∧ h = home) →
    let opening := Packet.frameOpen k frame grade h
    let closing := Packet.frameClose k (s.streamRec k).flow.frame .cut
    ∃ t : State, exec (.packetEnd p (Packet.frameOpen given frame g home).wire) s = .next t ∧
      (∀ i, p = .cam i → (Tab.get t.cams i).openFrame = some ⟨frame, []⟩ ∧
        (t.lens i).measure = some { frame := frame, odd := decide (frame % 2 = 1)
                                    noise := (Tab.get s.profiles (Tab.get s.cams i).profile).noise
                                    sums := Vector.replicate 48 0, luma := 0, void := false } ∧
        ((Tab.get s.cams i).openFrame.isSome = true → (t.lens i).verdict = some .incomplete ∧ (t.lens i).half = none)) ∧
      (∀ j, (t.streamRec j).entry = (s.streamRec j).entry) ∧
      ((s.streamRec k).entry.valid = false → t.streams = s.streams ∧ t.channels = s.channels ∧ (∀ u, t.out u = s.out u) ∧
        (t.rx p).counters = { (s.rx p).counters with
          received := min ((s.rx p).counters.received + 1) 65535, unrouted := min ((s.rx p).counters.unrouted + 1) 65535 }) ∧
      ((s.streamRec k).entry.valid = true → (s.streamRec k).entry.origin ≠ p →
        t.streams = s.streams ∧ t.channels = s.channels ∧ (∀ u, t.out u = s.out u) ∧
        (t.rx p).counters = { (s.rx p).counters with
          received := min ((s.rx p).counters.received + 1) 65535, misrouted := min ((s.rx p).counters.misrouted + 1) 65535 }) ∧
      ((s.streamRec k).entry.valid = true → (s.streamRec k).entry.origin = p →
        (t.rx p).counters = { (s.rx p).counters with received := min ((s.rx p).counters.received + 1) 65535 } ∧
        (t.streamRec k).flow.isOpen = true ∧ (t.streamRec k).flow.frame = frame ∧ (t.streamRec k).flow.cut = ⟨false, false⟩ ∧
        (∀ j, j ≠ k → (t.streamRec j).flow = (s.streamRec j).flow) ∧
        (∀ c, (s.streamRec k).entry.channel ≠ some c → t.channel c = s.channel c) ∧
        (∀ c, (s.streamRec k).entry.channel = some c → (s.channel c).stream.isSome = true →
          let filled : Fin 3 → Prop := fun i => ∃ f, (s.channel c).intake = .filling i f
          let free : Fin 3 → Prop := fun i => ((s.channel c).slot i).state = .free ∨ filled i
          (t.channel c).grade = grade ∧ (t.channel c).home = some h ∧ (t.channel c).state = (s.channel c).state ∧
          ((∃ i, filled i) → (t.channel c).counters.incomplete = min ((s.channel c).counters.incomplete + 1) 65535) ∧
          ((∀ i, ¬filled i) → (t.channel c).counters.incomplete = (s.channel c).counters.incomplete) ∧
          (∀ i, free i → (∀ j, j < i → ¬free j) → (t.channel c).intake = .filling i frame ∧
            (t.channel c).slot i = { (s.channel c).slot i with state := .filling, frame := frame, good := [] } ∧
            (∀ j, j ≠ i → filled j → (t.channel c).slot j = { (s.channel c).slot j with state := .free }) ∧
            (∀ j, j ≠ i → ¬filled j → (t.channel c).slot j = (s.channel c).slot j) ∧
            (t.channel c).counters.dropped = (s.channel c).counters.dropped) ∧
          ((∀ i, ¬free i) → (t.channel c).intake = .dropping frame ∧ (t.channel c).slots = (s.channel c).slots ∧
            (t.channel c).counters.dropped = min ((s.channel c).counters.dropped + 1) 65535)) ∧
        (∀ u, (s.streamRec k).entry.sendTo.get u = false ∨ s.trunkUp u = false → t.out u = s.out u) ∧
        (∀ u, (s.streamRec k).entry.sendTo.get u = true →
          t.out u = if (s.streamRec k).flow.isOpen = true then ((s.sendControl u k closing).sendControl u k opening).out u
            else (s.sendControl u k opening).out u) ∧
        (∀ u, (s.streamRec k).entry.sendTo.get u = true → s.trunkUp u = true → (∀ q ∈ (s.out u).waiting, q.stream ≠ some k) →
          ((s.streamRec k).flow.isOpen = false → (s.out u).video.length < 24 →
            t.out u = { s.out u with video := (s.out u).video ++ [opening] }) ∧
          ((s.streamRec k).flow.isOpen = true → (s.out u).video.length < 23 →
            t.out u = { s.out u with video := (s.out u).video ++ [closing, opening] })))

/-- POISONED_ARRIVAL (R7, R9, R51). A packet that is not a LINE is discarded and counted, poisoned at a trunk port and as a shape fault at
a camera port; so is a LINE that is short of its full length; a LINE with a line number above 719 is a shape fault at a trunk port too, as
R9 judges its header. A full LINE is counted received, at a trunk port poisoned too, and handed on; in a FILLING slot it counts poisoned
and writes its row unless that row was received good. A LINE whose header has been handed on ends POISONED at its full length, and FAILED
when it is short. MODEL'S CHOICE: that a short poisoned LINE whose header was handed on ends FAILED and not POISONED (entry 6); how a
discarded copy is counted (entry 32), also where the line is stray by then (entry 42); and that a LINE of which no header came before is
judged in the step of its poisoned end (entry 5). -/
def Obligations.PoisonedArrivalIsCounted : Prop :=
  ∀ (p : Port) (bytes : List Byte) (s : State), s.MemoryCanonical → bytes.length ≤ 2568 →
    let discarded : State := match p with
      | .trunk u => (s.updRx p (fun x => { x with ignoring := false })).updTrunkCounters u
          (fun c => { c with poisoned := min (c.poisoned + 1) 255 })
      | .cam _ => s.updRx p (fun x =>
          { x with ignoring := false, counters := { x.counters with shape := min (x.counters.shape + 1) 255 } })
    let handedOn : State :=
      let s' := s.updRx p (fun x =>
        { x with ignoring := false, counters := { x.counters with received := min (x.counters.received + 1) 65535 } })
      match p with
      | .trunk u => s'.updTrunkCounters u (fun c => { c with poisoned := min (c.poisoned + 1) 255 })
      | .cam _ => s'
    (s.BetweenPackets p →
      (hasLineHeader bytes = false → exec (.poisonedArrival p bytes) s = .next discarded) ∧
      (hasLineHeader bytes = true → 719 < wordAt bytes 4 → exec (.poisonedArrival p bytes) s = .next (s.updRx p (fun x =>
        { x with counters := { x.counters with shape := min (x.counters.shape + 1) 255 } }))) ∧
      (hasLineHeader bytes = true → wordAt bytes 4 ≤ 719 → bytes.length < 2568 → ∃ t : State,
        exec (.poisonedArrival p bytes) s = .next t ∧ (t.rx p).arrival = none ∧ t.channels = s.channels ∧ t.orders = s.orders ∧
        (∀ u, p = .trunk u → (t.rx p).counters = (s.rx p).counters ∧
          (t.trunks.get u).counters.poisoned = min ((s.trunks.get u).counters.poisoned + 1) 255) ∧
        (∀ i, p = .cam i → (t.rx p).counters = { (s.rx p).counters with shape := min ((s.rx p).counters.shape + 1) 255 })) ∧
      (hasLineHeader bytes = true → wordAt bytes 4 ≤ 719 → bytes.length = 2568 → ∃ t : State,
        exec (.poisonedArrival p bytes) s = .next t ∧ (t.rx p).arrival = none ∧
        (t.rx p).counters.received = min ((s.rx p).counters.received + 1) 65535 ∧
        (∀ u, p = .trunk u → (t.trunks.get u).counters.poisoned = min ((s.trunks.get u).counters.poisoned + 1) 255) ∧
        (∀ k, k = s.arrivalStream p (bytes.getD 1 0) →
          ((s.streamRec k).entry.valid = false →
            (t.rx p).counters.unrouted = min ((s.rx p).counters.unrouted + 1) 65535 ∧ t.channels = s.channels) ∧
          (∀ c i, (s.streamRec k).entry.valid = true → (s.streamRec k).entry.origin = p → (s.streamRec k).flow.isOpen = true →
            (s.streamRec k).flow.frame = wordAt bytes 2 → (s.streamRec k).entry.channel = some c →
            (s.channel c).intake = .filling i (wordAt bytes 2) →
            (t.channel c).counters.poisoned = min ((s.channel c).counters.poisoned + 1) 65535 ∧
            ((t.channel c).slot i).good = ((s.channel c).slot i).good ∧
            (wordAt bytes 4 ∉ ((s.channel c).slot i).good →
              ((t.channel c).slot i).row (wordAt bytes 4) = (bytes.drop 6).take 2560) ∧
            (∀ r, (r ≠ wordAt bytes 4 ∨ r ∈ ((s.channel c).slot i).good) →
              ((t.channel c).slot i).row r = ((s.channel c).slot i).row r))))) ∧
    (∀ a : LineArrival, s.InLine p a → s.CuttingHasArrival → HoldsLine p a.stream a.frame a.line bytes → a.line ≤ 719 →
      (bytes.length = 2568 → ∃ t : State,
        exec (.poisonedArrival p bytes) s = .next t ∧ handedOn.LineEnded p a .poisoned bytes t) ∧
      (bytes.length < 2568 → ∃ t : State,
        exec (.poisonedArrival p bytes) s = .next t ∧ discarded.LineEnded p a .failed bytes t))

/-- LINK_UP and RESTART_HOLD_END (R2, R15, R16): a DOWN link that is in no hold comes UP and offers its LINK notice; a link that is
UP, or held DOWN after a RESTART-PORT, stays as it is; the end of the hold lets the link come UP again. -/
def Obligations.LinksComeUp : Prop :=
  ∀ (p : Port) (s : State), s.held = false →
    ((s.rx p).link = .down → (s.rx p).hold = none →
      exec (.linkUp p) s = .next ((s.updRx p (fun x => { x with link := .up })).offer (.link p .down .up))) ∧
    (((s.rx p).link = .up ∨ (s.rx p).hold.isSome = true) → exec (.linkUp p) s = .next s) ∧
    exec (.restartHoldEnd p) s = .next (s.updRx p (fun x => { x with hold := none }))

/-- LINK_DOWN (R2, R9, R12, R13, R16, R28, R37, R40, R73): the link is DOWN and offers its LINK notice, an open packet counts as a framing
fault (at a port that counts and forms it, and does not ignore it as the rest of an over-long packet, entry 5; a LINE with a line number
above 719 is a shape fault instead, R9), no LINE is in arrival: the one
that was ended FAILED, which sets the cut flags of its stored copies and ends its cut-through. A camera port's open frame is absent and its
half pair discarded. A trunk output is emptied and the cut flags for it are set, and origin loss closes the streams of this origin with a
FRAME-CLOSE CUT at their channels and outputs. A learning that the incomplete frame ends offers LEARN-END (R76); that the LINK notice stands before it is the model's choice, entry 10. A
port that is DOWN already stays as it is and offers nothing. -/
def Obligations.LinkDownLosesThePort : Prop :=
  ∀ (p : Port) (arrived : Option (List Byte)) (s : State), s.held = false →
    ((s.rx p).link = .down → exec (.linkDown p arrived) s = .next s) ∧
    ((s.rx p).link = .up → ∃ t : State,
    let bytes := arrived.getD []
    let opened : Prop := (arrived.isSome = true ∨ (s.rx p).arrival.isSome = true) ∧ s.counts p = true ∧
      ∀ u, (s.rx p).unformed = some u → ¬HoldsLine p u.stream u.frame u.line bytes
    let high : Prop := hasLineHeader bytes = true ∧ 719 < wordAt bytes 4
    let ignored : Prop := (s.rx p).ignoring = true ∧ 2568 < bytes.length
    let linked := s.orders.offer (.link p .up .down)
    exec (.linkDown p arrived) s = .next t ∧ (t.rx p).link = .down ∧ (t.rx p).arrival = none ∧ (t.rx p).hold = (s.rx p).hold ∧
    (t.rx p).unformed = none ∧ (t.rx p).ignoring = false ∧
    (opened → ¬high → ¬ignored → (t.rx p).counters.framing = min ((s.rx p).counters.framing + 1) 255) ∧
    ((¬opened ∨ high ∨ ignored) → (t.rx p).counters.framing = (s.rx p).counters.framing) ∧
    (opened → high → ¬ignored → (t.rx p).counters.shape = min ((s.rx p).counters.shape + 1) 255) ∧
    ((¬opened ∨ ¬high ∨ ignored) → (t.rx p).counters.shape = (s.rx p).counters.shape) ∧
    (∀ u, p = .trunk u → t.orders = linked) ∧
    (∀ i, p = .cam i → t.orders =
      if (Tab.get s.cams i).openFrame.isSome ∧ (s.lens i).state = .learning ∧ 254 ≤ (s.lens i).nonJudged then
        linked.offer (.learnEnd i .tooDark) else linked) ∧ t.alerts = s.alerts ∧
    (∀ i, p = .cam i → (Tab.get t.cams i).openFrame = none ∧ (t.lens i).half = none ∧
      ((Tab.get s.cams i).openFrame.isSome = true → (t.lens i).verdict = some .incomplete ∧ (t.lens i).measure = none)) ∧
    (∀ u, p = .trunk u → (t.out u).Quiet) ∧
    s.OriginLost p (fun k => s.arrivesAt p k ∨ (hasLineHeader bytes = true ∧ s.arrivalStream p (bytes.getD 1 0) = k)) t ∧
    s.ArrivalFailed p t ∧
    (∀ q, q ≠ p → t.rx q = s.rx q) ∧ (∀ i, Port.cam i ≠ p → t.lens i = s.lens i) ∧
    t.views = s.views ∧ t.screens = s.screens ∧ t.selector = s.selector ∧ t.profiles = s.profiles ∧ t.loader = s.loader ∧
    t.flash = s.flash)

/-- RESTART-PORT (R13, R15, R16, R28, R37, R40, R98): a port value above 9 is refused; otherwise the link is DOWN and held for 2 ms, no LINE is in arrival, and
the rest of an abandoned one is not formed; the error counters are 0 and the traffic counters stay, a trunk output is emptied and
the cut flags for it are set, a learning is abandoned, and origin loss closes the streams of this origin with a FRAME-CLOSE CUT at their
channels and outputs. A port that was UP offers a LINK notice, one that is DOWN already none, an abandoned learning a
LEARN-END (that it stands behind the LINK notice is the model's choice, entry 10); then the order is answered DONE. -/
def Obligations.RestartPortHoldsTheLinkDown : Prop :=
  ∀ (s : State) (i : Fin 2) (o : HeldOrder) (b : Byte), s.Executes i o 4 [b] →
    (10 ≤ b.toNat → exec .restartPort s = .next (s.replied i o (.refused .badField))) ∧
    (∀ p : Port, ((∃ j : Fin 8, p = .cam j ∧ b.toNat = j.val) ∨ (p = .trunk .ta ∧ b = 8) ∨ (p = .trunk .tb ∧ b = 9)) → ∃ t : State,
      let linked := if (s.rx p).link = .up then s.orders.offer (.link p .up .down) else s.orders
      let stopped : OrderUnit := match p with
        | .cam j => if (s.lens j).state = .learning then linked.offer (.learnEnd j .portRestart) else linked
        | .trunk _ => linked
      exec .restartPort s = .next t ∧ (t.rx p).link = .down ∧ (t.rx p).hold = some 2 ∧ (t.rx p).arrival = none ∧
      (∀ a, (s.rx p).arrival = some a → (t.rx p).unformed = some ⟨a.stream, a.frame, a.line⟩) ∧
      t.orders = ({ s with orders := stopped }.replied i o (.done false)).orders ∧ t.alerts = s.alerts ∧
      (t.rx p).counters = { (s.rx p).counters with framing := 0, check := 0, shape := 0 } ∧
      (∀ u, p = .trunk u → (t.out u).Quiet ∧
        (t.trunks.get u).counters = { (s.trunks.get u).counters with
          poisoned := 0
          sent := if (s.out u).sending = .cutting p ∧ (s.rx p).arrival.isSome = true then min ((s.trunks.get u).counters.sent + 1) 65535
            else (s.trunks.get u).counters.sent }) ∧
      (∀ j, p = .cam j → (Tab.get t.cams j).openFrame = none ∧ (t.lens j).half = none ∧ (t.lens j).state ≠ .learning ∧
        (t.lens j).stated = (s.lens j).stated ∧ (Tab.get t.cams j).enable = (Tab.get s.cams j).enable) ∧
      s.OriginLost p (s.arrivesAt p) t ∧ s.ArrivalFailed p t ∧ (∀ q, q ≠ p → t.rx q = s.rx q) ∧
      Tab.get t.orders.slots i = .free ∧ t.orders.queue.getLast? = some (.reply o.tag 4 (.done false)) ∧
      t.views = s.views ∧ t.screens = s.screens ∧ t.selector = s.selector ∧ t.profiles = s.profiles ∧ t.loader = s.loader ∧
      t.flash = s.flash)

/-- SET-PORT (R10, R13, R14, R28, R95, R97, R98): a field with no meaning is refused BAD-FIELD, another enabled port's stream number IN-USE; otherwise
the three fields are stored and answered DONE. A port turned off has no open frame and no LINE in arrival: the one that was ended
FAILED. Turning it off, or giving an enabled port another stream number, is origin loss, which closes the streams of its origin with a
FRAME-CLOSE CUT at their channels and outputs; without such a change every stream, channel and output stays. A changed profile unlearns an
ASSESSING or LEARNING lens. A learning that the disabling abandons offers LEARN-END FAILED PORT-RESTART; a changed profile offers the GRADE
notice to UNJUDGED of an ASSESSING lens and the LEARN-END FAILED PROFILE-CHANGED of one that learns still; the alert entries that have the
port as a member are evaluated when its stated grade changes, and the REPLY is last. MODEL'S CHOICE, entry 12: the effects of the enable come
before those of the profile, so that a SET-PORT that turns off a port under a LEARNING lens and changes its profile too offers LEARN-END
FAILED PORT-RESTART alone, and not the PROFILE-CHANGED of R97. A port that is or stays enabled goes on with what its receiver holds, so that a LINE that it did not form at its header is not
formed at its end either; the rest of a LINE that a disabling abandons is not formed. -/
def Obligations.SetPortStoresFields : Prop :=
  ∀ (s : State) (i : Fin 2) (o : HeldOrder),
    (∀ b e k f : Byte, s.Executes i o 3 [b, e, k, f] → (8 ≤ b.toNat ∨ ¬(e = 0 ∨ e = 1) ∨ 4 ≤ f.toNat) →
      exec .setPort s = .next (s.replied i o (.refused .badField))) ∧
    ∀ (p : Fin 8) (enable : Bool) (stream : Fin 256) (profile : Fin 4),
    s.Executes i o 3 [BitVec.ofNat 8 p.val, if enable then 1 else 0, BitVec.ofFin stream, BitVec.ofNat 8 profile.val] →
    (enable = true → (∃ j, j ≠ p ∧ (Tab.get s.cams j).enable = true ∧ (Tab.get s.cams j).stream = stream) →
      exec .setPort s = .next (s.replied i o (.refused .inUse))) ∧
    ((enable = false ∨ ∀ j, j ≠ p → (Tab.get s.cams j).enable = true → (Tab.get s.cams j).stream ≠ stream) → ∃ t : State,
      let lost : Prop := (Tab.get s.cams p).enable = true ∧ (enable = false ∨ (Tab.get s.cams p).stream ≠ stream)
      let off : Prop := (Tab.get s.cams p).enable = true ∧ enable = false
      let moved : Prop := (Tab.get s.cams p).profile ≠ profile
      let stopped := if off ∧ (s.lens p).state = .learning then s.orders.offer (.learnEnd p .portRestart) else s.orders
      let told := if moved ∧ (s.lens p).state = .assessing ∧ (s.lens p).stated ≠ .unjudged then
          stopped.offer (.grade p (s.lens p).stated .unjudged 0)
        else if moved ∧ ¬off ∧ (s.lens p).state = .learning then stopped.offer (.learnEnd p .profileChanged) else stopped
      exec .setPort s = .next t ∧ (Tab.get t.cams p).enable = enable ∧ (Tab.get t.cams p).stream = stream ∧
      (Tab.get t.cams p).profile = profile ∧ (Tab.get t.cams p).rx.link = (Tab.get s.cams p).rx.link ∧
      (Tab.get t.cams p).rx.counters = (Tab.get s.cams p).rx.counters ∧
      ((Tab.get s.cams p).enable = true → enable = false →
        (Tab.get t.cams p).openFrame = none ∧ (Tab.get t.cams p).rx.arrival = none ∧ (t.lens p).half = none ∧
        (t.lens p).state ≠ .learning ∧ ∀ a, (Tab.get s.cams p).rx.arrival = some a →
          (Tab.get t.cams p).rx.unformed = some ⟨a.stream, a.frame, a.line⟩) ∧
      (enable = true → (Tab.get t.cams p).rx = (Tab.get s.cams p).rx) ∧
      ((Tab.get s.cams p).profile ≠ profile → (t.lens p).state = .unlearned ∧ (t.lens p).half = none ∧
        ((s.lens p).state = .assessing → (t.lens p).stated = .unjudged ∧ (t.lens p).baselines = .zero)) ∧
      ((Tab.get s.cams p).enable = enable → (Tab.get s.cams p).profile = profile → t.lens p = s.lens p) ∧
      (∀ j, j ≠ p → Tab.get t.cams j = Tab.get s.cams j ∧ t.lens j = s.lens j) ∧
      (¬lost → t.streams = s.streams ∧ t.channels = s.channels ∧ t.trunks = s.trunks) ∧
      (lost → s.OriginLost (.cam p) (fun k => off ∧ s.arrivesAt (.cam p) k) t) ∧ (off → s.ArrivalFailed (.cam p) t) ∧
      (lost → ¬off → ∀ u, t.out u = (s.originLoss (.cam p)).out u) ∧
      t.orders = ({ s with orders := told }.replied i o (.done false)).orders ∧
      t.alerts = (if (t.lens p).stated = (s.lens p).stated then s.alerts
        else ((s.updLens p (fun _ => t.lens p)).alertsOfPort p).alerts) ∧ (s.AlertsFollowMembers → t.AlertsFollowMembers) ∧
      t.profiles = s.profiles ∧ t.views = s.views ∧ t.screens = s.screens ∧ t.selector = s.selector ∧ t.loader = s.loader ∧
      t.flash = s.flash)

/-! ## Stream switching (spec 02) -/

/-- TRANSMISSION_START and TRANSMISSION_END (R30, R31): an idle output with its link UP takes the head of the management queue, or else
of the video queue, whose place goes to the oldest waiting packet; at its end the packet has been sent with its computed check, the
sent counter counts it, and the output is IDLE. That `lastTx` shows the packet is entry 23. The symbols of a trunk (R3, R31, R38): none
during a hold or while the hub is held in reset, the packet under way with its check, the line that is cut through, and IDLE otherwise. -/
def Obligations.TransmissionsStartAndEnd : Prop :=
  (∀ (u : Trunk) (s : State),
    ((s.held = true ∨ (s.rx (.trunk u)).hold.isSome = true) → s.trunkSymbols u = .silent) ∧
    (s.held = false → (s.rx (.trunk u)).hold = none →
      ((s.out u).sending = .idle → s.trunkSymbols u = .idle) ∧
      (∀ p c, (s.out u).sending = .sending p c → s.trunkSymbols u = .packet (p.body ++ byte2 (packetCheck p.body).toNat)) ∧
      (∀ q, (s.out u).sending = .cutting q → s.trunkSymbols u = .through q))) ∧
  ∀ (u : Trunk) (s : State), s.held = false → s.trunkUp u = true →
    ((s.out u).sending = .idle → ∀ e rest, (s.out u).mgmt = e :: rest →
      exec (.transmissionStart u) s = .next (s.updOut u (fun o => { o with mgmt := rest, sending := .sending e.packet e.copyOf }))) ∧
    ((s.out u).sending = .idle → (s.out u).mgmt = [] → ∀ p rest, (s.out u).video = p :: rest →
      exec (.transmissionStart u) s = .next (s.updOut u (fun o =>
        { o with sending := .sending p none, video := rest ++ (s.out u).waiting.take 1, waiting := (s.out u).waiting.drop 1 }))) ∧
    (((s.out u).sending ≠ .idle ∨ ((s.out u).mgmt = [] ∧ (s.out u).video = [])) → exec (.transmissionStart u) s = .next s) ∧
    (∀ p c, (s.out u).sending = .sending p c → exec (.transmissionEnd u) s = .next
      { s with trunks := s.trunks.upd u (fun x =>
          { x with out := { x.out with sending := .idle, lastTx := some ⟨p.body ++ byte2 (packetCheck p.body).toNat, false⟩ }
                   counters := { x.counters with sent := min (x.counters.sent + 1) 65535 } }) })

/-- What a trunk output makes of a picture packet (R34, R35, R37): the five cases for a LINE of the open frame, and for a FRAME-OPEN
or FRAME-CLOSE the video queue, the waiting list, and the two discards of the table. -/
def Obligations.OutputTakesPicturePackets : Prop :=
  ∀ (u : Trunk) (k : Fin 256) (p : Packet) (s : State), p.stream = some k →
    (s.trunkUp u = false → s.offerLine u k p = s.setCut u k ∧ s.sendControl u k p = s) ∧
    (s.trunkUp u = true →
      ((s.streamRec k).flow.cut.get u = true → s.offerLine u k p = s.countQueueCuts u 1) ∧
      ((s.streamRec k).flow.cut.get u = false →
        ((∃ w ∈ (s.out u).waiting, w.stream = some k ∧ w.isFrameOpen = true) ∨ 24 ≤ (s.out u).video.length) →
        s.offerLine u k p = (s.setCut u k).countQueueCuts u 1) ∧
      ((s.streamRec k).flow.cut.get u = false → (∀ w ∈ (s.out u).waiting, w.stream = some k → w.isFrameOpen = false) →
        (s.out u).video.length < 24 → s.offerLine u k p = s.updOut u (fun o => { o with video := o.video ++ [p] })) ∧
      ((∀ w ∈ (s.out u).waiting, w.stream ≠ some k) → (s.out u).video.length < 24 →
        s.sendControl u k p = s.updOut u (fun o => { o with video := o.video ++ [p] })) ∧
      ((∀ w ∈ (s.out u).waiting, w.stream ≠ some k) → 24 ≤ (s.out u).video.length →
        s.sendControl u k p = s.updOut u (fun o => { o with waiting := o.waiting ++ [p] })) ∧
      (∀ before w after, (s.out u).waiting = before ++ w :: after → w.stream = some k →
        (∀ x ∈ before ++ after, x.stream ≠ some k) →
        (w.isFrameOpen = true → p.isFrameClose = true →
          s.sendControl u k p = (s.updOut u (fun o => { o with waiting := before ++ after })).countQueueCuts u 2) ∧
        (w.isFrameClose = true → p.isFrameOpen = true →
          s.sendControl u k p = (s.updOut u (fun o => { o with waiting := before ++ p :: after })).countQueueCuts u 1)))

/-- Origin loss (R28): every open stream whose entry is valid and whose origin is the port is closed, and every other stream stays as it
is. The channel of its route receives the FRAME-CLOSE CUT of its open frame, and every other channel stays. Each trunk output of its route
whose link is UP takes the FRAME-CLOSE CUT behind what it holds, in its video queue or among its waiting packets, or gives up its waiting
FRAME-OPEN (R35); any other output stays. -/
def Obligations.OriginLossClosesStreams : Prop :=
  ∀ (p : Port) (s : State), s.ChannelsConsistent →
    let lost : Fin 256 → Prop := fun k =>
      (s.streamRec k).entry.valid = true ∧ (s.streamRec k).entry.origin = p ∧ (s.streamRec k).flow.isOpen = true
    (∀ k, ((s.streamRec k).entry.valid = true ∧ (s.streamRec k).entry.origin = p) →
      (s.originLoss p).streamRec k = { s.streamRec k with flow := { (s.streamRec k).flow with isOpen := false } }) ∧
    (∀ k, ¬((s.streamRec k).entry.valid = true ∧ (s.streamRec k).entry.origin = p) →
      (s.originLoss p).streamRec k = s.streamRec k) ∧
    (∀ c k, (s.channel c).stream = some k → (s.streamRec k).flow.isOpen = true → (s.streamRec k).entry.origin = p →
      (s.originLoss p).channel c = (s.channel c).frameClose (s.streamRec k).flow.frame .cut) ∧
    (∀ c, (∀ k, (s.channel c).stream = some k → (s.streamRec k).flow.isOpen = false ∨ (s.streamRec k).entry.origin ≠ p) →
      (s.originLoss p).channel c = s.channel c) ∧
    (∀ u k, lost k → (s.streamRec k).entry.sendTo.get u = true → s.trunkUp u = true →
      ((∀ w ∈ (s.out u).waiting, w.stream ≠ some k) →
        .frameClose k (s.streamRec k).flow.frame .cut ∈
          ((s.originLoss p).out u).video.drop (s.out u).video.length ++ ((s.originLoss p).out u).waiting) ∧
      ((∃ w ∈ (s.out u).waiting, w.stream = some k) → (∀ w ∈ (s.out u).waiting, w.stream = some k → w.isFrameOpen = true) →
        ∀ w ∈ ((s.originLoss p).out u).waiting, w.stream ≠ some k)) ∧
    (∀ u, (∀ k, lost k → (s.streamRec k).entry.sendTo.get u = false) ∨ s.trunkUp u = false → (s.originLoss p).out u = s.out u) ∧
    (∀ u, ∃ more, ((s.originLoss p).out u).video = (s.out u).video ++ more ∧ ∀ q ∈ more, ∃ k, lost k ∧
      (s.streamRec k).entry.sendTo.get u = true ∧ q = .frameClose k (s.streamRec k).flow.frame .cut)

/-- LOAD-STREAM (R21, R22, R45, R46, R62, R145). Its checks refuse BAD-FIELD; a channel that another valid entry names refuses IN-USE;
otherwise an open frame is closed with a FRAME-CLOSE CUT at the outputs and the channel of the old route, the entry is written, a channel no
longer named is unbound and a channel newly named is bound, each with its SOURCE notice and the evaluation of the alert entries that watch
it, and the REPLY is last. -/
def Obligations.LoadStreamRoutesAndBinds : Prop :=
  (∀ b0 v b2 ta tb b5 ca cb : Byte,
    let bit : Byte → Prop := fun x => x = 0 ∨ x = 1
    readLoadStream [b0, v, b2, ta, tb, b5, ca, cb] =
      if ¬(bit v ∧ bit ta ∧ bit tb ∧ bit ca ∧ bit cb) then none
      else if v = 0 then some (b0.toFin, { valid := false, origin := .cam 0, sendTo := ⟨false, false⟩, channel := none, cutThrough := ⟨false, false⟩ })
      else if 9 < b2.toNat ∨ 12 < b5.toNat ∨ (ta = 1 ∧ b2 = 8) ∨ (tb = 1 ∧ b2 = 9) ∨ (ca = 1 ∧ ta = 0) ∨ (cb = 1 ∧ tb = 0) ∨
        ((ca = 1 ∨ cb = 1) ∧ b2.toNat < 8) then none
      else some (b0.toFin,
        { valid := true, origin := (portOf b2.toNat).getD (.cam 0), sendTo := ⟨decide (ta = 1), decide (tb = 1)⟩
          channel := if h : b5.toNat < 12 then some ⟨b5.toNat, h⟩ else none, cutThrough := ⟨decide (ca = 1), decide (cb = 1)⟩ })) ∧
  (∀ (s : State) (i : Fin 2) (o : HeldOrder) (params : List Byte), s.Executes i o 5 params → params.length = 8 →
    readLoadStream params = none → exec .loadStream s = .next (s.replied i o (.refused .badField))) ∧
  ∀ (s : State) (i : Fin 2) (o : HeldOrder) (params : List Byte) (k : Fin 256) (e : StreamEntry),
    s.Executes i o 5 params → params.length = 8 → readLoadStream params = some (k, e) → s.ChannelsConsistent →
    ((∃ c j, e.channel = some c ∧ j ≠ k ∧ (s.streamRec j).entry.valid = true ∧ (s.streamRec j).entry.channel = some c) →
      exec .loadStream s = .next (s.replied i o (.refused .inUse))) ∧
    ((∀ c j, e.channel = some c → j ≠ k → (s.streamRec j).entry.valid = true → (s.streamRec j).entry.channel ≠ some c) →
      ∃ t : State,
        let old := s.streamRec k
        let closing := Packet.frameClose k old.flow.frame .cut
        let closed : Fin 12 → Channel := fun c =>
          if old.flow.isOpen = true then (s.channel c).frameClose old.flow.frame .cut else s.channel c
        let freed : Fin 12 → Prop := fun c => old.entry.channel = some c ∧ e.channel ≠ some c
        let taken : Fin 12 → Prop := fun c => old.entry.channel ≠ some c ∧ e.channel = some c
        exec .loadStream s = .next t ∧
        t.streamRec k = { entry := e, flow := { old.flow with
          isOpen := false, cut := if old.flow.isOpen = true then ⟨false, false⟩ else old.flow.cut } } ∧
        (∀ u, t.trunks.get u = if old.flow.isOpen = true ∧ old.entry.sendTo.get u = true then
          (s.sendControl u k closing).trunks.get u else s.trunks.get u) ∧
        (∀ u, old.flow.isOpen = true → old.entry.sendTo.get u = true → s.trunkUp u = true →
          (∀ q ∈ (s.out u).waiting, q.stream ≠ some k) →
          t.out u = if (s.out u).video.length < 24 then { s.out u with video := (s.out u).video ++ [closing] }
            else { s.out u with waiting := (s.out u).waiting ++ [closing] }) ∧
        (∀ c, freed c → t.channel c = (closed c).unbind) ∧
        (∀ c, old.entry.channel = some c → e.channel = some c → t.channel c = closed c) ∧
        (∀ w x y : OrderUnit, ((∀ c, ¬freed c) → w = s.orders) →
          (∀ c, freed c → w = s.orders.offer (.source c (s.channel c).state .unbound)) → ((∀ c, ¬taken c) → x = w) →
          (∀ c, taken c → x = w.offer (.source c .unbound .waiting)) → y = ({ s with orders := x }.replied i o (.done false)).orders →
          t.orders = y) ∧
        (∀ w x : State, ((∀ c, ¬freed c) → w = s) →
          (∀ c, freed c → w = (s.updChannel c (fun _ => t.channel c)).alertsOfChannel c) → ((∀ c, ¬taken c) → x = w) →
          (∀ c, taken c → x = (w.updChannel c (fun _ => t.channel c)).alertsOfChannel c) → t.alerts = x.alerts) ∧
        (s.AlertsFollowMembers → t.AlertsFollowMembers) ∧
        (∀ j, j ≠ k → t.streamRec j = s.streamRec j) ∧
        (∀ c, e.channel = some c → (s.streamRec k).entry.channel ≠ some c →
          (t.channel c).stream = some k ∧ (t.channel c).state = .waiting ∧ (t.channel c).age = ⟨0, true⟩ ∧
          (t.channel c).grade = .unjudged ∧ (t.channel c).home = none ∧ (t.channel c).intake = .none ∧
          (t.channel c).slots = (s.channel c).slots ∧ (t.channel c).counters = (s.channel c).counters) ∧
        (∀ c, (s.streamRec k).entry.channel = some c → e.channel ≠ some c →
          (t.channel c).stream = none ∧ (t.channel c).state = .unbound ∧ (t.channel c).age.running = false ∧
          (t.channel c).grade = .unjudged ∧ (t.channel c).home = none ∧ (t.channel c).intake = .none ∧
          (∀ n, ((t.channel c).slot n).newest = false) ∧
          (∀ n, ((t.channel c).slot n).readers = ((s.channel c).slot n).readers)) ∧
        (∀ c, (s.streamRec k).entry.channel = some c → e.channel = some c →
          (t.channel c).stream = some k ∧ (t.channel c).state = (s.channel c).state ∧ (t.channel c).age = (s.channel c).age) ∧
        (∀ c, (s.streamRec k).entry.channel ≠ some c → e.channel ≠ some c → t.channel c = s.channel c) ∧
        t.cams = s.cams ∧ t.lenses = s.lenses ∧ t.profiles = s.profiles ∧ t.selector = s.selector ∧ t.screens = s.screens ∧
        t.views = s.views ∧ t.loader = s.loader ∧ t.flash = s.flash)

/-! ## Intake channels and frame slots (spec 03) -/

/-- FRAME_AGE_STALE and FRAME_AGE_LOST (R59, R60, R62, R145): a LIVE channel becomes STALE; a WAITING or STALE one becomes LOST and its
age stops; a SOURCE notice is offered and the alert entries that watch the channel are evaluated; in any other state nothing
happens. That the age is brought to its limit is entry 2. -/
def Obligations.FrameAgeExpiriesChangeState : Prop :=
  ∀ (c : Fin 12) (s : State), s.held = false →
    ((s.channel c).state = .live → exec (.frameAgeStale c) s = .next
      (((s.updChannel c (fun x => { x with state := .stale, age := ⟨max x.age.ms x.staleTime, x.age.running⟩ })).offer
        (.source c .live .stale)).alertsOfChannel c)) ∧
    ((s.channel c).state ≠ .live → exec (.frameAgeStale c) s = .next s) ∧
    (((s.channel c).state = .waiting ∨ (s.channel c).state = .stale) → exec (.frameAgeLost c) s = .next
      (((s.updChannel c (fun x => { x with state := .lost, age := ⟨max x.age.ms x.lostTime, false⟩ })).offer
        (.source c (s.channel c).state .lost)).alertsOfChannel c)) ∧
    ((s.channel c).state ≠ .waiting → (s.channel c).state ≠ .stale → exec (.frameAgeLost c) s = .next s)

/-- SET-CHANNEL (R43, R61, R62, R145): the three settings are clamped and stored, the lost time raised to the stale time + 10 (that the
raise sets CLAMPED is entry 28); when a time changed, a LIVE channel at or above the stale time becomes STALE, and a STALE or WAITING one at
or above the lost time LOST; each of these two changes offers a SOURCE notice, after which the alert entries that watch the channel are
evaluated; other channels stay. A channel number above 11 is refused. -/
def Obligations.SetChannelStoresSettings : Prop :=
  ∀ (s : State) (i : Fin 2) (o : HeldOrder) (b patch s1 s0 l1 l0 : Byte), s.Executes i o 6 [b, patch, s1, s0, l1, l0] →
    (12 ≤ b.toNat → exec .setChannel s = .next (s.replied i o (.refused .badField))) ∧
    (∀ (c : Fin 12) (stale lost : Nat), c.val = b.toNat →
      stale = min 2000 (max 40 (256 * s1.toNat + s0.toNat)) →
      lost = max (stale + 10) (min 10000 (max 100 (256 * l1.toNat + l0.toNat))) →
      ∃ t : State,
        let old := s.channel c
        let changed : Bool := decide (¬(stale = old.staleTime ∧ lost = old.lostTime))
        let goesStale : Bool := changed && decide (old.state = .live ∧ stale ≤ old.age.ms)
        let goesLost : Bool := changed && (goesStale || decide (old.state = .stale ∨ old.state = .waiting)) && decide (lost ≤ old.age.ms)
        let stored := s.updChannel c (fun x => { x with patch := min 15 patch.toNat, staleTime := stale, lostTime := lost })
        let afterStale := if goesStale then
            ((stored.updChannel c (fun x => { x with state := .stale })).offer (.source c .live .stale)).alertsOfChannel c
          else stored
        let afterLost := if goesLost then
            ((afterStale.updChannel c (fun x => { x with state := .lost, age := ⟨x.age.ms, false⟩ })).offer
              (.source c (if goesStale then .stale else old.state) .lost)).alertsOfChannel c
          else afterStale
        exec .setChannel s = .next t ∧
        t = afterLost.replied i o (.done (decide
          (15 < patch.toNat ∨ stale ≠ 256 * s1.toNat + s0.toNat ∨ lost ≠ 256 * l1.toNat + l0.toNat))) ∧
        (s.AlertsFollowMembers → t.AlertsFollowMembers) ∧
        (t.channel c).patch = min 15 patch.toNat ∧ (t.channel c).staleTime = stale ∧ (t.channel c).lostTime = lost ∧
        (t.channel c).stream = old.stream ∧ (t.channel c).slots = old.slots ∧ (t.channel c).intake = old.intake ∧
        (t.channel c).counters = old.counters ∧ (t.channel c).grade = old.grade ∧ (t.channel c).home = old.home ∧
        (t.channel c).age.ms = old.age.ms ∧
        (t.channel c).state =
          (if stale = old.staleTime ∧ lost = old.lostTime then old.state
          else if old.state = .live then (if lost ≤ old.age.ms then .lost else if stale ≤ old.age.ms then .stale else .live)
          else if (old.state = .stale ∨ old.state = .waiting) ∧ lost ≤ old.age.ms then .lost
          else old.state) ∧
        (∀ d, d ≠ c → t.channel d = s.channel d) ∧ Tab.get t.orders.slots i = .free ∧
        t.cams = s.cams ∧ t.trunks = s.trunks ∧ t.streams = s.streams ∧ t.lenses = s.lenses ∧ t.profiles = s.profiles ∧
        t.selector = s.selector ∧ t.screens = s.screens ∧ t.views = s.views ∧ t.loader = s.loader ∧ t.flash = s.flash)

/-- A FRAME-CLOSE at a FILLING channel (R52, R53). With status CUT, or more lines missing than the patch limit, the slot is FREE and the
frame counts incomplete, all else as before. Otherwise the slot is published: STORED, newest, with the missing lines in ascending
order; the slot that was newest before is FREE when no screen holds it; the counters, the age and the state follow. PACKET_END of a
FRAME-CLOSE (R8, R12, R24, R27, R36, R62): it is counted received, and unrouted, misrouted or stray where it is so; at a camera port it
ends the open frame of its number, complete or not, as the lens record takes it; else it closes its stream: the channel of the route takes
it with the status it arrived with, a change of the channel's state offers a SOURCE notice, and each output of the route takes it, with
status CUT where the stream's cut flag is set. MODEL'S CHOICE, entry 44: the clause that gives the order unit puts the SOURCE notice behind
the GRADE and LEARN-END notices of the same FRAME-CLOSE. -/
def Obligations.FrameCloseJudgesTheFrame : Prop :=
  (∀ (c : Channel) (i : Fin 3) (frame : Nat) (status : CloseStatus), c.Consistent → c.intake = .filling i frame →
    ∀ missing : List Nat, missing = (List.range 720).filter (fun k => !(c.slot i).good.contains k) →
    ((status = .cut ∨ c.patch < missing.length) → c.frameClose frame status =
      { c with
        intake := .none, slots := c.slots.set i.val { c.slot i with state := .free }
        counters := { c.counters with incomplete := min (c.counters.incomplete + 1) 65535 } }) ∧
    (status = .whole → missing.length ≤ c.patch →
      ((c.frameClose frame status).slot i = { c.slot i with state := .stored, newest := true, missing := missing }) ∧
      (∀ j, j ≠ i → (c.slot j).newest = false → (c.frameClose frame status).slot j = c.slot j) ∧
      (∀ j, j ≠ i → (c.slot j).newest = true → (c.frameClose frame status).slot j =
        { c.slot j with newest := false, state := if (c.slot j).readers = 0 then .free else .stored }) ∧
      (c.frameClose frame status).intake = .none ∧ (c.frameClose frame status).state = .live ∧
      (c.frameClose frame status).age = ⟨0, true⟩ ∧
      (c.frameClose frame status).counters = { c.counters with
        published := min (c.counters.published + 1) 65535, patched := min (c.counters.patched + missing.length) 65535 } ∧
      (c.frameClose frame status).stream = c.stream ∧ (c.frameClose frame status).grade = c.grade ∧
      (c.frameClose frame status).home = c.home ∧ (c.frameClose frame status).patch = c.patch)) ∧
  ∀ (p : Port) (given k : Fin 256) (frame : Nat) (status : CloseStatus) (s : State), s.BetweenPackets p → frame < 65536 →
    (∀ i, p = .cam i → k = (Tab.get s.cams i).stream) → (∀ u, p = .trunk u → k = given) →
    let r := s.streamRec k
    let matching : Prop := r.flow.isOpen = true ∧ r.flow.frame = frame
    let ends : Fin 8 → OpenFrame → Prop := fun i f => p = .cam i ∧ (Tab.get s.cams i).openFrame = some f ∧ f.frame = frame
    let frameEnds : Fin 8 → OpenFrame → Lens → Lens × Option LearnEnd := fun i f l =>
      l.frameEnd (Tab.get s.profiles (Tab.get s.cams i).profile) (decide (f.good.length = 720 ∧ status = .whole))
    let closing : Trunk → Packet := fun u => .frameClose k frame (if r.flow.cut.get u = true then .cut else status)
    let received := { (s.rx p).counters with received := min ((s.rx p).counters.received + 1) 65535 }
    ∃ t : State, exec (.packetEnd p (Packet.frameClose given frame status).wire) s = .next t ∧
      (∀ i f, ends i f → (Tab.get t.cams i).openFrame = none ∧ t.lens i = (frameEnds i f (s.lens i)).1) ∧
      (∀ i, (∀ f, ¬ends i f) → (Tab.get t.cams i).openFrame = (Tab.get s.cams i).openFrame ∧ t.lens i = s.lens i) ∧
      (∀ j, j ≠ k → t.streamRec j = s.streamRec j) ∧
      (r.entry.valid = false → t.streamRec k = r ∧ t.channels = s.channels ∧ (∀ u, t.out u = s.out u) ∧
        (t.rx p).counters = { received with unrouted := min (received.unrouted + 1) 65535 }) ∧
      (r.entry.valid = true → r.entry.origin ≠ p → t.streamRec k = r ∧ t.channels = s.channels ∧ (∀ u, t.out u = s.out u) ∧
        (t.rx p).counters = { received with misrouted := min (received.misrouted + 1) 65535 }) ∧
      (r.entry.valid = true → r.entry.origin = p → ¬matching →
        t.streamRec k = r ∧ t.channels = s.channels ∧ (∀ u, t.out u = s.out u) ∧
        (t.rx p).counters = { received with stray := min (received.stray + 1) 65535 }) ∧
      (r.entry.valid = true → r.entry.origin = p → matching → (t.rx p).counters = received ∧
        t.streamRec k = { r with flow := { r.flow with isOpen := false } } ∧
        (∀ c, r.entry.channel = some c → t.channel c = (s.channel c).frameClose frame status) ∧
        (∀ c, r.entry.channel ≠ some c → t.channel c = s.channel c) ∧
        (∀ u, r.entry.sendTo.get u = false ∨ s.trunkUp u = false → t.out u = s.out u) ∧
        (∀ u, r.entry.sendTo.get u = true → t.out u = (s.sendControl u k (closing u)).out u) ∧
        (∀ u, r.entry.sendTo.get u = true → s.trunkUp u = true → (∀ q ∈ (s.out u).waiting, q.stream ≠ some k) →
          (s.out u).video.length < 24 → t.out u = { s.out u with video := (s.out u).video ++ [closing u] })) ∧
      (∀ w : OrderUnit, ((∀ i f, ¬ends i f) → w = s.orders) → (∀ i f, ends i f → w = (s.lensEvent i (frameEnds i f)).orders) →
        (∀ c, r.entry.valid = true → r.entry.origin = p → matching → r.entry.channel = some c →
          (t.channel c).state ≠ (s.channel c).state →
          t.orders = w.offer (.source c (s.channel c).state (t.channel c).state)) ∧
        ((∀ c, r.entry.channel = some c → (t.channel c).state = (s.channel c).state) → t.orders = w))

/-- A take and a release (R56, R57): after a take the screen is in the reader set of the newest slot alone; after a release, or a take
that finds no newest slot, it is in none; a slot it leaves is FREE when no screen is left and it is not newest; nothing else of the
channel changes. -/
def Obligations.TakesAndReleasesMoveReaders : Prop :=
  ∀ (c : Channel) (sc : Fin 2), c.Consistent →
    (∀ i j, hasMember (c.slot i).readers sc.val = true → hasMember (c.slot j).readers sc.val = true → i = j) →
    let left : Slot → Slot := fun sl =>
      if hasMember sl.readers sc.val = true then
        { sl with readers := dropMember sl.readers sc.val
                  state := if dropMember sl.readers sc.val = 0 ∧ sl.newest = false then .free else sl.state }
      else sl
    c.release sc = { c with slots := c.slots.map left } ∧
    ((∀ i, (c.slot i).newest = false) → c.take sc = c.release sc) ∧
    (∀ i, (c.slot i).newest = true →
      (c.take sc).slot i = { c.slot i with readers := addMember (c.slot i).readers sc.val } ∧
      (∀ j, j ≠ i → (c.take sc).slot j = left (c.slot j)) ∧
      { c.take sc with slots := c.slots } = c)

/-! ## Lens assessor (spec 04, 05) -/

/-- The figures of a group (R68, R75, R77, R78, R81, R90): the term of a sample pair, the verdict of a brightness, the clarity of a
zone, the candidate of a dull share, the drift of a baseline, the baseline a learning forms; and the measuring of a line (R67, R69, R70):
a row of the phase adds the 79 terms of each of its eight zones to the zone sums and the 632 lumas of their first pixels to the luma sum,
any other row adds nothing. -/
def Obligations.LensFiguresFollowTheRules : Prop :=
  (∀ noise y0 y2 : Nat, pairTerm noise y0 y2 =
    (if (if y0 ≤ y2 then y2 - y0 else y0 - y2) ≤ noise then 0
    else if 63 < (if y0 ≤ y2 then y2 - y0 else y0 - y2) - noise then 63
    else (if y0 ≤ y2 then y2 - y0 else y0 - y2) - noise)) ∧
  (∀ (p : Profile) (m : Nat), p.dark < p.glare →
    (p.verdict m = .dark ↔ m < p.dark) ∧ (p.verdict m = .glare ↔ p.glare < m) ∧
    (p.verdict m = .judged ↔ p.dark ≤ m ∧ m ≤ p.glare) ∧ p.verdict m ≠ .incomplete) ∧
  (∀ energy baseline : Nat, clarityOf energy baseline =
    if baseline = 0 then 0 else if 250 < energy * 100 / baseline then 250 else energy * 100 / baseline) ∧
  (∀ (p : Profile) (share : Nat), p.h1 < p.h2 → p.h2 < p.h3 →
    (p.candidate share = .clean ↔ share < p.h1) ∧ (p.candidate share = .haze ↔ p.h1 ≤ share ∧ share < p.h2) ∧
    (p.candidate share = .smear ↔ p.h2 ≤ share ∧ share < p.h3) ∧ (p.candidate share = .blocked ↔ p.h3 ≤ share)) ∧
  (∀ shift baseline energy : Nat, 64 ≤ baseline → 64 ≤ driftBaseline shift baseline energy ∧
    (baseline ≤ energy → driftBaseline shift baseline energy = baseline + (energy - baseline) / 2 ^ shift) ∧
    (energy < baseline → driftBaseline shift baseline energy = max 64 (baseline - (baseline - energy) / 2 ^ shift))) ∧
  (∀ (sums : Zones) (n : Nat) (z : Fin 48), (formBaselines sums n)[z] = if sums[z] / n < 64 then 0 else sums[z] / n) ∧
  ∀ (m : Measure) (y : Nat) (pixels : List Byte), pixels.length = 2560 →
    let sampled : Prop := if m.odd = true then y % 4 = 2 else y % 4 = 0
    let luma : Nat → Nat → Nat := fun column n =>
      (pixels.getD (2 * (160 * column + 2 * n + if m.odd = true then 1 else 0)) 0).toNat
    (¬sampled → m.addLine y pixels = m) ∧
    (sampled →
      (∀ z : Fin 48, (m.addLine y pixels).sums[z] = m.sums[z] +
        if z.val / 8 = y / 120 then
          ((List.range 79).map (fun n => pairTerm m.noise (luma (z.val % 8) n) (luma (z.val % 8) (n + 1)))).sum
        else 0) ∧
      m.addLine y pixels = { m with
        sums := (m.addLine y pixels).sums
        luma := m.luma + ((List.range 8).map (fun column => ((List.range 79).map (luma column)).sum)).sum })

/-- The persistence step (R79): the first of its three steps that holds, and the change when the run reaches the limit of its side. -/
def Obligations.PersistenceStepFollowsTheRule : Prop :=
  ∀ (p : Profile) (c : Grade) (l : Lens),
    let rank : Grade → Nat := fun g =>
      match g with
      | .unjudged => 0
      | .clean => 1
      | .haze => 2
      | .smear => 3
      | .blocked => 4
    let limit := if rank l.stated < rank c then p.kWorse else p.kBetter
    (c = l.stated → l.persist p c = { l with pending := none, run := 0 }) ∧
    (c ≠ l.stated → l.pending = some c → l.run + 1 < limit → l.persist p c = { l with run := l.run + 1 }) ∧
    (c ≠ l.stated → l.pending = some c → limit ≤ l.run + 1 → l.persist p c = { l with stated := c, pending := none, run := 0 }) ∧
    (c ≠ l.stated → l.pending ≠ some c → 1 < limit → l.persist p c = { l with pending := some c, run := 1 }) ∧
    (c ≠ l.stated → l.pending ≠ some c → limit ≤ 1 → l.persist p c = { l with stated := c, pending := none, run := 0 })

/-- LEARN (R86): the six steps on the lens record, the GRADE notice for a grade that was not UNJUDGED, the other records kept; a port
above 7 is refused. The end of a frame (R71, R72): a complete frame is a group by itself, or in pair mode half of one; any other end
discards the half pair with verdict INCOMPLETE. What a group or such an end does by lens state (R75, R76): the last verdict alone; the
gathering of a LEARNING record, its end by the group that reaches the target and by the 255th verdict in a row that is not JUDGED (R88 to
R91); the clarity, share, persistence step and drift of an ASSESSING one (R77 to R79, R81). An event at a lens record offers a GRADE notice
for a changed grade, then a LEARN-END notice for a learning that ended (R80, R92). -/
def Obligations.LearnStartsALearning : Prop :=
  (∀ (s : State) (i : Fin 2) (o : HeldOrder) (b : Byte), s.Executes i o 14 [b] →
    (8 ≤ b.toNat → exec .learn s = .next (s.replied i o (.refused .badField))) ∧
    (∀ p : Fin 8, p.val = b.toNat → ∃ t : State, exec .learn s = .next t ∧
      t.lens p = { s.lens p with
        baselines := .zero, state := .learning, stated := .unjudged, pending := none, run := 0, sums := .zero, count := 0
        nonJudged := 0, target := (Tab.get s.profiles (Tab.get s.cams p).profile).learn } ∧
      (∀ q, q ≠ p → t.lens q = s.lens q) ∧
      ((s.lens p).stated = .unjudged → t.orders = (s.replied i o (.done false)).orders) ∧
      ((s.lens p).stated ≠ .unjudged →
        t.orders = ((s.offer (.grade p (s.lens p).stated .unjudged 0)).replied i o (.done false)).orders) ∧
      (s.AlertsFollowMembers → t.AlertsFollowMembers) ∧
      t.cams = s.cams ∧ t.trunks = s.trunks ∧ t.streams = s.streams ∧ t.channels = s.channels ∧ t.profiles = s.profiles ∧
      t.selector = s.selector ∧ t.screens = s.screens ∧ t.views = s.views ∧ t.loader = s.loader ∧ t.flash = s.flash)) ∧
  (∀ (p : Profile) (l : Lens),
    (∀ m, l.measure = some m → m.void = false →
      (p.pair = false → l.frameEnd p true = { l with measure := none }.group p m.sums (m.luma / 113760)) ∧
      (p.pair = true → l.half = none → l.frameEnd p true = ({ l with measure := none, half := some ⟨m.sums, m.luma⟩ }, none)) ∧
      (∀ h, p.pair = true → l.half = some h → l.frameEnd p true = { l with measure := none, half := none }.group p
        (Vector.ofFn (fun z : Fin 48 => h.energies[z] + m.sums[z])) ((h.luma + m.luma) / 227520))) ∧
    (∀ complete, (complete = false ∨ l.measure = none ∨ ∃ m, l.measure = some m ∧ m.void = true) →
      l.frameEnd p complete = { l with measure := none, half := none }.notJudged .incomplete)) ∧
  (∀ (v : Verdict) (l : Lens),
    (l.state ≠ .learning → l.notJudged v = ({ l with verdict := some v }, none)) ∧
    (l.state = .learning → l.nonJudged < 254 →
      l.notJudged v = ({ l with verdict := some v, nonJudged := l.nonJudged + 1 }, none)) ∧
    (l.state = .learning → 254 ≤ l.nonJudged → l.notJudged v =
      ({ l with verdict := some v, nonJudged := 255, state := .unlearned, baselines := Vector.replicate 48 0 }, some .tooDark))) ∧
  (∀ (p : Profile) (e : Zones) (m : Nat) (l : Lens),
    (m < p.dark → l.group p e m = l.notJudged .dark) ∧
    (p.dark ≤ m → p.glare < m → l.group p e m = l.notJudged .glare) ∧
    (p.dark ≤ m → m ≤ p.glare →
      (l.state = .unlearned → l.group p e m = ({ l with verdict := some .judged }, none)) ∧
      (l.state = .learning →
        let sums : Zones := Vector.ofFn (fun z : Fin 48 => l.sums[z] + e[z])
        let gathered := { l with sums := sums, count := l.count + 1, nonJudged := 0, verdict := some .judged }
        let formed := formBaselines sums l.target
        let j := ((List.finRange 48).filter (fun z => formed[z] ≠ 0)).length
        (l.count + 1 ≠ l.target → l.group p e m = (gathered, none)) ∧
        (l.count + 1 = l.target → 12 ≤ j → l.group p e m = ({ gathered with
          state := .assessing, stated := .clean, pending := none, run := 0, baselines := formed
          clarity := Vector.replicate 48 0, share := 0, lastJ := j }, some (.learned j))) ∧
        (l.count + 1 = l.target → j < 12 → l.group p e m =
          ({ gathered with state := .unlearned, baselines := Vector.replicate 48 0 }, some (.noTexture j)))) ∧
      (l.state = .assessing →
        let clarity : Zones := Vector.ofFn (fun z : Fin 48 => clarityOf e[z] l.baselines[z])
        let j := ((List.finRange 48).filter (fun z => l.baselines[z] ≠ 0)).length
        let dull := ((List.finRange 48).filter (fun z => l.baselines[z] ≠ 0 ∧ clarity[z] < p.threshold)).length
        let candidate := p.candidate (dull * 100 / j)
        let stepped := { l with clarity := clarity, share := dull * 100 / j, lastJ := j, verdict := some .judged }.persist p candidate
        ((p.drift = 0 ∨ stepped.stated ≠ .clean ∨ candidate ≠ .clean) → l.group p e m = (stepped, none)) ∧
        (p.drift ≠ 0 → stepped.stated = .clean → candidate = .clean → l.group p e m = ({ stepped with
          baselines := Vector.ofFn (fun z : Fin 48 => if l.baselines[z] ≠ 0 ∧ p.threshold ≤ clarity[z] then
            driftBaseline p.drift l.baselines[z] e[z] else l.baselines[z]) }, none))))) ∧
  ∀ (s : State) (i : Fin 8) (f : Lens → Lens × Option LearnEnd),
    let old := s.lens i
    let new := (f old).1
    let t := s.lensEvent i f
    let graded := if old.stated = new.stated then s.orders else s.orders.offer (.grade i old.stated new.stated
      (if old.state = .assessing ∧ new.state = .assessing then new.share else 0))
    t.lens i = new ∧ (∀ j, j ≠ i → t.lens j = s.lens j) ∧
    ((f old).2 = none → t.orders = graded) ∧ (∀ e, (f old).2 = some e → t.orders = graded.offer (.learnEnd i e)) ∧
    (s.AlertsFollowMembers → t.AlertsFollowMembers) ∧
    t.cams = s.cams ∧ t.trunks = s.trunks ∧ t.streams = s.streams ∧ t.channels = s.channels ∧ t.profiles = s.profiles ∧
    t.selector = s.selector ∧ t.screens = s.screens ∧ t.views = s.views ∧ t.loader = s.loader ∧ t.flash = s.flash

/-- LOAD-PROFILE (R74, R80, R93 to R96, R145): the fields clamped and stored, refused when the relations fail after clamping or an enumerated field
has no meaning; a changed F or pair mode unlearns every lens whose port names the profile, another change clears the pending run of
an ASSESSING one, and a lens of another profile stays. An ASSESSING lens that is unlearned offers its GRADE notice to UNJUDGED and a
LEARNING one LEARN-END FAILED PROFILE-CHANGED, the alert entries are evaluated, and the REPLY is last; that the ports come from CP0 to CP7 is
the model's choice, entry 46. -/
def Obligations.LoadProfileStoresFields : Prop :=
  ∀ (s : State) (i : Fin 2) (o : HeldOrder) (b f t h1 h2 h3 kw kb ld lg n d pm : Byte),
    s.Executes i o 13 [b, f, t, h1, h2, h3, kw, kb, ld, lg, n, d, pm] →
    let c1 : Byte → Nat := fun x => min 100 (max 1 x.toNat)
    let drift : Nat := if d = 0 then 0 else min 8 (max 4 d.toNat)
    let bad : Prop := 4 ≤ b.toNat ∨ ¬(n = 4 ∨ n = 8 ∨ n = 16) ∨ ¬(pm = 0 ∨ pm = 1) ∨ ¬(c1 h1 < c1 h2 ∧ c1 h2 < c1 h3) ∨
      ¬(ld.toNat < lg.toNat)
    let new : Profile :=
      { noise := min 63 f.toNat, threshold := min 95 (max 10 t.toNat), h1 := c1 h1, h2 := c1 h2, h3 := c1 h3
        kWorse := min 15 (max 1 kw.toNat), kBetter := min 63 (max 1 kb.toNat), dark := ld.toNat, glare := lg.toNat
        learn := n.toNat, drift := drift, pair := decide (pm = 1) }
    let told : Fin 4 → OrderUnit → Fin 8 → OrderUnit := fun p w j =>
      if (Tab.get s.cams j).profile = p ∧
          ((Tab.get s.profiles p).noise ≠ new.noise ∨ (Tab.get s.profiles p).pair ≠ new.pair) then
        match (s.lens j).state with
        | .assessing => if (s.lens j).stated = .unjudged then w else w.offer (.grade j (s.lens j).stated .unjudged 0)
        | .learning => w.offer (.learnEnd j .profileChanged)
        | .unlearned => w
      else w
    (bad → exec .loadProfile s = .next (s.replied i o (.refused .badField))) ∧
    (¬bad → ∀ p : Fin 4, p.val = b.toNat → ∃ u : State, exec .loadProfile s = .next u ∧
      Tab.get u.profiles p = new ∧ (∀ q, q ≠ p → Tab.get u.profiles q = Tab.get s.profiles q) ∧
      (∀ j : Fin 8, (Tab.get s.cams j).profile = p →
        ((Tab.get s.profiles p).noise ≠ new.noise ∨ (Tab.get s.profiles p).pair ≠ new.pair) →
        (u.lens j).state = .unlearned ∧ (u.lens j).half = none ∧
        (∀ m, (s.lens j).measure = some m → (u.lens j).measure = some { m with void := true }) ∧
        ((s.lens j).state = .assessing → (u.lens j).stated = .unjudged ∧ (u.lens j).baselines = .zero ∧
          (u.lens j).pending = none ∧ (u.lens j).run = 0)) ∧
      (∀ j : Fin 8, (Tab.get s.cams j).profile = p → (Tab.get s.profiles p).noise = new.noise →
        (Tab.get s.profiles p).pair = new.pair → Tab.get s.profiles p ≠ new →
        u.lens j = if (s.lens j).state = .assessing then { s.lens j with pending := none, run := 0 } else s.lens j) ∧
      (∀ j : Fin 8, ((Tab.get s.cams j).profile ≠ p ∨ Tab.get s.profiles p = new) → u.lens j = s.lens j) ∧
      u.orders = ({ s with orders := (List.finRange 8).foldl (told p) s.orders }.replied i o (.done (decide
          (new.noise ≠ f.toNat ∨ new.threshold ≠ t.toNat ∨ new.h1 ≠ h1.toNat ∨ new.h2 ≠ h2.toNat ∨ new.h3 ≠ h3.toNat ∨
            new.kWorse ≠ kw.toNat ∨ new.kBetter ≠ kb.toNat ∨ new.drift ≠ d.toNat)))).orders ∧
      ((∀ j, (u.lens j).stated = (s.lens j).stated) → u.alerts = s.alerts) ∧ (s.AlertsFollowMembers → u.AlertsFollowMembers) ∧
      u.cams = s.cams ∧ u.trunks = s.trunks ∧ u.streams = s.streams ∧ u.channels = s.channels ∧ u.selector = s.selector ∧
      u.screens = s.screens ∧ u.views = s.views ∧ u.loader = s.loader ∧ u.flash = s.flash)

/-! ## View selection (spec 06) -/

/-- The line vector (R103): position n is the filtered level of DLn, position 8 + n is VLn. DOOR_LINE_CHANGE and FILTER_WAIT_EXPIRY (R100,
R101, R103, R106, R163): the raw level follows the line; with a filter time the wait starts from 0, or stops with its elapsed time
discarded, and nothing else moves; with filter time 0 the filtered level follows at once; a running wait that ends gives the filtered
level the raw level, and stops at the time it had reached. Every enabled trigger is then as the new line vector has it. That an expiry
brings the wait to its filter time is entry 2, what a stopped wait shows is entry 14. Where the vector may change, every trigger moves as R106
says, the chosen views follow (R112), and a VIEW notice is offered for each that changed (R113); their order is entry 13. -/
def Obligations.DoorLinesAreFiltered : Prop :=
  (∀ (v : Selector) (n : Fin 8), v.lineVector.getLsbD n.val = (Tab.get v.doors n).filtered ∧
    v.lineVector.getLsbD (8 + n.val) = v.virtual.getLsbD n.val) ∧
  ∀ (d : Fin 8) (level : Bool) (s : State), s.held = false → s.TriggersFollowVector →
    (level = (s.door d).raw → exec (.doorLineChange d level) s = .next s) ∧
    (level ≠ (s.door d).raw → (s.door d).filterTime ≠ 0 → exec (.doorLineChange d level) s = .next
      (s.updDoor d (fun x => { x with raw := level, wait := if level = x.filtered then none else some 0
                                      stoppedAt := if level = x.filtered then 0 else x.stoppedAt }))) ∧
    (level ≠ (s.door d).raw → (s.door d).filterTime = 0 → ∃ t : State, exec (.doorLineChange d level) s = .next t ∧
      t.door d = { s.door d with raw := level, filtered := level, wait := none } ∧ (∀ e, e ≠ d → t.door e = s.door e) ∧
      t.selector.virtual = s.selector.virtual ∧ t.TriggersFollowVector ∧ s.VectorMoves t) ∧
    ((s.door d).wait = none → exec (.filterWaitExpiry d) s = .next s) ∧
    (∀ elapsed, (s.door d).wait = some elapsed → ∃ t : State, exec (.filterWaitExpiry d) s = .next t ∧
      t.door d = { s.door d with filtered := (s.door d).raw, wait := none, stoppedAt := max elapsed (s.door d).filterTime } ∧
      (∀ e, e ≠ d → t.door e = s.door e) ∧
      t.selector.virtual = s.selector.virtual ∧ t.TriggersFollowVector ∧ s.VectorMoves t)

/-- LINGER_EXPIRY and SILENCE_EXPIRY (R107, R111, R113): an entry in LINGER becomes IDLE; a running silence timer stops and both pins
are absent; both chosen views are then current, a VIEW notice is offered for each that changed its view, and after a silence a SILENCE
notice that tells which screens had a pin. MODEL'S CHOICE: the order in which these notices join the queue, SC0's VIEW before SC1's
(entry 13) and the SILENCE notice last (entry 39). -/
def Obligations.SelectorTimersExpire : Prop :=
  ∀ s : State, s.held = false →
    (∀ t, (∀ ms, (s.trigger t).state ≠ .linger ms) → exec (.lingerExpiry t) s = .next s) ∧
    (∀ t ms, (s.trigger t).state = .linger ms → ∃ u : State, exec (.lingerExpiry t) s = .next u ∧
      u.trigger t = { s.trigger t with state := .idle } ∧ (∀ n, n ≠ t → u.trigger n = s.trigger n) ∧ u.ChosenViewsCurrent ∧
      u.orders = s.viewNotice u 1 (s.viewNotice u 0 s.orders) ∧
      u.selector.doors = s.selector.doors ∧ u.selector.virtual = s.selector.virtual ∧ u.selector.pins = s.selector.pins ∧
      u.cams = s.cams ∧ u.trunks = s.trunks ∧ u.channels = s.channels ∧ u.screens = s.screens ∧ u.alerts = s.alerts) ∧
    (s.orders.hub.silenceTimer = none → exec .silenceExpiry s = .next s) ∧
    (s.orders.hub.silenceTimer.isSome = true → ∃ u : State, exec .silenceExpiry s = .next u ∧
      (∀ sc, Tab.get u.selector.pins sc = none) ∧ u.ChosenViewsCurrent ∧
      u.orders = (s.viewNotice u 1 (s.viewNotice u 0 { s.orders with hub :=
        { s.orders.hub with silenceTimer := none, silenceStopped := 0 } })).offer
        (.silence (setOf 2 (fun sc => (Tab.get s.selector.pins sc).isSome))) ∧
      u.selector.doors = s.selector.doors ∧ u.selector.virtual = s.selector.virtual ∧ u.selector.triggers = s.selector.triggers ∧
      u.cams = s.cams ∧ u.trunks = s.trunks ∧ u.channels = s.channels ∧ u.screens = s.screens ∧ u.alerts = s.alerts)

/-- SET-LINES (R101, R102, R103, R106, R113): the masked virtual lines take their values, the masked filter times are clamped to 250 and
stored and compared with the wait that runs at the line, the rest keeps its values, and every enabled trigger is as the vector has it. The
order is done in moments, at each of which the triggers move, the chosen views follow and the VIEW notices are offered. MODEL'S CHOICE: the
moments are the virtual lines and then each masked filter time, DL0 first (entry 12), and the notices join as entry 13 says. -/
def Obligations.SetLinesStoresLines : Prop :=
  ∀ (s : State) (i : Fin 2) (o : HeldOrder) (mask values filters : Byte) (times : List Byte), times.length = 8 →
    s.Executes i o 10 (mask :: values :: filters :: times) → s.TriggersFollowVector → ∃ (u : Nat → State) (t : State),
    let time : Fin 8 → Nat := fun d => min 250 (times.getD d.val 0).toNat
    exec .setLines s = .next t ∧
    s.VectorMoves (u 0) ∧ (u 0).selector.doors = s.selector.doors ∧
    (∀ n, n < 8 → (u 0).selector.virtual.getLsbD n = if mask.getLsbD n then values.getLsbD n else s.selector.virtual.getLsbD n) ∧
    (∀ d : Fin 8, (u d.val).VectorMoves (u (d.val + 1)) ∧ (u (d.val + 1)).selector.virtual = (u d.val).selector.virtual ∧
      (∀ e, e ≠ d → (u (d.val + 1)).door e = (u d.val).door e) ∧ (u (d.val + 1)).door d = t.door d) ∧
    t = (u 8).replied i o (.done (decide (∃ d : Fin 8, filters.getLsbD d.val = true ∧ 250 < (times.getD d.val 0).toNat))) ∧
    (∀ d : Fin 8, filters.getLsbD d.val = false → t.door d = s.door d) ∧
    (∀ d : Fin 8, filters.getLsbD d.val = true → (s.door d).wait = none → t.door d = { s.door d with filterTime := time d }) ∧
    (∀ (d : Fin 8) (e : Nat), filters.getLsbD d.val = true → (s.door d).wait = some e → t.door d =
      if time d ≤ e then { s.door d with filterTime := time d, filtered := (s.door d).raw, wait := none, stoppedAt := e }
      else { s.door d with filterTime := time d }) ∧
    t.TriggersFollowVector ∧ (s.ChosenViewsCurrent → t.ChosenViewsCurrent) ∧ Tab.get t.orders.slots i = .free ∧
    t.selector.pins = s.selector.pins ∧ t.cams = s.cams ∧ t.trunks = s.trunks ∧ t.channels = s.channels ∧ t.lenses = s.lenses ∧
    t.screens = s.screens ∧ t.alerts = s.alerts ∧ t.loader = s.loader ∧ t.flash = s.flash

/-- LOAD-TRIGGER (R104, R105, R112, R113): a field with no meaning refuses; otherwise priority and linger are clamped, the entry is written,
it is ACTIVE when it is enabled and its condition holds and IDLE otherwise, both chosen views are current, and a VIEW notice is offered for
each that changed (SC0's first, entry 13) before the REPLY. -/
def Obligations.LoadTriggerWritesTheEntry : Prop :=
  ∀ (s : State) (i : Fin 2) (o : HeldOrder) (b e m1 m0 v1 v0 scr view pr li : Byte),
    s.Executes i o 9 [b, e, m1, m0, v1, v0, scr, view, pr, li] →
    let bad : Prop := 16 ≤ b.toNat ∨ ¬(e = 0 ∨ e = 1) ∨ 4 ≤ scr.toNat ∨ 32 ≤ view.toNat
    (bad → exec .loadTrigger s = .next (s.replied i o (.refused .badField))) ∧
    (¬bad → ∀ (n : Fin 16) (w : Fin 32), n.val = b.toNat → w.val = view.toNat → ∃ t : State, exec .loadTrigger s = .next t ∧
      (t.trigger n).enable = decide (e = 1) ∧ (t.trigger n).mask = m1 ++ m0 ∧ (t.trigger n).value = v1 ++ v0 ∧
      (t.trigger n).screens.toNat = scr.toNat ∧ (t.trigger n).view = w ∧ (t.trigger n).priority = min 15 (max 1 pr.toNat) ∧
      (t.trigger n).linger = min 60 li.toNat ∧
      (t.trigger n).state = (if e = 1 ∧ (s.selector.lineVector &&& (m1 ++ m0)) = ((v1 ++ v0) &&& (m1 ++ m0)) then .active
        else .idle) ∧
      (∀ k, k ≠ n → t.trigger k = s.trigger k) ∧ t.ChosenViewsCurrent ∧ Tab.get t.orders.slots i = .free ∧
      t.orders = ({ s with orders := s.viewNotice t 1 (s.viewNotice t 0 s.orders) }.replied i o
        (.done (decide (pr.toNat < 1 ∨ 15 < pr.toNat ∨ 60 < li.toNat)))).orders ∧
      t.selector.doors = s.selector.doors ∧ t.selector.virtual = s.selector.virtual ∧ t.selector.pins = s.selector.pins ∧
      t.cams = s.cams ∧ t.trunks = s.trunks ∧ t.channels = s.channels ∧ t.lenses = s.lenses ∧ t.screens = s.screens ∧
      t.views = s.views ∧ t.alerts = s.alerts ∧ t.loader = s.loader ∧ t.flash = s.flash)

/-- PIN-VIEW and RELEASE-VIEW (R108, R109, R112, R113): the screen's pin is set or made absent, its chosen view is what R112 gives, a
VIEW notice is offered when the view changed, and the other screen's record stays. -/
def Obligations.PinsAreSetAndReleased : Prop :=
  ∀ (s : State) (i : Fin 2) (o : HeldOrder) (sc : Fin 2),
    (∀ (view : Fin 32) (pr : Byte), s.Executes i o 11 [BitVec.ofNat 8 sc.val, BitVec.ofNat 8 view.val, pr] →
      let pin : Pin := { view := view, priority := min 15 (max 1 pr.toNat) }
      let new := chooseView s.selector.triggers sc (some pin) (s.screen sc).defaultView
      let old := Tab.get s.selector.chosen sc
      let base := { s with selector := { s.selector with
        pins := s.selector.pins.set sc.val (some pin), chosen := s.selector.chosen.set sc.val new } }
      exec .pinView s = .next ((if old.view = new.view then base else base.offer (.view sc old.view new.view new.source)).replied i o
        (.done (decide (pr.toNat < 1 ∨ 15 < pr.toNat))))) ∧
    (s.Executes i o 12 [BitVec.ofNat 8 sc.val] →
      let new := chooseView s.selector.triggers sc none (s.screen sc).defaultView
      let old := Tab.get s.selector.chosen sc
      let base := { s with selector := { s.selector with
        pins := s.selector.pins.set sc.val none, chosen := s.selector.chosen.set sc.val new } }
      exec .releaseView s = .next ((if old.view = new.view then base else base.offer (.view sc old.view new.view new.source)).replied
        i o (.done false))) ∧
    (∀ a b c : Byte, (2 ≤ a.toNat ∨ 32 ≤ b.toNat) → s.Executes i o 11 [a, b, c] →
      exec .pinView s = .next (s.replied i o (.refused .badField))) ∧
    (∀ a : Byte, 2 ≤ a.toNat → s.Executes i o 12 [a] → exec .releaseView s = .next (s.replied i o (.refused .badField)))

/-- The chosen view (R112): among the entries that are ACTIVE or LINGER and name the screen, the best has the highest priority and
among equals the lowest index; the pin wins only over a lower priority; with neither, the default view. -/
def Obligations.ChosenViewFollowsTheTable : Prop :=
  ∀ (ts : Vector Trigger 16) (sc : Fin 2) (pin : Option Pin) (dv : Fin 32),
    let claims : Fin 16 → Prop := fun t => (Tab.get ts t).state ≠ .idle ∧ hasMember (Tab.get ts t).screens sc.val = true
    let best : Fin 16 → Prop := fun t => claims t ∧ ∀ u, claims u →
      (Tab.get ts u).priority < (Tab.get ts t).priority ∨ ((Tab.get ts u).priority = (Tab.get ts t).priority ∧ t.val ≤ u.val)
    ((∀ t, ¬claims t) → pin = none → chooseView ts sc pin dv = ⟨dv, .default⟩) ∧
    ((∀ t, ¬claims t) → ∀ p, pin = some p → chooseView ts sc pin dv = ⟨p.view, .pin⟩) ∧
    (∀ t, best t → pin = none → chooseView ts sc pin dv = ⟨(Tab.get ts t).view, .trigger t⟩) ∧
    (∀ t p, best t → pin = some p → (Tab.get ts t).priority < p.priority → chooseView ts sc pin dv = ⟨p.view, .pin⟩) ∧
    (∀ t p, best t → pin = some p → p.priority ≤ (Tab.get ts t).priority →
      chooseView ts sc pin dv = ⟨(Tab.get ts t).view, .trigger t⟩) ∧
    ((∀ t, ¬claims t) ∨ ∃ t, best t)

/-! ## Screen composition (spec 07) -/

/-- OUTPUT_FRAME_START (R118, R128 to R134): the frame uses the blink position and advances it, and the next start is 20 ms away. An
enabled screen copies its chosen view, decides every tile from the channels as they stand, takes the newest slot of each drawn
channel once, releases every other slot it holds, and records each tile's drawn channel and the condition its take finds. A disabled
screen sends black and touches no channel. MODEL'S CHOICE (entry 26): the tick that brings a frame timer to its start makes the reading of
an enabled screen; a start keeps the decisions of that reading, whatever the channels have done since, as long as the chosen view and its
record are the ones read, and else reads afresh, so that a LOAD-VIEW or a change of the chosen view that comes first is seen (R125, R128). The
pixel of a screen output
(R126, R127, R135 to R137, R141): none while the hub is held in reset and none outside 1280 × 800; black in a frame that is not composed;
else the badge of the last tile that draws one there, else the picture of the last tile that covers the place, else the background. -/
def Obligations.OutputFrameStartComposes : Prop :=
  let beyond : SubstituteLevel → Grade → Prop := fun l g =>
    (l = .smear ∧ (g = .smear ∨ g = .blocked)) ∨ (l = .blocked ∧ g = .blocked)
  let empty : Channel → Prop := fun c => ∀ i, (c.slot i).newest = false
  let unfit : State → Tile → Prop := fun s x => (s.channel x.primary).state = .unbound ∨ (s.channel x.primary).state = .waiting ∨
    (s.channel x.primary).state = .lost ∨ empty (s.channel x.primary) ∨ beyond x.level (s.channel x.primary).grade
  let fit : State → Tile → Fin 12 → Prop := fun s x a => ((s.channel a).state = .live ∨ (s.channel a).state = .stale) ∧
    ¬empty (s.channel a) ∧ ¬beyond x.level (s.channel a).grade
  let decided : State → Tile → Fin 12 → Bool → Prop := fun s x c alternate =>
    (alternate = true ∧ x.alternate = some c ∧ unfit s x ∧ fit s x c) ∨
      (alternate = false ∧ c = x.primary ∧ ∀ a, x.alternate = some a → ¬(unfit s x ∧ fit s x a))
  (∀ (sc : Fin 2) (s : State), (s.screen sc).enable = true → (s.screen sc).frameTimer = 1 →
    ∃ r : FrameReading, (s.tick.screen sc).reading = some r ∧ (s.tick.screen sc).frameTimer = 0 ∧
      r.view = (Tab.get s.selector.chosen sc).view ∧ r.copy = Tab.get s.views r.view ∧ r.drawn.length = r.copy.tiles.length ∧
      ∀ (n : Nat) (x : Tile) c alternate, r.copy.tiles[n]? = some x → r.drawn[n]? = some (c, alternate) → decided s x c alternate) ∧
  (∀ (sc : Fin 2) (s : State), s.held = false →
    ((s.screen sc).enable = false → exec (.outputFrameStart sc) s = .next (s.updScreen sc (fun x =>
      { x with frameBlink := x.blink, blink := (x.blink + 1) % 50, frameTimer := 20, composing := false, reading := none }))) ∧
    ((s.screen sc).enable = true → ∃ t : State, exec (.outputFrameStart sc) s = .next t ∧
      let drawn : Fin 12 → Prop := fun c => ∃ r ∈ (t.screen sc).record, r.drawn = c
      let view := (Tab.get s.selector.chosen sc).view
      let stands : FrameReading → Prop := fun x => (s.screen sc).reading = some x ∧ x.view = view ∧ x.copy = Tab.get s.views view
      (t.screen sc).activeView = view ∧ (t.screen sc).copy = Tab.get s.views view ∧
      ((∀ x, ¬stands x) → (t.screen sc).record.length = (t.screen sc).copy.tiles.length ∧
        ∀ (n : Nat) (x : Tile) (r : TileRecord), (t.screen sc).copy.tiles[n]? = some x → (t.screen sc).record[n]? = some r →
          decided s x r.drawn r.alternate) ∧
      (∀ x, stands x → (t.screen sc).record.map (fun r => (r.drawn, r.alternate)) = x.drawn) ∧
      (t.screen sc).composing = true ∧ (t.screen sc).reading = none ∧
      (t.screen sc).frameBlink = (s.screen sc).blink ∧ (t.screen sc).blink = ((s.screen sc).blink + 1) % 50 ∧
      (t.screen sc).frameTimer = 20 ∧ (t.screen sc).enable = true ∧ (t.screen sc).defaultView = (s.screen sc).defaultView ∧
      (∀ r ∈ (t.screen sc).record,
        let d := s.channel r.drawn
        (d.state = .unbound ∨ d.state = .waiting ∨ d.state = .lost ∨ empty d → r.condition = .placeholder) ∧
        (d.state = .live ∨ d.state = .stale → ¬empty d → r.condition =
          if r.alternate then .substituted
          else if d.state = .stale then (if d.grade = .smear ∨ d.grade = .blocked then .staleDirty else .stale)
          else if d.grade = .blocked then .blocked
          else if d.grade = .smear then .smear
          else if d.grade = .haze then .haze
          else .clear)) ∧
      (∀ c, drawn c → t.channel c = (s.channel c).take sc ∧ Tab.get (t.screen sc).held c = (s.channel c).newestSlot) ∧
      (∀ c, ¬drawn c → Tab.get (t.screen sc).held c = none ∧
        t.channel c = if (Tab.get (s.screen sc).held c).isSome then (s.channel c).release sc else s.channel c) ∧
      (∀ sd, sd ≠ sc → t.screen sd = s.screen sd) ∧ t.cams = s.cams ∧ t.trunks = s.trunks ∧ t.streams = s.streams ∧
      t.lenses = s.lenses ∧ t.profiles = s.profiles ∧ t.selector = s.selector ∧ t.views = s.views ∧ t.alerts = s.alerts ∧
      t.orders = s.orders ∧ t.loader = s.loader ∧ t.flash = s.flash)) ∧
  ∀ (sc : Fin 2) (column row : Nat) (s : State),
    let flat : Byte × Byte × Byte → Pixel := fun c => ⟨c.1, if column % 2 = 0 then c.2.1 else c.2.2⟩
    let tile : Nat → Tile → TileRecord → Prop := fun n x r =>
      (s.screen sc).copy.tiles[n]? = some x ∧ (s.screen sc).record[n]? = some r
    let covers : Tile → Prop := fun x => x.x ≤ column ∧ column < x.x + x.w ∧ x.y ≤ row ∧ row < x.y + x.h
    let shown : Prop := (s.screen sc).frameBlink % 50 < 25
    let red := (81, 90, 240)
    let amber := (162, 44, 182)
    let badge : Tile → TileRecord → Option (Byte × Byte × Byte) := fun x r =>
      if covers x ∧ (column < x.x + 4 ∨ x.x + x.w ≤ column + 4 ∨ row < x.y + 4 ∨ x.y + x.h ≤ row + 4) then
        match r.condition with
        | .placeholder => some red
        | .substituted => some (41, 240, 110)
        | .staleDirty => if shown then some red else none
        | .stale => if shown then some amber else none
        | .blocked => if shown then some red else none
        | .smear => some red
        | .haze => some amber
        | .clear => none
      else none
    let unbadged : Prop := ∀ n x r, tile n x r → badge x r = none
    ((s.held = true ∨ 1280 ≤ column ∨ 800 ≤ row) → s.screenPixel sc column row = none) ∧
    (s.held = false → column < 1280 → row < 800 →
      ((s.screen sc).composing = false → s.screenPixel sc column row = some (flat (16, 128, 128))) ∧
      ((s.screen sc).composing = true →
        (∀ n x r c, tile n x r → badge x r = some c → (∀ m y q, n < m → tile m y q → badge y q = none) →
          s.screenPixel sc column row = some (flat c)) ∧
        (unbadged → ∀ n x r, tile n x r → covers x → (∀ m y q, n < m → tile m y q → ¬covers y) →
          (r.condition = .placeholder → s.screenPixel sc column row = some (flat (96, 128, 128))) ∧
          (∀ i k, r.condition ≠ .placeholder → Tab.get (s.screen sc).held r.drawn = some i →
            let slot := (s.channel r.drawn).slot i
            let step := (column - x.x) * (x.right + 1 - x.left) / x.w
            let source := if x.mirror = true then x.right - step else x.left + step
            RowYielded slot.missing (x.top + (row - x.y) * (x.bottom + 1 - x.top) / x.h) k →
            s.screenPixel sc column row = some ⟨(slot.row k).getD (2 * source) 0,
              (slot.row k).getD (2 * (2 * (source / 2) + column % 2) + 1) 0⟩)) ∧
        (unbadged → (∀ n x r, tile n x r → ¬covers x) → s.screenPixel sc column row = some
          (flat ((s.screen sc).copy.background.y, (s.screen sc).copy.background.cb, (s.screen sc).copy.background.cr)))))

/-- SET-SCREEN (R119, R120, R112): a field with no meaning refuses; otherwise both fields are written; a changed default view is a
recomputation of the chosen view; a screen turned off stops its frame, releases its slots, and clears its copy and record but not its
active view; a screen not turned off keeps its slots and its frame. That the cleared copy keeps its background colour is entry 40. -/
def Obligations.SetScreenWritesTheScreen : Prop :=
  ∀ (s : State) (i : Fin 2) (o : HeldOrder) (b e v : Byte), s.Executes i o 8 [b, e, v] →
    ((2 ≤ b.toNat ∨ ¬(e = 0 ∨ e = 1) ∨ 32 ≤ v.toNat) → exec .setScreen s = .next (s.replied i o (.refused .badField))) ∧
    ((e = 0 ∨ e = 1) → ∀ (sc : Fin 2) (w : Fin 32), sc.val = b.toNat → w.val = v.toNat → ∃ t : State,
      exec .setScreen s = .next t ∧
      let old := Tab.get s.selector.chosen sc
      let new := chooseView s.selector.triggers sc (Tab.get s.selector.pins sc) w
      let off : Prop := (s.screen sc).enable = true ∧ e = 0
      (off → t.screen sc = { s.screen sc with
          enable := false, defaultView := w, composing := false, record := [], held := Vector.replicate 12 none, reading := none
          copy := { (s.screen sc).copy with tiles := [] } } ∧
        ∀ c, t.channel c = if (Tab.get (s.screen sc).held c).isSome then (s.channel c).release sc else s.channel c) ∧
      (¬off → t.screen sc = { s.screen sc with enable := decide (e = 1), defaultView := w } ∧ t.channels = s.channels) ∧
      (w = (s.screen sc).defaultView → t.selector = s.selector) ∧
      (w ≠ (s.screen sc).defaultView → t.selector = { s.selector with chosen := s.selector.chosen.set sc.val new }) ∧
      (w = (s.screen sc).defaultView ∨ old.view = new.view → t.orders = (s.replied i o (.done false)).orders) ∧
      (w ≠ (s.screen sc).defaultView → old.view ≠ new.view →
        t.orders = ((s.offer (.view sc old.view new.view new.source)).replied i o (.done false)).orders) ∧
      (∀ sd, sd ≠ sc → t.screen sd = s.screen sd) ∧ t.views = s.views ∧ t.alerts = s.alerts ∧ t.cams = s.cams ∧
      t.trunks = s.trunks ∧ t.streams = s.streams ∧ t.lenses = s.lenses ∧ t.profiles = s.profiles ∧ t.loader = s.loader ∧
      t.flash = s.flash)

/-- LOAD-VIEW (R122 to R125, R157). A tile's window is fitted to the 8-pixel grid and clamped, its destination clamped, its relations
checked. The whole view is written, or the whole order refused. -/
def Obligations.LoadViewReplacesTheView : Prop :=
  (∀ p a lv l1 l0 t1 t0 r1 r0 b1 b0 x1 x0 y1 y0 w1 w0 h1 h0 m : Byte,
    let word : Byte → Byte → Nat := fun hi lo => 256 * hi.toNat + lo.toNat
    let left := word l1 l0 - word l1 l0 % 8
    let top := word t1 t0 - word t1 t0 % 8
    let raisedRight := word r1 r0 - word r1 r0 % 8 + 7
    let raisedBottom := word b1 b0 - word b1 b0 % 8 + 7
    let right := min 1279 raisedRight
    let bottom := min 719 raisedBottom
    let w := min 1280 (max 16 (word w1 w0))
    let h := min 800 (max 16 (word h1 h0))
    let bad : Prop := 12 ≤ p.toNat ∨ 13 ≤ a.toNat ∨ a = p ∨ 3 ≤ lv.toNat ∨ 2 ≤ m.toNat ∨ right < left ∨ bottom < top ∨
      8 * w < right + 1 - left ∨ 4 * (right + 1 - left) < w ∨ 8 * h < bottom + 1 - top ∨ 4 * (bottom + 1 - top) < h
    let given := [p, a, lv, l1, l0, t1, t0, r1, r0, b1, b0, x1, x0, y1, y0, w1, w0, h1, h0, m]
    (bad → readTile given = none) ∧
    (¬bad → ∃ t : Tile, readTile given = some (t, decide
        (1279 < raisedRight ∨ 719 < raisedBottom ∨ 1279 < word x1 x0 ∨ 799 < word y1 y0 ∨ word w1 w0 < 16 ∨ 1280 < word w1 w0 ∨
          word h1 h0 < 16 ∨ 800 < word h1 h0)) ∧
      t.primary.val = p.toNat ∧ t.alternate.map Fin.val = (if a = 12 then none else some a.toNat) ∧
      [SubstituteLevel.never, .smear, .blocked][lv.toNat]? = some t.level ∧ t.left = left ∧ t.top = top ∧ t.right = right ∧
      t.bottom = bottom ∧ t.x = min 1279 (word x1 x0) ∧ t.y = min 799 (word y1 y0) ∧ t.w = w ∧ t.h = h ∧
      t.mirror = decide (m = 1))) ∧
  (∀ rest, readTiles 0 rest = some []) ∧
  (∀ (n : Nat) (tile rest : List Byte), tile.length = 20 →
    readTiles (n + 1) (tile ++ rest) = (readTile tile).bind (fun t => (readTiles n rest).map (t :: ·))) ∧
  ∀ (s : State) (i : Fin 2) (o : HeldOrder) (params : List Byte), s.Executes i o 7 params →
    (params.length < 5 → exec .loadView s = .next (s.replied i o (.refused .badField))) ∧
    (∀ b y cb cr n rest, params = b :: y :: cb :: cr :: n :: rest →
      ((32 ≤ b.toNat ∨ 8 < n.toNat ∨ rest.length ≠ 20 * n.toNat ∨ readTiles n.toNat rest = none) →
        exec .loadView s = .next (s.replied i o (.refused .badField))) ∧
      (∀ (v : Fin 32) (ts : List (Tile × Bool)), v.val = b.toNat → n.toNat ≤ 8 → rest.length = 20 * n.toNat → readTiles n.toNat rest = some ts →
        exec .loadView s = .next ({ s with
          views := s.views.set v.val { background := ⟨y, cb, cr⟩, tiles := ts.map Prod.fst } }.replied i o (.done (ts.any Prod.snd)))))

/-! ## Alert lines (spec 08) -/

/-- PULSE_BOUNDARY and SET-ALERT (R142 to R147): at a boundary the timer enters its next half and a pulsing line takes its level; an
accepted order writes every setting, the demand is that of the new settings, a demand that stays active keeps its pulse, one that
begins starts it, one that ends stops it, and the line has the activity of R146. Other entries stay. The electrical level (R148): high
when active with polarity active-high, and when inactive with active-low; low while the hub is held in reset. -/
def Obligations.AlertsPulseAndTakeSettings : Prop :=
  (∀ (a : Fin 4) (s : State),
    (s.held = true → s.alertHigh a = false) ∧
    (s.held = false → (Tab.get s.alerts a).settings.polarity = .activeHigh → s.alertHigh a = (Tab.get s.alerts a).line) ∧
    (s.held = false → (Tab.get s.alerts a).settings.polarity = .activeLow → s.alertHigh a = !(Tab.get s.alerts a).line)) ∧
  (∀ (a : Fin 4) (s : State), s.held = false →
    ((Tab.get s.alerts a).pulse = none → exec (.pulseBoundary a) s = .next s) ∧
    (∀ p, (Tab.get s.alerts a).pulse = some p → exec (.pulseBoundary a) s = .next (s.updAlert a (fun e =>
      { e with pulse := some ⟨!p.activePhase, 0⟩
               line := decide (e.demand = true ∧ (e.settings.style = .steady ∨ p.activePhase = false)) })))) ∧
  ∀ (s : State) (i : Fin 2) (o : HeldOrder) (b mode c1 c0 ports st gr style pol : Byte),
    s.Executes i o 15 [b, mode, c1, c0, ports, st, gr, style, pol] → s.AlertsFollowMembers →
    let bad : Prop := 4 ≤ b.toNat ∨ 3 ≤ mode.toNat ∨ 4096 ≤ 256 * c1.toNat + c0.toNat ∨ 3 ≤ st.toNat ∨ 4 ≤ gr.toNat ∨
      2 ≤ style.toNat ∨ 2 ≤ pol.toNat
    (bad → exec .setAlert s = .next (s.replied i o (.refused .badField))) ∧
    (¬bad → ∀ a : Fin 4, a.val = b.toNat → ∃ t : State, exec .setAlert s = .next t ∧
      let e := Tab.get s.alerts a
      let e' := Tab.get t.alerts a
      let watchedState : ChannelState → Prop := fun x => (st = 1 ∧ (x = .stale ∨ x = .lost)) ∨ (st = 2 ∧ x = .lost)
      let watchedGrade : Grade → Prop := fun g => (gr = 1 ∧ (g = .haze ∨ g = .smear ∨ g = .blocked)) ∨
        (gr = 2 ∧ (g = .smear ∨ g = .blocked)) ∨ (gr = 3 ∧ g = .blocked)
      [AlertMode.off, .auto, .forcedOn][mode.toNat]? = some e'.settings.mode ∧
      (∀ c : Fin 12, hasMember e'.settings.channels c.val = (c1 ++ c0).getLsbD c.val) ∧
      (∀ p : Fin 8, hasMember e'.settings.ports p.val = ports.getLsbD p.val) ∧
      [StateCondition.none, .staleOrLost, .lost][st.toNat]? = some e'.settings.stateCondition ∧
      [GradeCondition.none, .haze, .smear, .blocked][gr.toNat]? = some e'.settings.gradeCondition ∧
      [AlertStyle.steady, .pulsing][style.toNat]? = some e'.settings.style ∧
      [Polarity.activeHigh, .activeLow][pol.toNat]? = some e'.settings.polarity ∧
      (e'.demand = true ↔ mode = 2 ∨ (mode = 1 ∧
        ((∃ c : Fin 12, (c1 ++ c0).getLsbD c.val = true ∧
          (watchedState (s.channel c).state ∨ watchedGrade (s.channel c).grade)) ∨
        ∃ p : Fin 8, ports.getLsbD p.val = true ∧ watchedGrade (s.lens p).stated))) ∧
      (e'.demand = false → e'.pulse = none ∧ e'.line = false) ∧
      (e'.demand = true → e.demand = true → e'.pulse = e.pulse) ∧
      (e'.demand = true → e.demand = false → e'.pulse = some ⟨true, 0⟩) ∧
      (∀ p, e'.demand = true → e'.pulse = some p → e'.line = decide (style = 0 ∨ p.activePhase = true)) ∧
      (∀ d, d ≠ a → Tab.get t.alerts d = Tab.get s.alerts d) ∧ t.orders = (s.replied i o (.done false)).orders ∧
      t.cams = s.cams ∧ t.trunks = s.trunks ∧ t.streams = s.streams ∧ t.channels = s.channels ∧ t.lenses = s.lenses ∧
      t.profiles = s.profiles ∧ t.selector = s.selector ∧ t.screens = s.screens ∧ t.views = s.views ∧ t.loader = s.loader ∧
      t.flash = s.flash)

/-! ## Orders and notices (spec 09) -/

/-- NOTICE_MOVE (R166 to R168): by the controller side the head of the notice queue enters the management queue of that trunk, or of
both, or of the only one that is UP, and otherwise stays. It carries the hub number, the code, subject and parameters of its kind, and
the lost count of the moment. MODEL'S CHOICE: a LEARN-END with no J carries 0 (entry 14), and the REPLY to a refused QUERY is part 0 of 1 as
that of any other refused order (entry 41). -/
def Obligations.NoticesMoveBySide : Prop :=
  (∀ (s : State) (n : Notice) (rest : List Notice), s.held = false → s.orders.queue = n :: rest →
    let room : Trunk → Prop := fun u => s.trunkUp u = true ∧ (s.out u).mgmt.length < 8
    let enter : Trunk → State → State := fun u x => x.updOut u (fun o => { o with mgmt := o.mgmt ++ [⟨n.packet s.orders.hub, none⟩] })
    let popped : State := { s with orders := { s.orders with queue := rest } }
    let only : Trunk → Prop := fun u =>
      s.orders.hub.side = (match u with | .ta => Side.ta | .tb => Side.tb) ∨ (s.orders.hub.side = .both ∧ s.trunkUp u.other = false)
    (∀ u, only u → room u → exec .noticeMove s = .next (enter u popped)) ∧
    (∀ u, only u → ¬room u → (s.orders.hub.side = .both → s.trunkUp u = true) → exec .noticeMove s = .next s) ∧
    (s.orders.hub.side = .both → room .ta → room .tb → exec .noticeMove s = .next (enter .tb (enter .ta popped))) ∧
    (s.orders.hub.side = .both → s.trunkUp .ta = true → s.trunkUp .tb = true → ¬(room .ta ∧ room .tb) →
      exec .noticeMove s = .next s) ∧
    (s.trunkUp .ta = false → s.trunkUp .tb = false → exec .noticeMove s = .next s)) ∧
  (∀ s : State, s.held = false → s.orders.queue = [] → exec .noticeMove s = .next s) ∧
  ∀ h : HubRecord,
    let sent : Byte → Byte → List Byte → Packet := fun code subject params =>
      .notice (BitVec.ofNat 8 h.number) code subject (BitVec.ofNat 8 h.lost) params
    let b : Nat → Byte := BitVec.ofNat 8
    (∀ tag code c, (Notice.reply tag code (.done c)).packet h = sent 1 tag [code, 0, 0, if c then 1 else 0, 0, 1]) ∧
    (∀ tag code part parts data, (Notice.reply tag code (.data part parts data)).packet h =
      sent 1 tag ([code, 0, 0, 0, b part, b parts] ++ data)) ∧
    (∀ tag code r, (Notice.reply tag code (.refused r)).packet h = sent 1 tag [code, 1,
      (match r with | .badCode => 1 | .badField => 2 | .inUse => 3 | .busy => 4 | .starting => 5), 0, 0, 1]) ∧
    (∀ tag code, (Notice.reply tag code .flashTimeout).packet h = sent 1 tag [code, 2, 6, 0, 0, 1]) ∧
    (∀ tag cause image hub refused, (Notice.start tag cause image hub refused).packet h = sent 2 (tag.getD 0)
      [(match cause with | .power => 0 | .line => 1 | .order => 2), (match image with | .absent => 0 | .damaged => 1 | .valid => 2),
        b hub, b (refused / 256), b refused, if tag.isSome then 1 else 0]) ∧
    (∀ screens : BitVec 2, (Notice.silence screens).packet h = sent 3 0 [b screens.toNat]) ∧
    (∀ p old new share, (Notice.grade p old new share).packet h = sent 4 (b p.val) [b old.code, b new.code, b share]) ∧
    (∀ c old new, (Notice.source c old new).packet h = sent 5 (b c.val) [b old.code, b new.code]) ∧
    (∀ v old new src, (Notice.view v old new src).packet h = sent 6 (b v.val) [b old.val, b new.val,
      match src with | .trigger t => b t.val | .pin => 16 | .default => 17]) ∧
    (∀ p old new, (Notice.link p old new).packet h = sent 7 (b (portCode p)) [b old.code, b new.code]) ∧
    (∀ p j, (Notice.learnEnd p (.learned j)).packet h = sent 8 (b p.val) [0, 0, b j]) ∧
    (∀ p j, (Notice.learnEnd p (.noTexture j)).packet h = sent 8 (b p.val) [1, 2, b j]) ∧
    (∀ p, (Notice.learnEnd p .tooDark).packet h = sent 8 (b p.val) [1, 1, 0] ∧
      (Notice.learnEnd p .profileChanged).packet h = sent 8 (b p.val) [1, 3, 0] ∧
      (Notice.learnEnd p .portRestart).packet h = sent 8 (b p.val) [1, 4, 0])

/-- Offering a notice (R165, R166): with no entry of its key it joins the tail while fewer than 30 wait and is otherwise lost and
counted; with an entry of its key, that entry takes the new value in its place and is removed when it then equals the old one; a
LEARN-END is replaced whole. -/
def Obligations.OffersJoinCoalesceOrAreLost : Prop :=
  ∀ u : OrderUnit,
    (∀ n : Notice, n.isReply = false → (∀ w ∈ u.queue, n.sameKey w = false) →
      ((u.queue.filter (fun w => !w.isReply)).length < 30 → u.offer n = { u with queue := u.queue ++ [n] }) ∧
      (30 ≤ (u.queue.filter (fun w => !w.isReply)).length →
        u.offer n = { u with hub := { u.hub with lost := min (u.hub.lost + 1) 255 } })) ∧
    (∀ (before after : List Notice) (w : Notice), u.queue = before ++ w :: after → (∀ x ∈ before ++ after, w.sameKey x = false) →
      let removed : OrderUnit := { u with queue := before ++ after }
      let kept : Notice → OrderUnit := fun x => { u with queue := before ++ x :: after }
      (∀ p a b c d x y, w = .grade p a b x → u.offer (.grade p c d y) = if a = d then removed else kept (.grade p a d y)) ∧
      (∀ ch a b c d, w = .source ch a b → u.offer (.source ch c d) = if a = d then removed else kept (.source ch a d)) ∧
      (∀ v a b c d x y, w = .view v a b x → u.offer (.view v c d y) = if a = d then removed else kept (.view v a d y)) ∧
      (∀ p a b c d, w = .link p a b → u.offer (.link p c d) = if a = d then removed else kept (.link p a d)) ∧
      (∀ p x y, w = .learnEnd p x → u.offer (.learnEnd p y) = kept (.learnEnd p y)))

/-- PRESENCE, SET-HUB, CLEAR-COUNTS, and an order whose code is not in the catalogue (R110, R157, R162): each does what its rule says
and no more. A silence timer that SET-HUB stops keeps, for QUERY, the time it had left (R163). -/
def Obligations.PlainOrdersAreAnswered : Prop :=
  ∀ (s : State) (i : Fin 2) (o : HeldOrder),
    (s.Executes i o 1 [] → exec .presence s = .next (s.replied i o (.done false))) ∧
    (∀ a b : Byte, s.Executes i o 2 [a, b] → ∀ time, time = 256 * a.toNat + b.toNat → exec .setHub s = .next
      ({ s with orders := { s.orders with hub := { s.orders.hub with
        silenceTime := min 255 time, silenceTimer := if time = 0 then none else some (1000 * min 255 time)
        silenceStopped := if time = 0 then s.orders.hub.silenceTimer.getD s.orders.hub.silenceStopped
          else s.orders.hub.silenceStopped } } }.replied i o
        (.done (decide (255 < time))))) ∧
    (∀ k n : Byte, s.Executes i o 18 [k, n] →
      (k = 0 → n = 0 → exec .clearCounts s = .next ({ s with orders := { s.orders with hub := { s.orders.hub with
        overflow := 0, lost := 0 } } }.replied i o (.done false))) ∧
      (k = 1 → ∀ c : Fin 8, c.val = n.toNat → exec .clearCounts s =
        .next ((s.updRx (.cam c) (fun x => { x with counters := ⟨0, 0, 0, 0, 0, 0, 0⟩ })).replied i o (.done false))) ∧
      (k = 1 → (n = 8 ∨ n = 9) → ∀ u : Trunk, u = (if n = 8 then .ta else .tb) → exec .clearCounts s =
        .next ((s.updTrunk u (fun x => { x with rx := { x.rx with counters := ⟨0, 0, 0, 0, 0, 0, 0⟩ }, counters := ⟨0, 0, 0, 0, 0⟩ })).replied
          i o (.done false))) ∧
      (k = 3 → ∀ c : Fin 12, c.val = n.toNat → exec .clearCounts s =
        .next ((s.updChannel c (fun x => { x with counters := ⟨0, 0, 0, 0, 0, 0⟩ })).replied i o (.done false))) ∧
      (((k ≠ 0 ∧ k ≠ 1 ∧ k ≠ 3) ∨ (k = 0 ∧ n ≠ 0) ∨ (k = 1 ∧ 10 ≤ n.toNat) ∨ (k = 3 ∧ 12 ≤ n.toNat)) →
        exec .clearCounts s = .next (s.replied i o (.refused .badField)))) ∧
    (∀ code params, (code = 0 ∨ 21 ≤ code.toNat) → s.Executes i o code params →
      exec .badCode s = .next (s.replied i o (.refused .badCode)))

/-- QUERY and QUERY-ZONES (R83, R163): the part named of the subject's record, in parts of 186 bytes, and the 48 clarity figures with
the 48 baseline marks; what does not exist refuses; nothing else of the hub changes. The subject that each kind and number names, and the
record of every kind written out: hub, camera port with its lens, trunk port, stream, channel, profile, view selector, trigger, screen,
view and alert entry (R17, R23, R42, R58, R83, R85, R93, R114, R125, R139, R149, R151). MODEL'S CHOICE: entry 14 (the bytes of optional
fields, line sets, enumerated states, the order slots and the queue figures) and entry 21 (what the bytes of a QUERY on the hub show of its
own slot and place). -/
def Obligations.QueriesReturnRecords : Prop :=
  let b : Nat → List Byte := fun n => [BitVec.ofNat 8 n]
  let b2 : Nat → List Byte := fun n => [BitVec.ofNat 8 (n / 256), BitVec.ofNat 8 n]
  let b4 : Nat → List Byte := fun n =>
    [BitVec.ofNat 8 (n / 65536 / 256), BitVec.ofNat 8 (n / 65536), BitVec.ofNat 8 (n / 256), BitVec.ofNat 8 n]
  let yes : Bool → List Byte := fun x => [if x then 1 else 0]
  let link : LinkState → List Byte := fun x => match x with | .down => [0] | .up => [1]
  let grade : Grade → List Byte := fun x => match x with | .unjudged => [0] | .clean => [1] | .haze => [2] | .smear => [3] | .blocked => [4]
  let arrivals : ArrivalCounters → List Byte := fun c => b2 c.received ++ b2 c.unrouted ++ b2 c.misrouted ++ b2 c.stray
  let port : Port → List Byte := fun p => match p with | .cam i => b i.val | .trunk .ta => [8] | .trunk .tb => [9]
  let channelOr : Option (Fin 12) → List Byte := fun c => match c with | some c => b c.val | none => [12]
  let slot : Slot → List Byte := fun x => (match x.state with | .free => [0] | .filling => [1] | .stored => [2]) ++ b2 x.frame ++
    yes x.newest ++ b x.readers.toNat ++ b x.missing.length
  let trigger : Trigger → List Byte := fun t => yes t.enable ++ b2 t.mask.toNat ++ b2 t.value.toNat ++ b t.screens.toNat ++ b t.view.val ++
    b t.priority ++ b t.linger
  let tile : Tile → List Byte := fun t => b t.primary.val ++ channelOr t.alternate ++
    (match t.level with | .never => [0] | .smear => [1] | .blocked => [2]) ++ b2 t.left ++ b2 t.top ++ b2 t.right ++ b2 t.bottom ++
    b2 t.x ++ b2 t.y ++ b2 t.w ++ b2 t.h ++ yes t.mirror
  (∀ (s : State) (i : Fin 2) (o : HeldOrder),
    (∀ k n part : Byte, s.Executes i o 16 [k, n, part] →
      (readSubject [k, n, part] = none → exec .query s = .next (s.replied i o (.refused .badField))) ∧
      (∀ subject, readSubject [k, n, part] = some subject →
        let record := s.recordBytes subject
        (186 * part.toNat < record.length → exec .query s = .next (s.replied i o
          (.data part.toNat ((record.length + 185) / 186) ((record.drop (186 * part.toNat)).take 186)))) ∧
        (record.length ≤ 186 * part.toNat → exec .query s = .next (s.replied i o (.refused .badField))))) ∧
    (∀ b : Byte, s.Executes i o 17 [b] →
      (8 ≤ b.toNat → exec .queryZones s = .next (s.replied i o (.refused .badField))) ∧
      (∀ p : Fin 8, p.val = b.toNat → ∃ bytes : List Byte, exec .queryZones s = .next (s.replied i o (.data 0 1 bytes)) ∧
        bytes.length = 96 ∧ ∀ z : Fin 48, bytes[z.val]? = some (BitVec.ofNat 8 (s.lens p).clarity[z]) ∧
          bytes[48 + z.val]? = some (if (s.lens p).baselines[z] = 0 then 0 else 1)))) ∧
  (∀ k n part : Byte,
    (readSubject [k, n, part] = none ↔ 9 < k.toNat ∨ ∃ last, [0, 9, 255, 11, 3, 0, 15, 1, 31, 3][k.toNat]? = some last ∧
      last < n.toNat) ∧
    readSubject [0, 0, part] = some .hub ∧ (∀ i : Fin 8, n.toNat = i.val → readSubject [1, n, part] = some (.port (.cam i))) ∧
    readSubject [1, 8, part] = some (.port (.trunk .ta)) ∧ readSubject [1, 9, part] = some (.port (.trunk .tb)) ∧
    (∀ i, n.toNat = Fin.val i → readSubject [2, n, part] = some (.stream i)) ∧
    (∀ i, n.toNat = Fin.val i → readSubject [3, n, part] = some (.channel i)) ∧
    (∀ i, n.toNat = Fin.val i → readSubject [4, n, part] = some (.profile i)) ∧ readSubject [5, 0, part] = some .selector ∧
    (∀ i, n.toNat = Fin.val i → readSubject [6, n, part] = some (.trigger i)) ∧
    (∀ i, n.toNat = Fin.val i → readSubject [7, n, part] = some (.screen i)) ∧
    (∀ i, n.toNat = Fin.val i → readSubject [8, n, part] = some (.view i)) ∧
    (∀ i, n.toNat = Fin.val i → readSubject [9, n, part] = some (.alert i))) ∧
  (∀ lines : List Nat, (lineSetBytes lines).length = 90 ∧
    ∀ n, n < 720 → ((lineSetBytes lines).getD (89 - n / 8) 0).getLsbD (n % 8) = lines.contains n) ∧
  ∀ s : State,
    s.recordBytes .hub =
      (let h := s.orders.hub
      let state : OrderSlot → List Byte := fun x => match x with | .free => b 0 | .pending _ => b 1 | .saving _ => b 2
      b h.number ++ (match h.side with | .ta => b 0 | .tb => b 1 | .both => b 2) ++ b2 h.silenceTime ++
        yes h.silenceTimer.isSome ++ b4 (h.silenceTimer.getD h.silenceStopped) ++ b h.overflow ++ b h.lost ++
        (match h.cause with | .power => b 0 | .line => b 1 | .order => b 2) ++
        (match h.image with | .absent => b 0 | .damaged => b 1 | .valid => b 2) ++ b2 h.refused ++
        state (Tab.get s.orders.slots 0) ++ state (Tab.get s.orders.slots 1) ++ b (noticesWaiting s.orders.queue) ++
        b (repliesWaiting s.orders.queue) ++ b (s.orders.reservations + 1)) ∧
    (∀ i : Fin 8, s.recordBytes (.port (.cam i)) =
      (let p := Tab.get s.cams i
      let c := p.rx.counters
      let l := s.lens i
      yes p.enable ++ b p.stream.val ++ b p.profile.val ++ link p.rx.link ++
        (match p.openFrame with
          | some f => yes true ++ b2 f.frame ++ lineSetBytes f.good
          | none => yes false ++ b2 0 ++ lineSetBytes []) ++
        b c.framing ++ b c.check ++ b c.shape ++ arrivals c ++
        (match l.state with | .unlearned => b 0 | .learning => b 1 | .assessing => b 2) ++ grade l.stated ++
        (match l.pending with
          | none => b 0 ++ b 0
          | some .haze => b 1 ++ b 1
          | some .smear => b 1 ++ b 2
          | some .blocked => b 1 ++ b 3
          | some .clean | some .unjudged => b 1 ++ b 0) ++ b l.run ++
        (match l.verdict with
          | none => b 0
          | some .dark => b 1
          | some .glare => b 2
          | some .incomplete => b 3
          | some .judged => b 4) ++ b l.share ++ b l.lastJ ++
        (List.finRange 48).flatMap (fun z => b4 l.sums[z]) ++ b l.count ++ b l.target ++ b l.nonJudged)) ∧
    (∀ u : Trunk, s.recordBytes (.port (.trunk u)) =
      (let c := (s.rx (.trunk u)).counters
      let d := (s.trunks.get u).counters
      link (s.rx (.trunk u)).link ++ b c.framing ++ b c.check ++ b c.shape ++ b d.poisoned ++ arrivals c ++ b2 d.unroutable ++
        b2 d.sent ++ b2 d.queueCuts ++ b2 d.mgmtDrops)) ∧
    (∀ k : Fin 256, s.recordBytes (.stream k) =
      (let e := (s.streamRec k).entry
      let f := (s.streamRec k).flow
      let waits : Trunk → List Byte := fun u => yes (decide (∃ q ∈ (s.out u).waiting, q.stream = some k))
      yes e.valid ++ port e.origin ++ yes e.sendTo.ta ++ yes e.sendTo.tb ++ channelOr e.channel ++ yes e.cutThrough.ta ++
        yes e.cutThrough.tb ++ yes f.isOpen ++ b2 f.frame ++ yes f.cut.ta ++ yes f.cut.tb ++ waits .ta ++ waits .tb)) ∧
    (∀ c : Fin 12, s.recordBytes (.channel c) =
      (let x := s.channel c
      let k := x.counters
      (match x.stream with | some n => yes true ++ b n.val | none => yes false ++ b 0) ++
        (match x.state with | .unbound => b 0 | .waiting => b 1 | .live => b 2 | .stale => b 3 | .lost => b 4) ++ grade x.grade ++
        (match x.home with | some h => yes true ++ b h | none => yes false ++ b 0) ++ b x.patch ++ b2 x.staleTime ++ b2 x.lostTime ++
        yes x.age.running ++ b2 x.age.ms ++
        (match x.intake with
          | .none => b 0 ++ b 0 ++ b 0 ++ b 0
          | .filling i f => b 1 ++ b i.val ++ b2 f
          | .dropping f => b 2 ++ b 0 ++ b2 f) ++
        slot (x.slot 0) ++ slot (x.slot 1) ++ slot (x.slot 2) ++ b2 k.published ++ b2 k.incomplete ++ b2 k.dropped ++ b2 k.patched ++
        b2 k.poisoned ++ b2 k.stray)) ∧
    (∀ p : Fin 4, s.recordBytes (.profile p) =
      (let x := Tab.get s.profiles p
      [x.noise, x.threshold, x.h1, x.h2, x.h3, x.kWorse, x.kBetter, x.dark, x.glare, x.learn, x.drift, if x.pair then 1 else 0].map
        (BitVec.ofNat 8))) ∧
    s.recordBytes .selector =
      (let h := s.orders.hub
      (List.finRange 8).flatMap (fun d => yes (s.door d).raw ++ yes (s.door d).filtered ++ b (s.door d).filterTime ++
          yes (s.door d).wait.isSome ++ b ((s.door d).wait.getD (s.door d).stoppedAt)) ++
        b s.selector.virtual.toNat ++ b2 s.selector.lineVector.toNat ++
        (List.finRange 16).flatMap (fun t => match (s.trigger t).state with
          | .idle => b 0 ++ b 0 ++ b 0 ++ b 0
          | .active => b 1 ++ b 0 ++ b 0 ++ b 0
          | .linger ms => b 2 ++ b 1 ++ b2 ms) ++
        (List.finRange 2).flatMap (fun sc =>
          (match Tab.get s.selector.pins sc with
            | none => b 0 ++ b 0 ++ b 0
            | some p => b 1 ++ b p.view.val ++ b p.priority) ++
          b (Tab.get s.selector.chosen sc).view.val ++
          (match (Tab.get s.selector.chosen sc).source with | .trigger t => b t.val | .pin => b 16 | .default => b 17)) ++
        b2 h.silenceTime ++ yes h.silenceTimer.isSome ++ b4 (h.silenceTimer.getD h.silenceStopped)) ∧
    (∀ t : Fin 16, s.recordBytes (.trigger t) =
      trigger (s.trigger t) ++ (match (s.trigger t).state with | .idle => b 0 | .active => b 1 | .linger _ => b 2)) ∧
    (∀ sc : Fin 2, s.recordBytes (.screen sc) =
      (let x := s.screen sc
      yes x.enable ++ b x.defaultView.val ++ b x.activeView.val ++ b x.blink ++
        (List.finRange 12).flatMap (fun c => match Tab.get x.held c with | none => b 0 ++ b 0 | some i => b 1 ++ b i.val) ++
        x.record.flatMap (fun r => b r.drawn.val ++ yes r.alternate ++ (match r.condition with
          | .placeholder => b 0 | .substituted => b 1 | .staleDirty => b 2 | .stale => b 3 | .blocked => b 4 | .smear => b 5
          | .haze => b 6 | .clear => b 7)))) ∧
    (∀ v : Fin 32, s.recordBytes (.view v) =
      (let x := Tab.get s.views v
      [x.background.y, x.background.cb, x.background.cr] ++ b x.tiles.length ++ x.tiles.flatMap tile)) ∧
    (∀ a : Fin 4, s.recordBytes (.alert a) =
      (let e := Tab.get s.alerts a
      let x := e.settings
      (match x.mode with | .off => b 0 | .auto => b 1 | .forcedOn => b 2) ++ b2 x.channels.toNat ++ b x.ports.toNat ++
        (match x.stateCondition with | .none => b 0 | .staleOrLost => b 1 | .lost => b 2) ++
        (match x.gradeCondition with | .none => b 0 | .haze => b 1 | .smear => b 2 | .blocked => b 3) ++
        (match x.style with | .steady => b 0 | .pulsing => b 1) ++ (match x.polarity with | .activeHigh => b 0 | .activeLow => b 1) ++
        yes e.demand ++
        (match e.pulse with
          | none => b 0 ++ b 0 ++ b 0
          | some p => b 1 ++ b2 (if p.activePhase then p.elapsed else 500 + p.elapsed)) ++
        yes e.line ++ (if s.alertHigh a then b 0 else b 1)))

/-- Orders that are refused (R156, R157, R159): during the load every order is answered STARTING; after it a parameter length that is
not that of the code is answered BAD-FIELD; and an order that is refused for any reason changes nothing but its slot and the queue its
REPLY joins. -/
def Obligations.RefusedOrdersOnlyReply : Prop :=
  ∀ (s : State) (i : Fin 2) (o : HeldOrder), s.held = false → s.orders.firstPending = some (i, o) →
    s.orders.replyPlaceFree = true →
    (s.loader.phase ≠ .ready → exec (orderCommand o.code) s = .next (s.replied i o (.refused .starting))) ∧
    (s.loader.phase = .ready → ∀ length : Nat,
      [(1, 0), (2, 2), (3, 4), (4, 1), (5, 8), (6, 6), (8, 3), (9, 10), (10, 11), (11, 3), (12, 1), (13, 13), (14, 1), (15, 9), (16, 3),
        (17, 1), (18, 2), (19, 0)].lookup o.code.toNat = some length →
      o.params.length ≠ length → exec (orderCommand o.code) s = .next (s.replied i o (.refused .badField))) ∧
    (s.loader.phase = .ready → o.code = 20 → o.broadcast = false → o.params ≠ [] →
      exec .resetHub s = .next (s.replied i o (.refused .badField))) ∧
    (∀ t r, exec (orderCommand o.code) s = .next t → Tab.get t.orders.slots i = .free →
      t.orders.queue.getLast? = some (.reply o.tag o.code (.refused r)) → t = s.replied i o (.refused r))

/-! ## Settings image and start-up (spec 10) -/

/-- SAVE-SETTINGS, ERASE_DONE and PAGE_DONE (R160, R180, R181): the order takes the snapshot, its slot becomes SAVING and page 0 reads
as erased; a second one is refused BUSY; the erased image area is programmed from the last page down to page 0, each page with its
bytes of the snapshot padded with 255; after page 0 the slot is answered DONE and FREE. MODEL'S CHOICE (entry 3): a report that no flash
command called for, PAGE_DONE while the erase runs and ERASE_DONE while a page is programmed, leaves the state as it is. -/
def Obligations.SaveRunsToItsEnd : Prop :=
  (∀ (s : State) (i : Fin 2) (o : HeldOrder), s.Executes i o 19 [] →
    (s.loader.job.isSome = true → exec .saveSettings s = .next (s.replied i o (.refused .busy))) ∧
    (s.loader.job = none → ∃ f : Flash, f.torn = false ∧ (∀ a, f.read a = if a < 256 then 255 else s.flash.read a) ∧
      exec .saveSettings s = .next { s with
        flash := f, orders := { s.orders with slots := s.orders.slots.set i.val (.saving o) }
        loader := { s.loader with job := some { snapshot := s.snapshot, phase := .erasing, elapsed := 0, slot := i } } })) ∧
  ∀ (s : State) (j : SaveJob), s.held = false → s.loader.job = some j →
    (j.phase = .erasing → exec .pageDone s = .next s ∧ ∃ f : Flash, f.torn = s.flash.torn ∧
      (∀ a, f.read a = if a < 16384 then 255 else s.flash.read a) ∧
      exec .eraseDone s = .next { s with
        flash := f, loader := { s.loader with job := some { j with
          phase := .programming ((j.snapshot.length - 1) / 256), elapsed := 0 } } }) ∧
    (∀ page, j.phase = .programming page → exec .eraseDone s = .next s ∧ ∃ f : Flash, f.torn = s.flash.torn ∧
      (∀ a, f.read a = if 256 * page ≤ a ∧ a < 256 * page + 256 then j.snapshot.getD a 255 else s.flash.read a) ∧
      (∀ p, page = p + 1 → exec .pageDone s = .next { s with
        flash := f, loader := { s.loader with job := some { j with phase := .programming p, elapsed := 0 } } }) ∧
      (∀ o, page = 0 → Tab.get s.orders.slots j.slot = .saving o → exec .pageDone s =
        .next ({ s with flash := f, loader := { s.loader with job := none } }.replied j.slot o (.done false))))

/-- A save that fails or is abandoned never leaves a valid image (R181, R182): after ERASE_TIMEOUT or PAGE_TIMEOUT the job is over, its
order is answered FAILED FLASH-TIMEOUT, and the image area is not judged VALID; nor is it after a reset of any kind. What a page
programmed in part holds is a free value (entry 7); that a page 0 programmed in part is never VALID is entry 8. MODEL'S CHOICE (entry 3):
the expiry of a time limit that does not run, PAGE_TIMEOUT while the erase runs and ERASE_TIMEOUT while a page is programmed, leaves the
state as it is. -/
def Obligations.FailedSaveLeavesNoValidImage : Prop :=
  ∀ (s : State) (j : SaveJob), s.held = false → s.loader.job = some j → s.SaveJobConsistent →
    (∀ o, Tab.get s.orders.slots j.slot = .saving o → ∃ f : Flash, f.judge.result ≠ .valid ∧
      (j.phase = .erasing → exec .eraseTimeout s = .next ({ s with
        flash := f, freeUsed := s.freeUsed + 1, loader := { s.loader with job := none } }.replied j.slot o .flashTimeout)) ∧
      (∀ page, j.phase = .programming page → (∀ a, (a < 256 * page ∨ 256 * page + 256 ≤ a) → f.read a = s.flash.read a) ∧
        exec .pageTimeout s = .next ({ s with
          flash := f, freeUsed := s.freeUsed + 1, loader := { s.loader with job := none } }.replied j.slot o .flashTimeout))) ∧
    (j.phase = .erasing → exec .pageTimeout s = .next s) ∧ (∀ page, j.phase = .programming page → exec .eraseTimeout s = .next s) ∧
    (∀ c t, ((∃ straps, c = .powerOn straps) ∨ c = .resetLineAsserted ∨ c = .resetHub) → exec c s = .next t → t.loader.job = none →
      t.flash.judge.result ≠ .valid)

/-- The snapshot is a complete image (R174, R175, R180): a flash that reads as the snapshot of a hub is judged VALID, and the entries
it gives are every setting of that hub, section by section, each in the form of its order, byte by byte. The baselines of a port that is not
ASSESSING are 0. That a page 0 left partly programmed, which the premise rules out, is never VALID is entry 8. -/
def Obligations.SnapshotIsJudgedValid : Prop :=
  ∀ (s : State) (f : Flash), s.ScreensConsistent → f.torn = false →
    (∀ a, a < s.snapshot.length → f.read a = s.snapshot.getD a 255) →
    let b : Nat → Byte := BitVec.ofNat 8
    let high : Nat → Byte := fun n => BitVec.ofNat 8 (n / 256)
    let yes : Bool → Byte := fun x => if x then 1 else 0
    let channelOr : Option (Fin 12) → Byte := fun c => match c with | some c => b c.val | none => 12
    let port : Fin 8 → List Byte := fun i =>
      let c := Tab.get s.cams i
      [b i.val, yes c.enable, b c.stream.val, b c.profile.val]
    let profile : Fin 4 → List Byte := fun i =>
      let p := Tab.get s.profiles i
      [b i.val, b p.noise, b p.threshold, b p.h1, b p.h2, b p.h3, b p.kWorse, b p.kBetter, b p.dark, b p.glare, b p.learn, b p.drift,
        yes p.pair]
    let baselines : Fin 8 → List Byte := fun i =>
      let l := s.lens i
      let p := Tab.get s.profiles (Tab.get s.cams i).profile
      let learned := decide (l.state = .assessing)
      [b i.val, yes learned, b p.noise, yes p.pair] ++ (List.finRange 48).flatMap (fun z =>
        let e := if learned then l.baselines[z] else 0
        [b (e / 65536), b (e / 256), b e])
    let stream : Fin 256 → List Byte := fun k =>
      let e := (s.streamRec k).entry
      [b k.val, yes e.valid, (match e.origin with | .cam i => b i.val | .trunk .ta => 8 | .trunk .tb => 9), yes e.sendTo.ta, yes e.sendTo.tb,
        channelOr e.channel, yes e.cutThrough.ta, yes e.cutThrough.tb]
    let channel : Fin 12 → List Byte := fun i =>
      let c := s.channel i
      [b i.val, b c.patch, high c.staleTime, b c.staleTime, high c.lostTime, b c.lostTime]
    let tile : Tile → List Byte := fun x =>
      [b x.primary.val, channelOr x.alternate, (match x.level with | .never => 0 | .smear => 1 | .blocked => 2)] ++
        [x.left, x.top, x.right, x.bottom, x.x, x.y, x.w, x.h].flatMap (fun n => [high n, b n]) ++ [yes x.mirror]
    let view : Fin 32 → List Byte := fun v =>
      let x := Tab.get s.views v
      [b v.val, x.background.y, x.background.cb, x.background.cr, b x.tiles.length] ++ x.tiles.flatMap tile
    let trigger : Fin 16 → List Byte := fun n =>
      let x := s.trigger n
      [b n.val, yes x.enable, high x.mask.toNat, b x.mask.toNat, high x.value.toNat, b x.value.toNat, b x.screens.toNat, b x.view.val,
        b x.priority, b x.linger]
    let screen : Fin 2 → List Byte := fun i => [b i.val, yes (s.screen i).enable, b (s.screen i).defaultView.val]
    let alert : Fin 4 → List Byte := fun i =>
      let x := (Tab.get s.alerts i).settings
      [b i.val, (match x.mode with | .off => 0 | .auto => 1 | .forcedOn => 2), high x.channels.toNat, b x.channels.toNat, b x.ports.toNat,
        (match x.stateCondition with | .none => 0 | .staleOrLost => 1 | .lost => 2),
        (match x.gradeCondition with | .none => 0 | .haze => 1 | .smear => 2 | .blocked => 3),
        (match x.style with | .steady => 0 | .pulsing => 1), (match x.polarity with | .activeHigh => 0 | .activeLow => 1)]
    f.judge.result = .valid ∧ f.judge.entries =
      [⟨.hub, [high s.orders.hub.silenceTime, b s.orders.hub.silenceTime]⟩] ++
      (List.finRange 8).map (fun i => ⟨.port, port i⟩) ++
      (List.finRange 4).map (fun i => ⟨.profile, profile i⟩) ++
      (List.finRange 8).map (fun i => ⟨.baselines, baselines i⟩) ++
      (List.finRange 256).map (fun k => ⟨.stream, stream k⟩) ++
      (List.finRange 12).map (fun c => ⟨.channel, channel c⟩) ++
      (List.finRange 32).map (fun v => ⟨.view, view v⟩) ++
      (List.finRange 16).map (fun n => ⟨.trigger, trigger n⟩) ++
      [⟨.filterTimes, (List.finRange 8).map (fun d => b (s.door d).filterTime)⟩] ++
      (List.finRange 2).map (fun x => ⟨.screen, screen x⟩) ++
      (List.finRange 4).map (fun a => ⟨.alert, alert a⟩)

/-- IMAGE_JUDGED and IMAGE_ENTRY_APPLY (R173 to R179): the judgement step by step, an image whose sections do not fit it being DAMAGED, and
the entries of a VALID one, section by section, a section whose accept flag is clear passed over; its result written into the hub record;
the entries applied one by one as the orders named against them, a refused one skipped and counted; a BASELINES entry by R177; and at the
end READY with a START notice. MODEL'S CHOICE: a page 0 left partly programmed is DAMAGED (entry 8); the operand `answers`, and a flash that
does not answer (entry 30); an image with no entry to apply ends the load in the event that judges it (entry 33); either command out of its
phase leaves the state as it is (entry 3); the fields that a learned mark of 0 leaves (entry 36); that the GRADE notice of a BASELINES entry
is offered from the grade as it stands, also where a group judged since an earlier entry of the port has moved it off CLEAN, and that a
refused entry keeps such a grade (entry 47); that a PROFILES entry acts on the lens records as LOAD-PROFILE does, and so voids an open frame
measure and drops a half pair, where R99 says that loading this section does not act on them as R95 and R96 do (entry 43); a silence timer that runs goes on as the HUB
section sets the silence time (entry 27). The effect of each other section is that of the order named against it: what executing the order
does before its REPLY, with the model's choices inside that order as its own statement has them. -/
def Obligations.LoadJudgesAndAppliesEntries : Prop :=
  (∀ f : Flash,
    (¬(f.read 0 = 79 ∧ f.read 1 = 72) → f.judge = ⟨.absent, []⟩) ∧
    (f.read 0 = 79 → f.read 1 = 72 → ∀ length, length = 256 * (f.read 2).toNat + (f.read 3).toNat →
      let checked : Prop := (packetCheck (f.readRange 0 6 ++ f.readRange 8 (length - 8))).toNat =
        256 * (f.read 6).toNat + (f.read 7).toNat
      ((length < 8 ∨ 16384 < length ∨ f.torn = true) → f.judge = ⟨.damaged, []⟩) ∧
      (8 ≤ length → length ≤ 16384 → ¬checked → f.judge = ⟨.damaged, []⟩) ∧
      (8 ≤ length → length ≤ 16384 → f.torn = false → checked →
        ((∀ parts, ¬Sections (f.readRange 8 (length - 8)) parts) → f.judge = ⟨.damaged, []⟩) ∧
        ∀ parts, Sections (f.readRange 8 (length - 8)) parts → f.judge = ⟨.valid, parts.zipIdx.flatMap (fun x =>
          if (256 * (f.read 4).toNat + (f.read 5).toNat).testBit x.2 then x.1 else [])⟩))) ∧
  (∀ (s : State) (b learned noise pair : Byte) (figures : List Byte), figures.length = 144 →
    let given := b :: learned :: noise :: pair :: figures
    let figure : Fin 48 → Nat := fun z => 65536 * (figures.getD (3 * z.val) 0).toNat + 256 * (figures.getD (3 * z.val + 1) 0).toNat +
      (figures.getD (3 * z.val + 2) 0).toNat
    let j := ((List.finRange 48).filter (fun z => figure z ≠ 0)).length
    ((8 ≤ b.toNat ∨ ¬(learned = 0 ∨ learned = 1)) → baselinesEffect given s = (s, .refused .badField)) ∧
    (∀ p : Fin 8, p.val = b.toNat →
      let l := s.lens p
      let profile := Tab.get s.profiles (Tab.get s.cams p).profile
      let fits : Prop := noise.toNat = profile.noise ∧ pair = (if profile.pair then 1 else 0) ∧
        (∀ z, figure z = 0 ∨ (64 ≤ figure z ∧ figure z ≤ 298620)) ∧ 12 ≤ j
      let becomes : Lens → State → Prop := fun new t => t.lens p = new ∧ (∀ q, q ≠ p → t.lens q = s.lens q) ∧
        t.orders = (if l.stated = new.stated then s.orders else s.orders.offer (.grade p l.stated new.stated 0)) ∧
        (s.AlertsFollowMembers → t.AlertsFollowMembers) ∧ t.cams = s.cams ∧ t.trunks = s.trunks ∧ t.streams = s.streams ∧ t.channels = s.channels ∧ t.profiles = s.profiles ∧
        t.selector = s.selector ∧ t.screens = s.screens ∧ t.views = s.views ∧ t.loader = s.loader ∧ t.flash = s.flash
      (learned = 0 → l.state ≠ .assessing → baselinesEffect given s = (s, .done false)) ∧
      (learned = 0 → l.state = .assessing → ∃ t : State, baselinesEffect given s = (t, .done false) ∧ becomes
        { l with baselines := Vector.replicate 48 0, state := .unlearned, stated := .unjudged, lastJ := 0 } t) ∧
      (learned = 1 → ¬fits → baselinesEffect given s = (s, .refused .badField)) ∧
      (learned = 1 → fits → ∃ t : State, baselinesEffect given s = (t, .done false) ∧ becomes
        { l with state := .assessing, stated := .clean, pending := none, run := 0, baselines := Vector.ofFn figure
                 clarity := Vector.replicate 48 0, share := 0, lastJ := j } t))) ∧
  (∀ (s : State) (a b : Byte), ∀ time, time = 256 * a.toNat + b.toNat → hubSectionEffect [a, b] s =
    ({ s with orders := { s.orders with hub := { s.orders.hub with silenceTime := min 255 time } } }, .done (decide (255 < time)))) ∧
  (∀ (s : State) (i : Fin 2) (o : HeldOrder) (code : Byte) (params : List Byte), s.Executes i o code params →
    let executed : Instr → State × Answer → Prop := fun c r => exec c s = .next (r.1.replied i o r.2)
    (code = 3 → params.length = 4 → executed .setPort (setPortEffect params s)) ∧
    (code = 13 → params.length = 13 → executed .loadProfile (loadProfileEffect params s)) ∧
    (code = 5 → params.length = 8 → executed .loadStream (loadStreamEffect params s)) ∧
    (code = 6 → params.length = 6 → executed .setChannel (setChannelEffect params s)) ∧
    (code = 7 → executed .loadView (loadViewEffect params s)) ∧
    (code = 9 → params.length = 10 → executed .loadTrigger (loadTriggerEffect params s)) ∧
    (code = 10 → params.length = 11 → executed .setLines (setLinesEffect params s)) ∧
    (code = 8 → params.length = 3 → executed .setScreen (setScreenEffect params s)) ∧
    (code = 15 → params.length = 9 → executed .setAlert (setAlertEffect params s))) ∧
  ∀ s : State, s.held = false →
    let ended : State → State := fun x =>
      { x with loader := { x.loader with phase := .ready } }.offer
        (.start x.loader.resetTag x.orders.hub.cause x.orders.hub.image x.orders.hub.number x.orders.hub.refused)
    let goesOn : List ImageEntry → State → State := fun todo x =>
      match todo with
      | [] => ended x
      | e :: rest => { x with loader := { x.loader with phase := .applying (e :: rest) } }
    (∀ answers j, s.loader.phase = .reading → j = (if answers then s.flash.judge else ⟨.absent, []⟩) →
      exec (.imageJudged answers) s = .next (goesOn j.entries
        { s with orders := { s.orders with hub := { s.orders.hub with image := j.result } } })) ∧
    (∀ answers, s.loader.phase ≠ .reading → exec (.imageJudged answers) s = .next s) ∧
    (∀ e todo x a, s.loader.phase = .applying (e :: todo) →
      (x, a) = (match e.kind with
        | .hub => hubSectionEffect e.params s
        | .port => setPortEffect e.params s
        | .profile => loadProfileEffect e.params s
        | .baselines => baselinesEffect e.params s
        | .stream => loadStreamEffect e.params s
        | .channel => setChannelEffect e.params s
        | .view => loadViewEffect e.params s
        | .trigger => loadTriggerEffect e.params s
        | .filterTimes => setLinesEffect ([0, 0, 255] ++ e.params) s
        | .screen => setScreenEffect e.params s
        | .alert => setAlertEffect e.params s) →
      ((∃ r, a = .refused r) → exec .imageEntryApply s = .next (goesOn todo { s with orders := { s.orders with hub :=
        { s.orders.hub with refused := min (s.orders.hub.refused + 1) 65535 } } })) ∧
      ((∀ r, a ≠ .refused r) → exec .imageEntryApply s = .next (goesOn todo x))) ∧
    ((∀ e todo, s.loader.phase ≠ .applying (e :: todo)) → exec .imageEntryApply s = .next s)

/-! ## The invariants, at reset and at every step -/

/-- The state after reset satisfies every invariant of Safety.lean. -/
def Obligations.InvariantsHoldAtReset : Prop :=
  let s := State.reset
  s.PortsConsistent ∧ s.OutputsBounded ∧ s.CuttingHasArrival ∧ s.ChannelsConsistent ∧ s.LensesConsistent ∧ s.TriggersFollowVector ∧
    s.ChosenViewsCurrent ∧ s.FilterWaitsRun ∧ s.HeldAtReset ∧ s.HeldSlotsAreRead ∧ s.ScreensConsistent ∧ s.AlertsFollowMembers ∧
    s.NoticesBounded ∧ s.SaveJobConsistent ∧ s.MemoryCanonical ∧ s.CountersWithinLimits

/-- Every step keeps the counters within their limits (spec 00 section 1.4.4). -/
def Obligations.EveryStepKeepsCountersWithinLimits : Prop :=
  ∀ s t : State, s.CountersWithinLimits → step s = .next t → t.CountersWithinLimits

/-- Every step keeps the bounds of the notice queue (R164). -/
def Obligations.EveryStepKeepsNoticesBounded : Prop :=
  ∀ s t : State, s.NoticesBounded → step s = .next t → t.NoticesBounded

/-- Every step keeps the trunk outputs bounded, and quiet while their link is DOWN (R30, R33, R35, R37). -/
def Obligations.EveryStepKeepsOutputsBounded : Prop :=
  ∀ s t : State, s.OutputsBounded → step s = .next t → t.OutputsBounded

/-- Every step keeps a LINE in arrival only at a port that forms packets and this LINE, and an output CUTTING only such a line (R2, R9, R10,
R38, R39). -/
def Obligations.EveryStepKeepsArrivalsConsistent : Prop :=
  ∀ s t : State, s.PortsConsistent → s.CuttingHasArrival → step s = .next t → t.PortsConsistent ∧ t.CuttingHasArrival

/-- Every step keeps the channels and their slots consistent, and streams and channels naming each other (R42 to R46, R53, R59, R60).
A frame age is then at most 10,000 ms, which is why two bytes hold it in a record (R163). -/
def Obligations.EveryStepKeepsChannelsConsistent : Prop :=
  ∀ s t : State, s.ChannelsConsistent → step s = .next t → t.ChannelsConsistent

/-- Every step keeps the held slots of the screens and the reader sets of the channels one and the same, and the screen records
consistent (R117, R121). -/
def Obligations.EveryStepKeepsHeldSlotsRead : Prop :=
  ∀ s t : State, s.ChannelsConsistent → s.HeldSlotsAreRead → s.ScreensConsistent → step s = .next t →
    t.HeldSlotsAreRead ∧ t.ScreensConsistent

/-- Every step keeps the lens records and the profiles consistent (R65, R86, R90, R91, R93, R177). -/
def Obligations.EveryStepKeepsLensesConsistent : Prop :=
  ∀ s t : State, s.LensesConsistent → step s = .next t → t.LensesConsistent

/-- Every step keeps the triggers as the line vector has them, the chosen views current, and the filter waits running where they must
(R100, R104, R106, R112, R116). -/
def Obligations.EveryStepKeepsSelectorCurrent : Prop :=
  ∀ s t : State, s.HeldAtReset → s.TriggersFollowVector → s.ChosenViewsCurrent → s.FilterWaitsRun → step s = .next t →
    t.HeldAtReset ∧ t.TriggersFollowVector ∧ t.ChosenViewsCurrent ∧ t.FilterWaitsRun

/-- Every step keeps the alert entries as their members call for (R144 to R147). -/
def Obligations.EveryStepKeepsAlertsFollowingMembers : Prop :=
  ∀ s t : State, s.AlertsFollowMembers → step s = .next t → t.AlertsFollowMembers

/-- Every step keeps the SAVE job and its slot standing for each other, page 0 erased while the job lasts, and the memories in
canonical form (R160, R181; the canonical form is the model's). -/
def Obligations.EveryStepKeepsSaveJobAndMemory : Prop :=
  ∀ s t : State, s.SaveJobConsistent → s.MemoryCanonical → step s = .next t → t.SaveJobConsistent ∧ t.MemoryCanonical
end

