-- ==== Sys2Proof/Laws/State.lean ====
section
/-! SUPPORT. What reading a record gives after an update: tables and pairs, then every field of the state after every update. -/

namespace Sys2Proof

/-! ## Pairs and tables -/

@[simp] theorem Duo.get_upd_self {α : Type} (d : Duo α) (t : Trunk) (f : α → α) : (d.upd t f).get t = f (d.get t) := by
  cases t <;> rfl

@[simp] theorem Duo.get_upd_of_ne {α : Type} {t u : Trunk} (d : Duo α) (f : α → α) (h : u ≠ t) : (d.upd t f).get u = d.get u := by
  cases t <;> cases u <;> first | rfl | exact absurd rfl h

theorem Duo.get_upd {α : Type} (d : Duo α) (t u : Trunk) (f : α → α) :
    (d.upd t f).get u = if u = t then f (d.get t) else d.get u := by
  cases t <;> cases u <;> rfl

/-- Two pairs with the same members are the same pair. -/
theorem Duo.ext_get {α : Type} {d e : Duo α} (h : ∀ t, d.get t = e.get t) : d = e := by
  cases d; cases e; exact congr (congrArg Duo.mk (h .ta)) (h .tb)

@[simp] theorem Trunk.other_ne (t : Trunk) : t.other ≠ t := by cases t <;> decide

@[simp] theorem Tab.get_upd_self {α : Type} {n : Nat} (v : Vector α n) (i : Fin n) (f : α → α) :
    Tab.get (Tab.upd v i f) i = f (Tab.get v i) := by
  simp [Tab.get, Tab.upd]

@[simp] theorem Tab.get_upd_of_ne {α : Type} {n : Nat} {i j : Fin n} (v : Vector α n) (f : α → α) (h : j ≠ i) :
    Tab.get (Tab.upd v i f) j = Tab.get v j := by
  simp [Tab.get, Tab.upd, Fin.val_ne_of_ne h.symm]

theorem Tab.get_upd {α : Type} {n : Nat} (v : Vector α n) (i j : Fin n) (f : α → α) :
    Tab.get (Tab.upd v i f) j = if j = i then f (Tab.get v i) else Tab.get v j := by
  split
  · next h => rw [h, Tab.get_upd_self]
  · next h => exact Tab.get_upd_of_ne v f h

@[simp] theorem Tab.get_replicate {α : Type} {n : Nat} (a : α) (i : Fin n) : Tab.get (Vector.replicate n a) i = a := by
  simp [Tab.get]

@[simp] theorem Tab.get_map {α β : Type} {n : Nat} (v : Vector α n) (f : α → β) (i : Fin n) :
    Tab.get (v.map f) i = f (Tab.get v i) := by
  simp [Tab.get]

/-- Two tables with the same entries are the same table. -/
theorem Tab.ext_get {α : Type} {n : Nat} {v w : Vector α n} (h : ∀ i, Tab.get v i = Tab.get w i) : v = w := by
  ext i hi
  exact h ⟨i, hi⟩

/-- A change that leaves its entry as it is changes nothing. -/
theorem Tab.upd_same {α : Type} {n : Nat} (v : Vector α n) (i : Fin n) (f : α → α) (h : f (Tab.get v i) = Tab.get v i) :
    Tab.upd v i f = v := by
  apply Tab.ext_get
  intro j
  rw [Tab.get_upd]
  split
  · next e => rw [e, h]
  · rfl

/-- Two changes of one entry are one. -/
theorem Tab.upd_upd {α : Type} {n : Nat} (v : Vector α n) (i : Fin n) (f g : α → α) :
    Tab.upd (Tab.upd v i f) i g = Tab.upd v i (fun a => g (f a)) := by
  apply Tab.ext_get
  intro j
  simp only [Tab.get_upd]
  split <;> simp

/-- Two changes that give one value are one change. -/
theorem Tab.upd_congr {α : Type} {n : Nat} (v : Vector α n) (i : Fin n) (f g : α → α) (h : f (Tab.get v i) = g (Tab.get v i)) :
    Tab.upd v i f = Tab.upd v i g := by
  apply Tab.ext_get
  intro j
  rw [Tab.get_upd, Tab.get_upd, h]

theorem Duo.upd_same {α : Type} (d : Duo α) (t : Trunk) (f : α → α) (h : f (d.get t) = d.get t) : d.upd t f = d := by
  apply Duo.ext_get
  intro u
  rw [Duo.get_upd]
  split
  · next e => rw [e, h]
  · rfl

theorem Duo.upd_congr {α : Type} (d : Duo α) (t : Trunk) (f g : α → α) (h : f (d.get t) = g (d.get t)) : d.upd t f = d.upd t g := by
  apply Duo.ext_get
  intro u
  rw [Duo.get_upd, Duo.get_upd, h]

namespace Machine

/-! ## The fields of the state after each update -/


@[simp] theorem State.updCam_cams (s : State) (i : Fin 8) (f : CameraPort → CameraPort) : (s.updCam i f).cams = Tab.upd s.cams i f := rfl
@[simp] theorem State.updCam_trunks (s : State) (i : Fin 8) (f : CameraPort → CameraPort) : (s.updCam i f).trunks = s.trunks := rfl
@[simp] theorem State.updCam_streams (s : State) (i : Fin 8) (f : CameraPort → CameraPort) : (s.updCam i f).streams = s.streams := rfl
@[simp] theorem State.updCam_channels (s : State) (i : Fin 8) (f : CameraPort → CameraPort) : (s.updCam i f).channels = s.channels := rfl
@[simp] theorem State.updCam_lenses (s : State) (i : Fin 8) (f : CameraPort → CameraPort) : (s.updCam i f).lenses = s.lenses := rfl
@[simp] theorem State.updCam_profiles (s : State) (i : Fin 8) (f : CameraPort → CameraPort) : (s.updCam i f).profiles = s.profiles := rfl
@[simp] theorem State.updCam_selector (s : State) (i : Fin 8) (f : CameraPort → CameraPort) : (s.updCam i f).selector = s.selector := rfl
@[simp] theorem State.updCam_screens (s : State) (i : Fin 8) (f : CameraPort → CameraPort) : (s.updCam i f).screens = s.screens := rfl
@[simp] theorem State.updCam_views (s : State) (i : Fin 8) (f : CameraPort → CameraPort) : (s.updCam i f).views = s.views := rfl
@[simp] theorem State.updCam_alerts (s : State) (i : Fin 8) (f : CameraPort → CameraPort) : (s.updCam i f).alerts = s.alerts := rfl
@[simp] theorem State.updCam_orders (s : State) (i : Fin 8) (f : CameraPort → CameraPort) : (s.updCam i f).orders = s.orders := rfl
@[simp] theorem State.updCam_loader (s : State) (i : Fin 8) (f : CameraPort → CameraPort) : (s.updCam i f).loader = s.loader := rfl
@[simp] theorem State.updCam_flash (s : State) (i : Fin 8) (f : CameraPort → CameraPort) : (s.updCam i f).flash = s.flash := rfl
@[simp] theorem State.updCam_straps (s : State) (i : Fin 8) (f : CameraPort → CameraPort) : (s.updCam i f).straps = s.straps := rfl
@[simp] theorem State.updCam_held (s : State) (i : Fin 8) (f : CameraPort → CameraPort) : (s.updCam i f).held = s.held := rfl
@[simp] theorem State.updCam_freeUsed (s : State) (i : Fin 8) (f : CameraPort → CameraPort) : (s.updCam i f).freeUsed = s.freeUsed := rfl
@[simp] theorem State.updCam_pending (s : State) (i : Fin 8) (f : CameraPort → CameraPort) : (s.updCam i f).pending = s.pending := rfl

@[simp] theorem State.updTrunk_cams (s : State) (t : Trunk) (f : TrunkPort → TrunkPort) : (s.updTrunk t f).cams = s.cams := rfl
@[simp] theorem State.updTrunk_trunks (s : State) (t : Trunk) (f : TrunkPort → TrunkPort) : (s.updTrunk t f).trunks = s.trunks.upd t f := rfl
@[simp] theorem State.updTrunk_streams (s : State) (t : Trunk) (f : TrunkPort → TrunkPort) : (s.updTrunk t f).streams = s.streams := rfl
@[simp] theorem State.updTrunk_channels (s : State) (t : Trunk) (f : TrunkPort → TrunkPort) : (s.updTrunk t f).channels = s.channels := rfl
@[simp] theorem State.updTrunk_lenses (s : State) (t : Trunk) (f : TrunkPort → TrunkPort) : (s.updTrunk t f).lenses = s.lenses := rfl
@[simp] theorem State.updTrunk_profiles (s : State) (t : Trunk) (f : TrunkPort → TrunkPort) : (s.updTrunk t f).profiles = s.profiles := rfl
@[simp] theorem State.updTrunk_selector (s : State) (t : Trunk) (f : TrunkPort → TrunkPort) : (s.updTrunk t f).selector = s.selector := rfl
@[simp] theorem State.updTrunk_screens (s : State) (t : Trunk) (f : TrunkPort → TrunkPort) : (s.updTrunk t f).screens = s.screens := rfl
@[simp] theorem State.updTrunk_views (s : State) (t : Trunk) (f : TrunkPort → TrunkPort) : (s.updTrunk t f).views = s.views := rfl
@[simp] theorem State.updTrunk_alerts (s : State) (t : Trunk) (f : TrunkPort → TrunkPort) : (s.updTrunk t f).alerts = s.alerts := rfl
@[simp] theorem State.updTrunk_orders (s : State) (t : Trunk) (f : TrunkPort → TrunkPort) : (s.updTrunk t f).orders = s.orders := rfl
@[simp] theorem State.updTrunk_loader (s : State) (t : Trunk) (f : TrunkPort → TrunkPort) : (s.updTrunk t f).loader = s.loader := rfl
@[simp] theorem State.updTrunk_flash (s : State) (t : Trunk) (f : TrunkPort → TrunkPort) : (s.updTrunk t f).flash = s.flash := rfl
@[simp] theorem State.updTrunk_straps (s : State) (t : Trunk) (f : TrunkPort → TrunkPort) : (s.updTrunk t f).straps = s.straps := rfl
@[simp] theorem State.updTrunk_held (s : State) (t : Trunk) (f : TrunkPort → TrunkPort) : (s.updTrunk t f).held = s.held := rfl
@[simp] theorem State.updTrunk_freeUsed (s : State) (t : Trunk) (f : TrunkPort → TrunkPort) : (s.updTrunk t f).freeUsed = s.freeUsed := rfl
@[simp] theorem State.updTrunk_pending (s : State) (t : Trunk) (f : TrunkPort → TrunkPort) : (s.updTrunk t f).pending = s.pending := rfl

@[simp] theorem State.updOut_cams (s : State) (t : Trunk) (f : Output → Output) : (s.updOut t f).cams = s.cams := rfl
@[simp] theorem State.updOut_trunks (s : State) (t : Trunk) (f : Output → Output) : (s.updOut t f).trunks = s.trunks.upd t (fun p => { p with out := f p.out }) := rfl
@[simp] theorem State.updOut_streams (s : State) (t : Trunk) (f : Output → Output) : (s.updOut t f).streams = s.streams := rfl
@[simp] theorem State.updOut_channels (s : State) (t : Trunk) (f : Output → Output) : (s.updOut t f).channels = s.channels := rfl
@[simp] theorem State.updOut_lenses (s : State) (t : Trunk) (f : Output → Output) : (s.updOut t f).lenses = s.lenses := rfl
@[simp] theorem State.updOut_profiles (s : State) (t : Trunk) (f : Output → Output) : (s.updOut t f).profiles = s.profiles := rfl
@[simp] theorem State.updOut_selector (s : State) (t : Trunk) (f : Output → Output) : (s.updOut t f).selector = s.selector := rfl
@[simp] theorem State.updOut_screens (s : State) (t : Trunk) (f : Output → Output) : (s.updOut t f).screens = s.screens := rfl
@[simp] theorem State.updOut_views (s : State) (t : Trunk) (f : Output → Output) : (s.updOut t f).views = s.views := rfl
@[simp] theorem State.updOut_alerts (s : State) (t : Trunk) (f : Output → Output) : (s.updOut t f).alerts = s.alerts := rfl
@[simp] theorem State.updOut_orders (s : State) (t : Trunk) (f : Output → Output) : (s.updOut t f).orders = s.orders := rfl
@[simp] theorem State.updOut_loader (s : State) (t : Trunk) (f : Output → Output) : (s.updOut t f).loader = s.loader := rfl
@[simp] theorem State.updOut_flash (s : State) (t : Trunk) (f : Output → Output) : (s.updOut t f).flash = s.flash := rfl
@[simp] theorem State.updOut_straps (s : State) (t : Trunk) (f : Output → Output) : (s.updOut t f).straps = s.straps := rfl
@[simp] theorem State.updOut_held (s : State) (t : Trunk) (f : Output → Output) : (s.updOut t f).held = s.held := rfl
@[simp] theorem State.updOut_freeUsed (s : State) (t : Trunk) (f : Output → Output) : (s.updOut t f).freeUsed = s.freeUsed := rfl
@[simp] theorem State.updOut_pending (s : State) (t : Trunk) (f : Output → Output) : (s.updOut t f).pending = s.pending := rfl

@[simp] theorem State.updTrunkCounters_cams (s : State) (t : Trunk) (f : TrunkCounters → TrunkCounters) : (s.updTrunkCounters t f).cams = s.cams := rfl
@[simp] theorem State.updTrunkCounters_trunks (s : State) (t : Trunk) (f : TrunkCounters → TrunkCounters) : (s.updTrunkCounters t f).trunks = s.trunks.upd t (fun p => { p with counters := f p.counters }) := rfl
@[simp] theorem State.updTrunkCounters_streams (s : State) (t : Trunk) (f : TrunkCounters → TrunkCounters) : (s.updTrunkCounters t f).streams = s.streams := rfl
@[simp] theorem State.updTrunkCounters_channels (s : State) (t : Trunk) (f : TrunkCounters → TrunkCounters) : (s.updTrunkCounters t f).channels = s.channels := rfl
@[simp] theorem State.updTrunkCounters_lenses (s : State) (t : Trunk) (f : TrunkCounters → TrunkCounters) : (s.updTrunkCounters t f).lenses = s.lenses := rfl
@[simp] theorem State.updTrunkCounters_profiles (s : State) (t : Trunk) (f : TrunkCounters → TrunkCounters) : (s.updTrunkCounters t f).profiles = s.profiles := rfl
@[simp] theorem State.updTrunkCounters_selector (s : State) (t : Trunk) (f : TrunkCounters → TrunkCounters) : (s.updTrunkCounters t f).selector = s.selector := rfl
@[simp] theorem State.updTrunkCounters_screens (s : State) (t : Trunk) (f : TrunkCounters → TrunkCounters) : (s.updTrunkCounters t f).screens = s.screens := rfl
@[simp] theorem State.updTrunkCounters_views (s : State) (t : Trunk) (f : TrunkCounters → TrunkCounters) : (s.updTrunkCounters t f).views = s.views := rfl
@[simp] theorem State.updTrunkCounters_alerts (s : State) (t : Trunk) (f : TrunkCounters → TrunkCounters) : (s.updTrunkCounters t f).alerts = s.alerts := rfl
@[simp] theorem State.updTrunkCounters_orders (s : State) (t : Trunk) (f : TrunkCounters → TrunkCounters) : (s.updTrunkCounters t f).orders = s.orders := rfl
@[simp] theorem State.updTrunkCounters_loader (s : State) (t : Trunk) (f : TrunkCounters → TrunkCounters) : (s.updTrunkCounters t f).loader = s.loader := rfl
@[simp] theorem State.updTrunkCounters_flash (s : State) (t : Trunk) (f : TrunkCounters → TrunkCounters) : (s.updTrunkCounters t f).flash = s.flash := rfl
@[simp] theorem State.updTrunkCounters_straps (s : State) (t : Trunk) (f : TrunkCounters → TrunkCounters) : (s.updTrunkCounters t f).straps = s.straps := rfl
@[simp] theorem State.updTrunkCounters_held (s : State) (t : Trunk) (f : TrunkCounters → TrunkCounters) : (s.updTrunkCounters t f).held = s.held := rfl
@[simp] theorem State.updTrunkCounters_freeUsed (s : State) (t : Trunk) (f : TrunkCounters → TrunkCounters) : (s.updTrunkCounters t f).freeUsed = s.freeUsed := rfl
@[simp] theorem State.updTrunkCounters_pending (s : State) (t : Trunk) (f : TrunkCounters → TrunkCounters) : (s.updTrunkCounters t f).pending = s.pending := rfl

@[simp] theorem State.updStream_cams (s : State) (k : Fin 256) (f : StreamRecord → StreamRecord) : (s.updStream k f).cams = s.cams := rfl
@[simp] theorem State.updStream_trunks (s : State) (k : Fin 256) (f : StreamRecord → StreamRecord) : (s.updStream k f).trunks = s.trunks := rfl
@[simp] theorem State.updStream_streams (s : State) (k : Fin 256) (f : StreamRecord → StreamRecord) : (s.updStream k f).streams = Tab.upd s.streams k f := rfl
@[simp] theorem State.updStream_channels (s : State) (k : Fin 256) (f : StreamRecord → StreamRecord) : (s.updStream k f).channels = s.channels := rfl
@[simp] theorem State.updStream_lenses (s : State) (k : Fin 256) (f : StreamRecord → StreamRecord) : (s.updStream k f).lenses = s.lenses := rfl
@[simp] theorem State.updStream_profiles (s : State) (k : Fin 256) (f : StreamRecord → StreamRecord) : (s.updStream k f).profiles = s.profiles := rfl
@[simp] theorem State.updStream_selector (s : State) (k : Fin 256) (f : StreamRecord → StreamRecord) : (s.updStream k f).selector = s.selector := rfl
@[simp] theorem State.updStream_screens (s : State) (k : Fin 256) (f : StreamRecord → StreamRecord) : (s.updStream k f).screens = s.screens := rfl
@[simp] theorem State.updStream_views (s : State) (k : Fin 256) (f : StreamRecord → StreamRecord) : (s.updStream k f).views = s.views := rfl
@[simp] theorem State.updStream_alerts (s : State) (k : Fin 256) (f : StreamRecord → StreamRecord) : (s.updStream k f).alerts = s.alerts := rfl
@[simp] theorem State.updStream_orders (s : State) (k : Fin 256) (f : StreamRecord → StreamRecord) : (s.updStream k f).orders = s.orders := rfl
@[simp] theorem State.updStream_loader (s : State) (k : Fin 256) (f : StreamRecord → StreamRecord) : (s.updStream k f).loader = s.loader := rfl
@[simp] theorem State.updStream_flash (s : State) (k : Fin 256) (f : StreamRecord → StreamRecord) : (s.updStream k f).flash = s.flash := rfl
@[simp] theorem State.updStream_straps (s : State) (k : Fin 256) (f : StreamRecord → StreamRecord) : (s.updStream k f).straps = s.straps := rfl
@[simp] theorem State.updStream_held (s : State) (k : Fin 256) (f : StreamRecord → StreamRecord) : (s.updStream k f).held = s.held := rfl
@[simp] theorem State.updStream_freeUsed (s : State) (k : Fin 256) (f : StreamRecord → StreamRecord) : (s.updStream k f).freeUsed = s.freeUsed := rfl
@[simp] theorem State.updStream_pending (s : State) (k : Fin 256) (f : StreamRecord → StreamRecord) : (s.updStream k f).pending = s.pending := rfl

@[simp] theorem State.updFlow_cams (s : State) (k : Fin 256) (f : StreamFlow → StreamFlow) : (s.updFlow k f).cams = s.cams := rfl
@[simp] theorem State.updFlow_trunks (s : State) (k : Fin 256) (f : StreamFlow → StreamFlow) : (s.updFlow k f).trunks = s.trunks := rfl
@[simp] theorem State.updFlow_streams (s : State) (k : Fin 256) (f : StreamFlow → StreamFlow) : (s.updFlow k f).streams = Tab.upd s.streams k (fun r => { r with flow := f r.flow }) := rfl
@[simp] theorem State.updFlow_channels (s : State) (k : Fin 256) (f : StreamFlow → StreamFlow) : (s.updFlow k f).channels = s.channels := rfl
@[simp] theorem State.updFlow_lenses (s : State) (k : Fin 256) (f : StreamFlow → StreamFlow) : (s.updFlow k f).lenses = s.lenses := rfl
@[simp] theorem State.updFlow_profiles (s : State) (k : Fin 256) (f : StreamFlow → StreamFlow) : (s.updFlow k f).profiles = s.profiles := rfl
@[simp] theorem State.updFlow_selector (s : State) (k : Fin 256) (f : StreamFlow → StreamFlow) : (s.updFlow k f).selector = s.selector := rfl
@[simp] theorem State.updFlow_screens (s : State) (k : Fin 256) (f : StreamFlow → StreamFlow) : (s.updFlow k f).screens = s.screens := rfl
@[simp] theorem State.updFlow_views (s : State) (k : Fin 256) (f : StreamFlow → StreamFlow) : (s.updFlow k f).views = s.views := rfl
@[simp] theorem State.updFlow_alerts (s : State) (k : Fin 256) (f : StreamFlow → StreamFlow) : (s.updFlow k f).alerts = s.alerts := rfl
@[simp] theorem State.updFlow_orders (s : State) (k : Fin 256) (f : StreamFlow → StreamFlow) : (s.updFlow k f).orders = s.orders := rfl
@[simp] theorem State.updFlow_loader (s : State) (k : Fin 256) (f : StreamFlow → StreamFlow) : (s.updFlow k f).loader = s.loader := rfl
@[simp] theorem State.updFlow_flash (s : State) (k : Fin 256) (f : StreamFlow → StreamFlow) : (s.updFlow k f).flash = s.flash := rfl
@[simp] theorem State.updFlow_straps (s : State) (k : Fin 256) (f : StreamFlow → StreamFlow) : (s.updFlow k f).straps = s.straps := rfl
@[simp] theorem State.updFlow_held (s : State) (k : Fin 256) (f : StreamFlow → StreamFlow) : (s.updFlow k f).held = s.held := rfl
@[simp] theorem State.updFlow_freeUsed (s : State) (k : Fin 256) (f : StreamFlow → StreamFlow) : (s.updFlow k f).freeUsed = s.freeUsed := rfl
@[simp] theorem State.updFlow_pending (s : State) (k : Fin 256) (f : StreamFlow → StreamFlow) : (s.updFlow k f).pending = s.pending := rfl

@[simp] theorem State.updChannel_cams (s : State) (c : Fin 12) (f : Channel → Channel) : (s.updChannel c f).cams = s.cams := rfl
@[simp] theorem State.updChannel_trunks (s : State) (c : Fin 12) (f : Channel → Channel) : (s.updChannel c f).trunks = s.trunks := rfl
@[simp] theorem State.updChannel_streams (s : State) (c : Fin 12) (f : Channel → Channel) : (s.updChannel c f).streams = s.streams := rfl
@[simp] theorem State.updChannel_channels (s : State) (c : Fin 12) (f : Channel → Channel) : (s.updChannel c f).channels = Tab.upd s.channels c f := rfl
@[simp] theorem State.updChannel_lenses (s : State) (c : Fin 12) (f : Channel → Channel) : (s.updChannel c f).lenses = s.lenses := rfl
@[simp] theorem State.updChannel_profiles (s : State) (c : Fin 12) (f : Channel → Channel) : (s.updChannel c f).profiles = s.profiles := rfl
@[simp] theorem State.updChannel_selector (s : State) (c : Fin 12) (f : Channel → Channel) : (s.updChannel c f).selector = s.selector := rfl
@[simp] theorem State.updChannel_screens (s : State) (c : Fin 12) (f : Channel → Channel) : (s.updChannel c f).screens = s.screens := rfl
@[simp] theorem State.updChannel_views (s : State) (c : Fin 12) (f : Channel → Channel) : (s.updChannel c f).views = s.views := rfl
@[simp] theorem State.updChannel_alerts (s : State) (c : Fin 12) (f : Channel → Channel) : (s.updChannel c f).alerts = s.alerts := rfl
@[simp] theorem State.updChannel_orders (s : State) (c : Fin 12) (f : Channel → Channel) : (s.updChannel c f).orders = s.orders := rfl
@[simp] theorem State.updChannel_loader (s : State) (c : Fin 12) (f : Channel → Channel) : (s.updChannel c f).loader = s.loader := rfl
@[simp] theorem State.updChannel_flash (s : State) (c : Fin 12) (f : Channel → Channel) : (s.updChannel c f).flash = s.flash := rfl
@[simp] theorem State.updChannel_straps (s : State) (c : Fin 12) (f : Channel → Channel) : (s.updChannel c f).straps = s.straps := rfl
@[simp] theorem State.updChannel_held (s : State) (c : Fin 12) (f : Channel → Channel) : (s.updChannel c f).held = s.held := rfl
@[simp] theorem State.updChannel_freeUsed (s : State) (c : Fin 12) (f : Channel → Channel) : (s.updChannel c f).freeUsed = s.freeUsed := rfl
@[simp] theorem State.updChannel_pending (s : State) (c : Fin 12) (f : Channel → Channel) : (s.updChannel c f).pending = s.pending := rfl

@[simp] theorem State.updLens_cams (s : State) (i : Fin 8) (f : Lens → Lens) : (s.updLens i f).cams = s.cams := rfl
@[simp] theorem State.updLens_trunks (s : State) (i : Fin 8) (f : Lens → Lens) : (s.updLens i f).trunks = s.trunks := rfl
@[simp] theorem State.updLens_streams (s : State) (i : Fin 8) (f : Lens → Lens) : (s.updLens i f).streams = s.streams := rfl
@[simp] theorem State.updLens_channels (s : State) (i : Fin 8) (f : Lens → Lens) : (s.updLens i f).channels = s.channels := rfl
@[simp] theorem State.updLens_lenses (s : State) (i : Fin 8) (f : Lens → Lens) : (s.updLens i f).lenses = Tab.upd s.lenses i f := rfl
@[simp] theorem State.updLens_profiles (s : State) (i : Fin 8) (f : Lens → Lens) : (s.updLens i f).profiles = s.profiles := rfl
@[simp] theorem State.updLens_selector (s : State) (i : Fin 8) (f : Lens → Lens) : (s.updLens i f).selector = s.selector := rfl
@[simp] theorem State.updLens_screens (s : State) (i : Fin 8) (f : Lens → Lens) : (s.updLens i f).screens = s.screens := rfl
@[simp] theorem State.updLens_views (s : State) (i : Fin 8) (f : Lens → Lens) : (s.updLens i f).views = s.views := rfl
@[simp] theorem State.updLens_alerts (s : State) (i : Fin 8) (f : Lens → Lens) : (s.updLens i f).alerts = s.alerts := rfl
@[simp] theorem State.updLens_orders (s : State) (i : Fin 8) (f : Lens → Lens) : (s.updLens i f).orders = s.orders := rfl
@[simp] theorem State.updLens_loader (s : State) (i : Fin 8) (f : Lens → Lens) : (s.updLens i f).loader = s.loader := rfl
@[simp] theorem State.updLens_flash (s : State) (i : Fin 8) (f : Lens → Lens) : (s.updLens i f).flash = s.flash := rfl
@[simp] theorem State.updLens_straps (s : State) (i : Fin 8) (f : Lens → Lens) : (s.updLens i f).straps = s.straps := rfl
@[simp] theorem State.updLens_held (s : State) (i : Fin 8) (f : Lens → Lens) : (s.updLens i f).held = s.held := rfl
@[simp] theorem State.updLens_freeUsed (s : State) (i : Fin 8) (f : Lens → Lens) : (s.updLens i f).freeUsed = s.freeUsed := rfl
@[simp] theorem State.updLens_pending (s : State) (i : Fin 8) (f : Lens → Lens) : (s.updLens i f).pending = s.pending := rfl

@[simp] theorem State.updScreen_cams (s : State) (sc : Fin 2) (f : Screen → Screen) : (s.updScreen sc f).cams = s.cams := rfl
@[simp] theorem State.updScreen_trunks (s : State) (sc : Fin 2) (f : Screen → Screen) : (s.updScreen sc f).trunks = s.trunks := rfl
@[simp] theorem State.updScreen_streams (s : State) (sc : Fin 2) (f : Screen → Screen) : (s.updScreen sc f).streams = s.streams := rfl
@[simp] theorem State.updScreen_channels (s : State) (sc : Fin 2) (f : Screen → Screen) : (s.updScreen sc f).channels = s.channels := rfl
@[simp] theorem State.updScreen_lenses (s : State) (sc : Fin 2) (f : Screen → Screen) : (s.updScreen sc f).lenses = s.lenses := rfl
@[simp] theorem State.updScreen_profiles (s : State) (sc : Fin 2) (f : Screen → Screen) : (s.updScreen sc f).profiles = s.profiles := rfl
@[simp] theorem State.updScreen_selector (s : State) (sc : Fin 2) (f : Screen → Screen) : (s.updScreen sc f).selector = s.selector := rfl
@[simp] theorem State.updScreen_screens (s : State) (sc : Fin 2) (f : Screen → Screen) : (s.updScreen sc f).screens = Tab.upd s.screens sc f := rfl
@[simp] theorem State.updScreen_views (s : State) (sc : Fin 2) (f : Screen → Screen) : (s.updScreen sc f).views = s.views := rfl
@[simp] theorem State.updScreen_alerts (s : State) (sc : Fin 2) (f : Screen → Screen) : (s.updScreen sc f).alerts = s.alerts := rfl
@[simp] theorem State.updScreen_orders (s : State) (sc : Fin 2) (f : Screen → Screen) : (s.updScreen sc f).orders = s.orders := rfl
@[simp] theorem State.updScreen_loader (s : State) (sc : Fin 2) (f : Screen → Screen) : (s.updScreen sc f).loader = s.loader := rfl
@[simp] theorem State.updScreen_flash (s : State) (sc : Fin 2) (f : Screen → Screen) : (s.updScreen sc f).flash = s.flash := rfl
@[simp] theorem State.updScreen_straps (s : State) (sc : Fin 2) (f : Screen → Screen) : (s.updScreen sc f).straps = s.straps := rfl
@[simp] theorem State.updScreen_held (s : State) (sc : Fin 2) (f : Screen → Screen) : (s.updScreen sc f).held = s.held := rfl
@[simp] theorem State.updScreen_freeUsed (s : State) (sc : Fin 2) (f : Screen → Screen) : (s.updScreen sc f).freeUsed = s.freeUsed := rfl
@[simp] theorem State.updScreen_pending (s : State) (sc : Fin 2) (f : Screen → Screen) : (s.updScreen sc f).pending = s.pending := rfl

@[simp] theorem State.updAlert_cams (s : State) (a : Fin 4) (f : Alert → Alert) : (s.updAlert a f).cams = s.cams := rfl
@[simp] theorem State.updAlert_trunks (s : State) (a : Fin 4) (f : Alert → Alert) : (s.updAlert a f).trunks = s.trunks := rfl
@[simp] theorem State.updAlert_streams (s : State) (a : Fin 4) (f : Alert → Alert) : (s.updAlert a f).streams = s.streams := rfl
@[simp] theorem State.updAlert_channels (s : State) (a : Fin 4) (f : Alert → Alert) : (s.updAlert a f).channels = s.channels := rfl
@[simp] theorem State.updAlert_lenses (s : State) (a : Fin 4) (f : Alert → Alert) : (s.updAlert a f).lenses = s.lenses := rfl
@[simp] theorem State.updAlert_profiles (s : State) (a : Fin 4) (f : Alert → Alert) : (s.updAlert a f).profiles = s.profiles := rfl
@[simp] theorem State.updAlert_selector (s : State) (a : Fin 4) (f : Alert → Alert) : (s.updAlert a f).selector = s.selector := rfl
@[simp] theorem State.updAlert_screens (s : State) (a : Fin 4) (f : Alert → Alert) : (s.updAlert a f).screens = s.screens := rfl
@[simp] theorem State.updAlert_views (s : State) (a : Fin 4) (f : Alert → Alert) : (s.updAlert a f).views = s.views := rfl
@[simp] theorem State.updAlert_alerts (s : State) (a : Fin 4) (f : Alert → Alert) : (s.updAlert a f).alerts = Tab.upd s.alerts a f := rfl
@[simp] theorem State.updAlert_orders (s : State) (a : Fin 4) (f : Alert → Alert) : (s.updAlert a f).orders = s.orders := rfl
@[simp] theorem State.updAlert_loader (s : State) (a : Fin 4) (f : Alert → Alert) : (s.updAlert a f).loader = s.loader := rfl
@[simp] theorem State.updAlert_flash (s : State) (a : Fin 4) (f : Alert → Alert) : (s.updAlert a f).flash = s.flash := rfl
@[simp] theorem State.updAlert_straps (s : State) (a : Fin 4) (f : Alert → Alert) : (s.updAlert a f).straps = s.straps := rfl
@[simp] theorem State.updAlert_held (s : State) (a : Fin 4) (f : Alert → Alert) : (s.updAlert a f).held = s.held := rfl
@[simp] theorem State.updAlert_freeUsed (s : State) (a : Fin 4) (f : Alert → Alert) : (s.updAlert a f).freeUsed = s.freeUsed := rfl
@[simp] theorem State.updAlert_pending (s : State) (a : Fin 4) (f : Alert → Alert) : (s.updAlert a f).pending = s.pending := rfl

@[simp] theorem State.updDoor_cams (s : State) (d : Fin 8) (f : DoorLine → DoorLine) : (s.updDoor d f).cams = s.cams := rfl
@[simp] theorem State.updDoor_trunks (s : State) (d : Fin 8) (f : DoorLine → DoorLine) : (s.updDoor d f).trunks = s.trunks := rfl
@[simp] theorem State.updDoor_streams (s : State) (d : Fin 8) (f : DoorLine → DoorLine) : (s.updDoor d f).streams = s.streams := rfl
@[simp] theorem State.updDoor_channels (s : State) (d : Fin 8) (f : DoorLine → DoorLine) : (s.updDoor d f).channels = s.channels := rfl
@[simp] theorem State.updDoor_lenses (s : State) (d : Fin 8) (f : DoorLine → DoorLine) : (s.updDoor d f).lenses = s.lenses := rfl
@[simp] theorem State.updDoor_profiles (s : State) (d : Fin 8) (f : DoorLine → DoorLine) : (s.updDoor d f).profiles = s.profiles := rfl
@[simp] theorem State.updDoor_selector (s : State) (d : Fin 8) (f : DoorLine → DoorLine) : (s.updDoor d f).selector = { s.selector with doors := Tab.upd s.selector.doors d f } := rfl
@[simp] theorem State.updDoor_screens (s : State) (d : Fin 8) (f : DoorLine → DoorLine) : (s.updDoor d f).screens = s.screens := rfl
@[simp] theorem State.updDoor_views (s : State) (d : Fin 8) (f : DoorLine → DoorLine) : (s.updDoor d f).views = s.views := rfl
@[simp] theorem State.updDoor_alerts (s : State) (d : Fin 8) (f : DoorLine → DoorLine) : (s.updDoor d f).alerts = s.alerts := rfl
@[simp] theorem State.updDoor_orders (s : State) (d : Fin 8) (f : DoorLine → DoorLine) : (s.updDoor d f).orders = s.orders := rfl
@[simp] theorem State.updDoor_loader (s : State) (d : Fin 8) (f : DoorLine → DoorLine) : (s.updDoor d f).loader = s.loader := rfl
@[simp] theorem State.updDoor_flash (s : State) (d : Fin 8) (f : DoorLine → DoorLine) : (s.updDoor d f).flash = s.flash := rfl
@[simp] theorem State.updDoor_straps (s : State) (d : Fin 8) (f : DoorLine → DoorLine) : (s.updDoor d f).straps = s.straps := rfl
@[simp] theorem State.updDoor_held (s : State) (d : Fin 8) (f : DoorLine → DoorLine) : (s.updDoor d f).held = s.held := rfl
@[simp] theorem State.updDoor_freeUsed (s : State) (d : Fin 8) (f : DoorLine → DoorLine) : (s.updDoor d f).freeUsed = s.freeUsed := rfl
@[simp] theorem State.updDoor_pending (s : State) (d : Fin 8) (f : DoorLine → DoorLine) : (s.updDoor d f).pending = s.pending := rfl

@[simp] theorem State.updTrigger_cams (s : State) (t : Fin 16) (f : Trigger → Trigger) : (s.updTrigger t f).cams = s.cams := rfl
@[simp] theorem State.updTrigger_trunks (s : State) (t : Fin 16) (f : Trigger → Trigger) : (s.updTrigger t f).trunks = s.trunks := rfl
@[simp] theorem State.updTrigger_streams (s : State) (t : Fin 16) (f : Trigger → Trigger) : (s.updTrigger t f).streams = s.streams := rfl
@[simp] theorem State.updTrigger_channels (s : State) (t : Fin 16) (f : Trigger → Trigger) : (s.updTrigger t f).channels = s.channels := rfl
@[simp] theorem State.updTrigger_lenses (s : State) (t : Fin 16) (f : Trigger → Trigger) : (s.updTrigger t f).lenses = s.lenses := rfl
@[simp] theorem State.updTrigger_profiles (s : State) (t : Fin 16) (f : Trigger → Trigger) : (s.updTrigger t f).profiles = s.profiles := rfl
@[simp] theorem State.updTrigger_selector (s : State) (t : Fin 16) (f : Trigger → Trigger) : (s.updTrigger t f).selector = { s.selector with triggers := Tab.upd s.selector.triggers t f } := rfl
@[simp] theorem State.updTrigger_screens (s : State) (t : Fin 16) (f : Trigger → Trigger) : (s.updTrigger t f).screens = s.screens := rfl
@[simp] theorem State.updTrigger_views (s : State) (t : Fin 16) (f : Trigger → Trigger) : (s.updTrigger t f).views = s.views := rfl
@[simp] theorem State.updTrigger_alerts (s : State) (t : Fin 16) (f : Trigger → Trigger) : (s.updTrigger t f).alerts = s.alerts := rfl
@[simp] theorem State.updTrigger_orders (s : State) (t : Fin 16) (f : Trigger → Trigger) : (s.updTrigger t f).orders = s.orders := rfl
@[simp] theorem State.updTrigger_loader (s : State) (t : Fin 16) (f : Trigger → Trigger) : (s.updTrigger t f).loader = s.loader := rfl
@[simp] theorem State.updTrigger_flash (s : State) (t : Fin 16) (f : Trigger → Trigger) : (s.updTrigger t f).flash = s.flash := rfl
@[simp] theorem State.updTrigger_straps (s : State) (t : Fin 16) (f : Trigger → Trigger) : (s.updTrigger t f).straps = s.straps := rfl
@[simp] theorem State.updTrigger_held (s : State) (t : Fin 16) (f : Trigger → Trigger) : (s.updTrigger t f).held = s.held := rfl
@[simp] theorem State.updTrigger_freeUsed (s : State) (t : Fin 16) (f : Trigger → Trigger) : (s.updTrigger t f).freeUsed = s.freeUsed := rfl
@[simp] theorem State.updTrigger_pending (s : State) (t : Fin 16) (f : Trigger → Trigger) : (s.updTrigger t f).pending = s.pending := rfl

@[simp] theorem State.updOrders_cams (s : State) (f : OrderUnit → OrderUnit) : (s.updOrders f).cams = s.cams := rfl
@[simp] theorem State.updOrders_trunks (s : State) (f : OrderUnit → OrderUnit) : (s.updOrders f).trunks = s.trunks := rfl
@[simp] theorem State.updOrders_streams (s : State) (f : OrderUnit → OrderUnit) : (s.updOrders f).streams = s.streams := rfl
@[simp] theorem State.updOrders_channels (s : State) (f : OrderUnit → OrderUnit) : (s.updOrders f).channels = s.channels := rfl
@[simp] theorem State.updOrders_lenses (s : State) (f : OrderUnit → OrderUnit) : (s.updOrders f).lenses = s.lenses := rfl
@[simp] theorem State.updOrders_profiles (s : State) (f : OrderUnit → OrderUnit) : (s.updOrders f).profiles = s.profiles := rfl
@[simp] theorem State.updOrders_selector (s : State) (f : OrderUnit → OrderUnit) : (s.updOrders f).selector = s.selector := rfl
@[simp] theorem State.updOrders_screens (s : State) (f : OrderUnit → OrderUnit) : (s.updOrders f).screens = s.screens := rfl
@[simp] theorem State.updOrders_views (s : State) (f : OrderUnit → OrderUnit) : (s.updOrders f).views = s.views := rfl
@[simp] theorem State.updOrders_alerts (s : State) (f : OrderUnit → OrderUnit) : (s.updOrders f).alerts = s.alerts := rfl
@[simp] theorem State.updOrders_orders (s : State) (f : OrderUnit → OrderUnit) : (s.updOrders f).orders = f s.orders := rfl
@[simp] theorem State.updOrders_loader (s : State) (f : OrderUnit → OrderUnit) : (s.updOrders f).loader = s.loader := rfl
@[simp] theorem State.updOrders_flash (s : State) (f : OrderUnit → OrderUnit) : (s.updOrders f).flash = s.flash := rfl
@[simp] theorem State.updOrders_straps (s : State) (f : OrderUnit → OrderUnit) : (s.updOrders f).straps = s.straps := rfl
@[simp] theorem State.updOrders_held (s : State) (f : OrderUnit → OrderUnit) : (s.updOrders f).held = s.held := rfl
@[simp] theorem State.updOrders_freeUsed (s : State) (f : OrderUnit → OrderUnit) : (s.updOrders f).freeUsed = s.freeUsed := rfl
@[simp] theorem State.updOrders_pending (s : State) (f : OrderUnit → OrderUnit) : (s.updOrders f).pending = s.pending := rfl

@[simp] theorem State.updHub_cams (s : State) (f : HubRecord → HubRecord) : (s.updHub f).cams = s.cams := rfl
@[simp] theorem State.updHub_trunks (s : State) (f : HubRecord → HubRecord) : (s.updHub f).trunks = s.trunks := rfl
@[simp] theorem State.updHub_streams (s : State) (f : HubRecord → HubRecord) : (s.updHub f).streams = s.streams := rfl
@[simp] theorem State.updHub_channels (s : State) (f : HubRecord → HubRecord) : (s.updHub f).channels = s.channels := rfl
@[simp] theorem State.updHub_lenses (s : State) (f : HubRecord → HubRecord) : (s.updHub f).lenses = s.lenses := rfl
@[simp] theorem State.updHub_profiles (s : State) (f : HubRecord → HubRecord) : (s.updHub f).profiles = s.profiles := rfl
@[simp] theorem State.updHub_selector (s : State) (f : HubRecord → HubRecord) : (s.updHub f).selector = s.selector := rfl
@[simp] theorem State.updHub_screens (s : State) (f : HubRecord → HubRecord) : (s.updHub f).screens = s.screens := rfl
@[simp] theorem State.updHub_views (s : State) (f : HubRecord → HubRecord) : (s.updHub f).views = s.views := rfl
@[simp] theorem State.updHub_alerts (s : State) (f : HubRecord → HubRecord) : (s.updHub f).alerts = s.alerts := rfl
@[simp] theorem State.updHub_orders (s : State) (f : HubRecord → HubRecord) : (s.updHub f).orders = { s.orders with hub := f s.orders.hub } := rfl
@[simp] theorem State.updHub_loader (s : State) (f : HubRecord → HubRecord) : (s.updHub f).loader = s.loader := rfl
@[simp] theorem State.updHub_flash (s : State) (f : HubRecord → HubRecord) : (s.updHub f).flash = s.flash := rfl
@[simp] theorem State.updHub_straps (s : State) (f : HubRecord → HubRecord) : (s.updHub f).straps = s.straps := rfl
@[simp] theorem State.updHub_held (s : State) (f : HubRecord → HubRecord) : (s.updHub f).held = s.held := rfl
@[simp] theorem State.updHub_freeUsed (s : State) (f : HubRecord → HubRecord) : (s.updHub f).freeUsed = s.freeUsed := rfl
@[simp] theorem State.updHub_pending (s : State) (f : HubRecord → HubRecord) : (s.updHub f).pending = s.pending := rfl

@[simp] theorem State.offer_cams (s : State) (n : Notice) : (s.offer n).cams = s.cams := rfl
@[simp] theorem State.offer_trunks (s : State) (n : Notice) : (s.offer n).trunks = s.trunks := rfl
@[simp] theorem State.offer_streams (s : State) (n : Notice) : (s.offer n).streams = s.streams := rfl
@[simp] theorem State.offer_channels (s : State) (n : Notice) : (s.offer n).channels = s.channels := rfl
@[simp] theorem State.offer_lenses (s : State) (n : Notice) : (s.offer n).lenses = s.lenses := rfl
@[simp] theorem State.offer_profiles (s : State) (n : Notice) : (s.offer n).profiles = s.profiles := rfl
@[simp] theorem State.offer_selector (s : State) (n : Notice) : (s.offer n).selector = s.selector := rfl
@[simp] theorem State.offer_screens (s : State) (n : Notice) : (s.offer n).screens = s.screens := rfl
@[simp] theorem State.offer_views (s : State) (n : Notice) : (s.offer n).views = s.views := rfl
@[simp] theorem State.offer_alerts (s : State) (n : Notice) : (s.offer n).alerts = s.alerts := rfl
@[simp] theorem State.offer_orders (s : State) (n : Notice) : (s.offer n).orders = s.orders.offer n := rfl
@[simp] theorem State.offer_loader (s : State) (n : Notice) : (s.offer n).loader = s.loader := rfl
@[simp] theorem State.offer_flash (s : State) (n : Notice) : (s.offer n).flash = s.flash := rfl
@[simp] theorem State.offer_straps (s : State) (n : Notice) : (s.offer n).straps = s.straps := rfl
@[simp] theorem State.offer_held (s : State) (n : Notice) : (s.offer n).held = s.held := rfl
@[simp] theorem State.offer_freeUsed (s : State) (n : Notice) : (s.offer n).freeUsed = s.freeUsed := rfl
@[simp] theorem State.offer_pending (s : State) (n : Notice) : (s.offer n).pending = s.pending := rfl

@[simp] theorem State.setPhase_cams (s : State) (p : LoadPhase) : (s.setPhase p).cams = s.cams := rfl
@[simp] theorem State.setPhase_trunks (s : State) (p : LoadPhase) : (s.setPhase p).trunks = s.trunks := rfl
@[simp] theorem State.setPhase_streams (s : State) (p : LoadPhase) : (s.setPhase p).streams = s.streams := rfl
@[simp] theorem State.setPhase_channels (s : State) (p : LoadPhase) : (s.setPhase p).channels = s.channels := rfl
@[simp] theorem State.setPhase_lenses (s : State) (p : LoadPhase) : (s.setPhase p).lenses = s.lenses := rfl
@[simp] theorem State.setPhase_profiles (s : State) (p : LoadPhase) : (s.setPhase p).profiles = s.profiles := rfl
@[simp] theorem State.setPhase_selector (s : State) (p : LoadPhase) : (s.setPhase p).selector = s.selector := rfl
@[simp] theorem State.setPhase_screens (s : State) (p : LoadPhase) : (s.setPhase p).screens = s.screens := rfl
@[simp] theorem State.setPhase_views (s : State) (p : LoadPhase) : (s.setPhase p).views = s.views := rfl
@[simp] theorem State.setPhase_alerts (s : State) (p : LoadPhase) : (s.setPhase p).alerts = s.alerts := rfl
@[simp] theorem State.setPhase_orders (s : State) (p : LoadPhase) : (s.setPhase p).orders = s.orders := rfl
@[simp] theorem State.setPhase_loader (s : State) (p : LoadPhase) : (s.setPhase p).loader = { s.loader with phase := p } := rfl
@[simp] theorem State.setPhase_flash (s : State) (p : LoadPhase) : (s.setPhase p).flash = s.flash := rfl
@[simp] theorem State.setPhase_straps (s : State) (p : LoadPhase) : (s.setPhase p).straps = s.straps := rfl
@[simp] theorem State.setPhase_held (s : State) (p : LoadPhase) : (s.setPhase p).held = s.held := rfl
@[simp] theorem State.setPhase_freeUsed (s : State) (p : LoadPhase) : (s.setPhase p).freeUsed = s.freeUsed := rfl
@[simp] theorem State.setPhase_pending (s : State) (p : LoadPhase) : (s.setPhase p).pending = s.pending := rfl

@[simp] theorem State.setJob_cams (s : State) (j : Option SaveJob) : (s.setJob j).cams = s.cams := rfl
@[simp] theorem State.setJob_trunks (s : State) (j : Option SaveJob) : (s.setJob j).trunks = s.trunks := rfl
@[simp] theorem State.setJob_streams (s : State) (j : Option SaveJob) : (s.setJob j).streams = s.streams := rfl
@[simp] theorem State.setJob_channels (s : State) (j : Option SaveJob) : (s.setJob j).channels = s.channels := rfl
@[simp] theorem State.setJob_lenses (s : State) (j : Option SaveJob) : (s.setJob j).lenses = s.lenses := rfl
@[simp] theorem State.setJob_profiles (s : State) (j : Option SaveJob) : (s.setJob j).profiles = s.profiles := rfl
@[simp] theorem State.setJob_selector (s : State) (j : Option SaveJob) : (s.setJob j).selector = s.selector := rfl
@[simp] theorem State.setJob_screens (s : State) (j : Option SaveJob) : (s.setJob j).screens = s.screens := rfl
@[simp] theorem State.setJob_views (s : State) (j : Option SaveJob) : (s.setJob j).views = s.views := rfl
@[simp] theorem State.setJob_alerts (s : State) (j : Option SaveJob) : (s.setJob j).alerts = s.alerts := rfl
@[simp] theorem State.setJob_orders (s : State) (j : Option SaveJob) : (s.setJob j).orders = s.orders := rfl
@[simp] theorem State.setJob_loader (s : State) (j : Option SaveJob) : (s.setJob j).loader = { s.loader with job := j } := rfl
@[simp] theorem State.setJob_flash (s : State) (j : Option SaveJob) : (s.setJob j).flash = s.flash := rfl
@[simp] theorem State.setJob_straps (s : State) (j : Option SaveJob) : (s.setJob j).straps = s.straps := rfl
@[simp] theorem State.setJob_held (s : State) (j : Option SaveJob) : (s.setJob j).held = s.held := rfl
@[simp] theorem State.setJob_freeUsed (s : State) (j : Option SaveJob) : (s.setJob j).freeUsed = s.freeUsed := rfl
@[simp] theorem State.setJob_pending (s : State) (j : Option SaveJob) : (s.setJob j).pending = s.pending := rfl

@[simp] theorem State.tick_streams (s : State) : (s.tick).streams = s.streams := rfl
@[simp] theorem State.tick_lenses (s : State) : (s.tick).lenses = s.lenses := rfl
@[simp] theorem State.tick_profiles (s : State) : (s.tick).profiles = s.profiles := rfl
@[simp] theorem State.tick_views (s : State) : (s.tick).views = s.views := rfl
@[simp] theorem State.tick_flash (s : State) : (s.tick).flash = s.flash := rfl
@[simp] theorem State.tick_straps (s : State) : (s.tick).straps = s.straps := rfl
@[simp] theorem State.tick_held (s : State) : (s.tick).held = s.held := rfl
@[simp] theorem State.tick_freeUsed (s : State) : (s.tick).freeUsed = s.freeUsed := rfl
@[simp] theorem State.tick_pending (s : State) : (s.tick).pending = s.pending := rfl

@[simp] theorem State.updRx_streams (s : State) (p : Port) (f : Receiver → Receiver) : (s.updRx p f).streams = s.streams := by cases p <;> rfl
@[simp] theorem State.updRx_channels (s : State) (p : Port) (f : Receiver → Receiver) : (s.updRx p f).channels = s.channels := by cases p <;> rfl
@[simp] theorem State.updRx_lenses (s : State) (p : Port) (f : Receiver → Receiver) : (s.updRx p f).lenses = s.lenses := by cases p <;> rfl
@[simp] theorem State.updRx_profiles (s : State) (p : Port) (f : Receiver → Receiver) : (s.updRx p f).profiles = s.profiles := by cases p <;> rfl
@[simp] theorem State.updRx_selector (s : State) (p : Port) (f : Receiver → Receiver) : (s.updRx p f).selector = s.selector := by cases p <;> rfl
@[simp] theorem State.updRx_screens (s : State) (p : Port) (f : Receiver → Receiver) : (s.updRx p f).screens = s.screens := by cases p <;> rfl
@[simp] theorem State.updRx_views (s : State) (p : Port) (f : Receiver → Receiver) : (s.updRx p f).views = s.views := by cases p <;> rfl
@[simp] theorem State.updRx_alerts (s : State) (p : Port) (f : Receiver → Receiver) : (s.updRx p f).alerts = s.alerts := by cases p <;> rfl
@[simp] theorem State.updRx_orders (s : State) (p : Port) (f : Receiver → Receiver) : (s.updRx p f).orders = s.orders := by cases p <;> rfl
@[simp] theorem State.updRx_loader (s : State) (p : Port) (f : Receiver → Receiver) : (s.updRx p f).loader = s.loader := by cases p <;> rfl
@[simp] theorem State.updRx_flash (s : State) (p : Port) (f : Receiver → Receiver) : (s.updRx p f).flash = s.flash := by cases p <;> rfl
@[simp] theorem State.updRx_straps (s : State) (p : Port) (f : Receiver → Receiver) : (s.updRx p f).straps = s.straps := by cases p <;> rfl
@[simp] theorem State.updRx_held (s : State) (p : Port) (f : Receiver → Receiver) : (s.updRx p f).held = s.held := by cases p <;> rfl
@[simp] theorem State.updRx_freeUsed (s : State) (p : Port) (f : Receiver → Receiver) : (s.updRx p f).freeUsed = s.freeUsed := by cases p <;> rfl
@[simp] theorem State.updRx_pending (s : State) (p : Port) (f : Receiver → Receiver) : (s.updRx p f).pending = s.pending := by cases p <;> rfl

@[simp] theorem State.updArrivals_streams (s : State) (p : Port) (f : ArrivalCounters → ArrivalCounters) : (s.updArrivals p f).streams = s.streams := by cases p <;> rfl
@[simp] theorem State.updArrivals_channels (s : State) (p : Port) (f : ArrivalCounters → ArrivalCounters) : (s.updArrivals p f).channels = s.channels := by cases p <;> rfl
@[simp] theorem State.updArrivals_lenses (s : State) (p : Port) (f : ArrivalCounters → ArrivalCounters) : (s.updArrivals p f).lenses = s.lenses := by cases p <;> rfl
@[simp] theorem State.updArrivals_profiles (s : State) (p : Port) (f : ArrivalCounters → ArrivalCounters) : (s.updArrivals p f).profiles = s.profiles := by cases p <;> rfl
@[simp] theorem State.updArrivals_selector (s : State) (p : Port) (f : ArrivalCounters → ArrivalCounters) : (s.updArrivals p f).selector = s.selector := by cases p <;> rfl
@[simp] theorem State.updArrivals_screens (s : State) (p : Port) (f : ArrivalCounters → ArrivalCounters) : (s.updArrivals p f).screens = s.screens := by cases p <;> rfl
@[simp] theorem State.updArrivals_views (s : State) (p : Port) (f : ArrivalCounters → ArrivalCounters) : (s.updArrivals p f).views = s.views := by cases p <;> rfl
@[simp] theorem State.updArrivals_alerts (s : State) (p : Port) (f : ArrivalCounters → ArrivalCounters) : (s.updArrivals p f).alerts = s.alerts := by cases p <;> rfl
@[simp] theorem State.updArrivals_orders (s : State) (p : Port) (f : ArrivalCounters → ArrivalCounters) : (s.updArrivals p f).orders = s.orders := by cases p <;> rfl
@[simp] theorem State.updArrivals_loader (s : State) (p : Port) (f : ArrivalCounters → ArrivalCounters) : (s.updArrivals p f).loader = s.loader := by cases p <;> rfl
@[simp] theorem State.updArrivals_flash (s : State) (p : Port) (f : ArrivalCounters → ArrivalCounters) : (s.updArrivals p f).flash = s.flash := by cases p <;> rfl
@[simp] theorem State.updArrivals_straps (s : State) (p : Port) (f : ArrivalCounters → ArrivalCounters) : (s.updArrivals p f).straps = s.straps := by cases p <;> rfl
@[simp] theorem State.updArrivals_held (s : State) (p : Port) (f : ArrivalCounters → ArrivalCounters) : (s.updArrivals p f).held = s.held := by cases p <;> rfl
@[simp] theorem State.updArrivals_freeUsed (s : State) (p : Port) (f : ArrivalCounters → ArrivalCounters) : (s.updArrivals p f).freeUsed = s.freeUsed := by cases p <;> rfl
@[simp] theorem State.updArrivals_pending (s : State) (p : Port) (f : ArrivalCounters → ArrivalCounters) : (s.updArrivals p f).pending = s.pending := by cases p <;> rfl

end Machine
end Sys2Proof
end

