-- ==== Sys2Proof/Laws/Frames.lean ====
section
/-! SUPPORT. What each shared operation leaves as it is: one lemma for each operation, naming every field of the state it does not
touch. Tagged simp, so that no later proof unfolds the operation for its frame. -/

namespace Sys2Proof.Machine

/-- A fold keeps what each of its steps keeps. -/
theorem foldl_keeps {α β γ : Type} (g : α → γ) (f : α → β → α) (h : ∀ a b, g (f a b) = g a) (l : List β) (a : α) :
    g (l.foldl f a) = g a := by
  induction l generalizing a with
  | nil => rfl
  | cons b rest ih => rw [List.foldl_cons, ih, h]

/-! ## Notices and alerts (spec 08, 09) -/

@[simp] theorem State.offerIf_frame (s : State) (b : Bool) (n : Notice) :
    (s.offerIf b n).cams = s.cams ∧ (s.offerIf b n).trunks = s.trunks ∧ (s.offerIf b n).streams = s.streams ∧
    (s.offerIf b n).channels = s.channels ∧ (s.offerIf b n).lenses = s.lenses ∧ (s.offerIf b n).profiles = s.profiles ∧
    (s.offerIf b n).selector = s.selector ∧ (s.offerIf b n).screens = s.screens ∧ (s.offerIf b n).views = s.views ∧
    (s.offerIf b n).alerts = s.alerts ∧ (s.offerIf b n).loader = s.loader ∧ (s.offerIf b n).flash = s.flash ∧
    (s.offerIf b n).straps = s.straps ∧ (s.offerIf b n).held = s.held ∧ (s.offerIf b n).freeUsed = s.freeUsed ∧
    (s.offerIf b n).pending = s.pending := by cases b <;> simp [State.offerIf]

@[simp] theorem State.evalAlertsWhere_frame (s : State) (member : AlertSettings → Bool) :
    (s.evalAlertsWhere member).cams = s.cams ∧ (s.evalAlertsWhere member).trunks = s.trunks ∧
    (s.evalAlertsWhere member).streams = s.streams ∧ (s.evalAlertsWhere member).channels = s.channels ∧
    (s.evalAlertsWhere member).lenses = s.lenses ∧ (s.evalAlertsWhere member).profiles = s.profiles ∧
    (s.evalAlertsWhere member).selector = s.selector ∧ (s.evalAlertsWhere member).screens = s.screens ∧
    (s.evalAlertsWhere member).views = s.views ∧ (s.evalAlertsWhere member).orders = s.orders ∧
    (s.evalAlertsWhere member).loader = s.loader ∧ (s.evalAlertsWhere member).flash = s.flash ∧
    (s.evalAlertsWhere member).straps = s.straps ∧ (s.evalAlertsWhere member).held = s.held ∧
    (s.evalAlertsWhere member).freeUsed = s.freeUsed ∧ (s.evalAlertsWhere member).pending = s.pending := by
  simp [State.evalAlertsWhere]

@[simp] theorem State.alertsOfChannel_frame (s : State) (c : Fin 12) :
    (s.alertsOfChannel c).cams = s.cams ∧ (s.alertsOfChannel c).trunks = s.trunks ∧ (s.alertsOfChannel c).streams = s.streams ∧
    (s.alertsOfChannel c).channels = s.channels ∧ (s.alertsOfChannel c).lenses = s.lenses ∧
    (s.alertsOfChannel c).profiles = s.profiles ∧ (s.alertsOfChannel c).selector = s.selector ∧
    (s.alertsOfChannel c).screens = s.screens ∧ (s.alertsOfChannel c).views = s.views ∧
    (s.alertsOfChannel c).orders = s.orders ∧ (s.alertsOfChannel c).loader = s.loader ∧ (s.alertsOfChannel c).flash = s.flash ∧
    (s.alertsOfChannel c).straps = s.straps ∧ (s.alertsOfChannel c).held = s.held ∧
    (s.alertsOfChannel c).freeUsed = s.freeUsed ∧ (s.alertsOfChannel c).pending = s.pending := by
  simp [State.alertsOfChannel]

@[simp] theorem State.alertsOfPort_frame (s : State) (i : Fin 8) :
    (s.alertsOfPort i).cams = s.cams ∧ (s.alertsOfPort i).trunks = s.trunks ∧ (s.alertsOfPort i).streams = s.streams ∧
    (s.alertsOfPort i).channels = s.channels ∧ (s.alertsOfPort i).lenses = s.lenses ∧
    (s.alertsOfPort i).profiles = s.profiles ∧ (s.alertsOfPort i).selector = s.selector ∧
    (s.alertsOfPort i).screens = s.screens ∧ (s.alertsOfPort i).views = s.views ∧ (s.alertsOfPort i).orders = s.orders ∧
    (s.alertsOfPort i).loader = s.loader ∧ (s.alertsOfPort i).flash = s.flash ∧ (s.alertsOfPort i).straps = s.straps ∧
    (s.alertsOfPort i).held = s.held ∧ (s.alertsOfPort i).freeUsed = s.freeUsed ∧ (s.alertsOfPort i).pending = s.pending := by
  simp [State.alertsOfPort]

@[simp] theorem State.channelEvent_frame (s : State) (c : Fin 12) (f : Channel → Channel) :
    (s.channelEvent c f).cams = s.cams ∧ (s.channelEvent c f).trunks = s.trunks ∧ (s.channelEvent c f).streams = s.streams ∧
    (s.channelEvent c f).lenses = s.lenses ∧ (s.channelEvent c f).profiles = s.profiles ∧
    (s.channelEvent c f).selector = s.selector ∧ (s.channelEvent c f).screens = s.screens ∧
    (s.channelEvent c f).views = s.views ∧ (s.channelEvent c f).loader = s.loader ∧ (s.channelEvent c f).flash = s.flash ∧
    (s.channelEvent c f).straps = s.straps ∧ (s.channelEvent c f).held = s.held ∧ (s.channelEvent c f).freeUsed = s.freeUsed ∧
    (s.channelEvent c f).pending = s.pending := by
  unfold State.channelEvent
  dsimp only
  (repeat' split) <;> simp

/-! ## Trunk outputs (spec 02) -/

@[simp] theorem State.countQueueCuts_frame (s : State) (t : Trunk) (n : Nat) :
    (s.countQueueCuts t n).cams = s.cams ∧ (s.countQueueCuts t n).streams = s.streams ∧
    (s.countQueueCuts t n).channels = s.channels ∧ (s.countQueueCuts t n).lenses = s.lenses ∧
    (s.countQueueCuts t n).profiles = s.profiles ∧ (s.countQueueCuts t n).selector = s.selector ∧
    (s.countQueueCuts t n).screens = s.screens ∧ (s.countQueueCuts t n).views = s.views ∧
    (s.countQueueCuts t n).alerts = s.alerts ∧ (s.countQueueCuts t n).orders = s.orders ∧
    (s.countQueueCuts t n).loader = s.loader ∧ (s.countQueueCuts t n).flash = s.flash ∧
    (s.countQueueCuts t n).straps = s.straps ∧ (s.countQueueCuts t n).held = s.held ∧
    (s.countQueueCuts t n).freeUsed = s.freeUsed ∧ (s.countQueueCuts t n).pending = s.pending := by
  simp [State.countQueueCuts]

@[simp] theorem State.setCut_frame (s : State) (t : Trunk) (k : Fin 256) :
    (s.setCut t k).cams = s.cams ∧ (s.setCut t k).trunks = s.trunks ∧ (s.setCut t k).channels = s.channels ∧
    (s.setCut t k).lenses = s.lenses ∧ (s.setCut t k).profiles = s.profiles ∧ (s.setCut t k).selector = s.selector ∧
    (s.setCut t k).screens = s.screens ∧ (s.setCut t k).views = s.views ∧ (s.setCut t k).alerts = s.alerts ∧
    (s.setCut t k).orders = s.orders ∧ (s.setCut t k).loader = s.loader ∧ (s.setCut t k).flash = s.flash ∧
    (s.setCut t k).straps = s.straps ∧ (s.setCut t k).held = s.held ∧ (s.setCut t k).freeUsed = s.freeUsed ∧
    (s.setCut t k).pending = s.pending := by
  simp [State.setCut]

@[simp] theorem State.enqueueMgmt_frame (s : State) (t : Trunk) (e : MgmtEntry) :
    (s.enqueueMgmt t e).cams = s.cams ∧ (s.enqueueMgmt t e).streams = s.streams ∧ (s.enqueueMgmt t e).channels = s.channels ∧
    (s.enqueueMgmt t e).lenses = s.lenses ∧ (s.enqueueMgmt t e).profiles = s.profiles ∧
    (s.enqueueMgmt t e).selector = s.selector ∧ (s.enqueueMgmt t e).screens = s.screens ∧ (s.enqueueMgmt t e).views = s.views ∧
    (s.enqueueMgmt t e).alerts = s.alerts ∧ (s.enqueueMgmt t e).orders = s.orders ∧ (s.enqueueMgmt t e).loader = s.loader ∧
    (s.enqueueMgmt t e).flash = s.flash ∧ (s.enqueueMgmt t e).straps = s.straps ∧ (s.enqueueMgmt t e).held = s.held ∧
    (s.enqueueMgmt t e).freeUsed = s.freeUsed ∧ (s.enqueueMgmt t e).pending = s.pending := by
  simp [State.enqueueMgmt]

@[simp] theorem State.offerMgmt_frame (s : State) (t : Trunk) (e : MgmtEntry) :
    (s.offerMgmt t e).cams = s.cams ∧ (s.offerMgmt t e).streams = s.streams ∧ (s.offerMgmt t e).channels = s.channels ∧
    (s.offerMgmt t e).lenses = s.lenses ∧ (s.offerMgmt t e).profiles = s.profiles ∧ (s.offerMgmt t e).selector = s.selector ∧
    (s.offerMgmt t e).screens = s.screens ∧ (s.offerMgmt t e).views = s.views ∧ (s.offerMgmt t e).alerts = s.alerts ∧
    (s.offerMgmt t e).orders = s.orders ∧ (s.offerMgmt t e).loader = s.loader ∧ (s.offerMgmt t e).flash = s.flash ∧
    (s.offerMgmt t e).straps = s.straps ∧ (s.offerMgmt t e).held = s.held ∧ (s.offerMgmt t e).freeUsed = s.freeUsed ∧
    (s.offerMgmt t e).pending = s.pending := by
  unfold State.offerMgmt
  (repeat' split) <;> simp

@[simp] theorem State.forward_frame (s : State) (a t : Trunk) (e : MgmtEntry) :
    (s.forward a t e).cams = s.cams ∧ (s.forward a t e).streams = s.streams ∧ (s.forward a t e).channels = s.channels ∧
    (s.forward a t e).lenses = s.lenses ∧ (s.forward a t e).profiles = s.profiles ∧ (s.forward a t e).selector = s.selector ∧
    (s.forward a t e).screens = s.screens ∧ (s.forward a t e).views = s.views ∧ (s.forward a t e).alerts = s.alerts ∧
    (s.forward a t e).orders = s.orders ∧ (s.forward a t e).loader = s.loader ∧ (s.forward a t e).flash = s.flash ∧
    (s.forward a t e).straps = s.straps ∧ (s.forward a t e).held = s.held ∧ (s.forward a t e).freeUsed = s.freeUsed ∧
    (s.forward a t e).pending = s.pending := by
  unfold State.forward
  (repeat' split) <;> simp

@[simp] theorem State.sendControl_frame (s : State) (t : Trunk) (k : Fin 256) (p : Packet) :
    (s.sendControl t k p).cams = s.cams ∧ (s.sendControl t k p).streams = s.streams ∧
    (s.sendControl t k p).channels = s.channels ∧ (s.sendControl t k p).lenses = s.lenses ∧
    (s.sendControl t k p).profiles = s.profiles ∧ (s.sendControl t k p).selector = s.selector ∧
    (s.sendControl t k p).screens = s.screens ∧ (s.sendControl t k p).views = s.views ∧
    (s.sendControl t k p).alerts = s.alerts ∧ (s.sendControl t k p).orders = s.orders ∧
    (s.sendControl t k p).loader = s.loader ∧ (s.sendControl t k p).flash = s.flash ∧ (s.sendControl t k p).straps = s.straps ∧
    (s.sendControl t k p).held = s.held ∧ (s.sendControl t k p).freeUsed = s.freeUsed ∧
    (s.sendControl t k p).pending = s.pending := by
  unfold State.sendControl
  dsimp only
  (repeat' split) <;> simp

@[simp] theorem State.offerLine_frame (s : State) (t : Trunk) (k : Fin 256) (p : Packet) :
    (s.offerLine t k p).cams = s.cams ∧ (s.offerLine t k p).channels = s.channels ∧ (s.offerLine t k p).lenses = s.lenses ∧
    (s.offerLine t k p).profiles = s.profiles ∧ (s.offerLine t k p).selector = s.selector ∧
    (s.offerLine t k p).screens = s.screens ∧ (s.offerLine t k p).views = s.views ∧ (s.offerLine t k p).alerts = s.alerts ∧
    (s.offerLine t k p).orders = s.orders ∧ (s.offerLine t k p).loader = s.loader ∧ (s.offerLine t k p).flash = s.flash ∧
    (s.offerLine t k p).straps = s.straps ∧ (s.offerLine t k p).held = s.held ∧ (s.offerLine t k p).freeUsed = s.freeUsed ∧
    (s.offerLine t k p).pending = s.pending := by
  unfold State.offerLine
  (repeat' split) <;> simp

@[simp] theorem State.endTransmission_frame (s : State) (t : Trunk) (tx : Transmission) :
    (s.endTransmission t tx).cams = s.cams ∧ (s.endTransmission t tx).streams = s.streams ∧
    (s.endTransmission t tx).channels = s.channels ∧ (s.endTransmission t tx).lenses = s.lenses ∧
    (s.endTransmission t tx).profiles = s.profiles ∧ (s.endTransmission t tx).selector = s.selector ∧
    (s.endTransmission t tx).screens = s.screens ∧ (s.endTransmission t tx).views = s.views ∧
    (s.endTransmission t tx).alerts = s.alerts ∧ (s.endTransmission t tx).orders = s.orders ∧
    (s.endTransmission t tx).loader = s.loader ∧ (s.endTransmission t tx).flash = s.flash ∧
    (s.endTransmission t tx).straps = s.straps ∧ (s.endTransmission t tx).held = s.held ∧
    (s.endTransmission t tx).freeUsed = s.freeUsed ∧ (s.endTransmission t tx).pending = s.pending := by
  simp [State.endTransmission]

@[simp] theorem State.transmissionEnd_frame (s : State) (t : Trunk) :
    (s.transmissionEnd t).cams = s.cams ∧ (s.transmissionEnd t).streams = s.streams ∧
    (s.transmissionEnd t).channels = s.channels ∧ (s.transmissionEnd t).lenses = s.lenses ∧
    (s.transmissionEnd t).profiles = s.profiles ∧ (s.transmissionEnd t).selector = s.selector ∧
    (s.transmissionEnd t).screens = s.screens ∧ (s.transmissionEnd t).views = s.views ∧
    (s.transmissionEnd t).alerts = s.alerts ∧ (s.transmissionEnd t).orders = s.orders ∧
    (s.transmissionEnd t).loader = s.loader ∧ (s.transmissionEnd t).flash = s.flash ∧ (s.transmissionEnd t).straps = s.straps ∧
    (s.transmissionEnd t).held = s.held ∧ (s.transmissionEnd t).freeUsed = s.freeUsed ∧
    (s.transmissionEnd t).pending = s.pending := by
  unfold State.transmissionEnd
  (repeat' split) <;> simp

@[simp] theorem State.outputLinkDown_frame (s : State) (t : Trunk) :
    (s.outputLinkDown t).cams = s.cams ∧ (s.outputLinkDown t).channels = s.channels ∧ (s.outputLinkDown t).lenses = s.lenses ∧
    (s.outputLinkDown t).profiles = s.profiles ∧ (s.outputLinkDown t).selector = s.selector ∧
    (s.outputLinkDown t).screens = s.screens ∧ (s.outputLinkDown t).views = s.views ∧ (s.outputLinkDown t).alerts = s.alerts ∧
    (s.outputLinkDown t).orders = s.orders ∧ (s.outputLinkDown t).loader = s.loader ∧ (s.outputLinkDown t).flash = s.flash ∧
    (s.outputLinkDown t).straps = s.straps ∧ (s.outputLinkDown t).held = s.held ∧ (s.outputLinkDown t).freeUsed = s.freeUsed ∧
    (s.outputLinkDown t).pending = s.pending := by
  simp [State.outputLinkDown]

/-! ## Stream switch (spec 02) -/

@[simp] theorem State.sendIfRouted_frame (s : State) (e : StreamEntry) (t : Trunk) (k : Fin 256) (p : Packet) :
    (s.sendIfRouted e t k p).cams = s.cams ∧ (s.sendIfRouted e t k p).streams = s.streams ∧
    (s.sendIfRouted e t k p).channels = s.channels ∧ (s.sendIfRouted e t k p).lenses = s.lenses ∧
    (s.sendIfRouted e t k p).profiles = s.profiles ∧ (s.sendIfRouted e t k p).selector = s.selector ∧
    (s.sendIfRouted e t k p).screens = s.screens ∧ (s.sendIfRouted e t k p).views = s.views ∧
    (s.sendIfRouted e t k p).alerts = s.alerts ∧ (s.sendIfRouted e t k p).orders = s.orders ∧
    (s.sendIfRouted e t k p).loader = s.loader ∧ (s.sendIfRouted e t k p).flash = s.flash ∧
    (s.sendIfRouted e t k p).straps = s.straps ∧ (s.sendIfRouted e t k p).held = s.held ∧
    (s.sendIfRouted e t k p).freeUsed = s.freeUsed ∧ (s.sendIfRouted e t k p).pending = s.pending := by
  unfold State.sendIfRouted
  (repeat' split) <;> simp

@[simp] theorem State.deliver_frame (s : State) (e : StreamEntry) (f : Channel → Channel) :
    (s.deliver e f).cams = s.cams ∧ (s.deliver e f).trunks = s.trunks ∧ (s.deliver e f).streams = s.streams ∧
    (s.deliver e f).lenses = s.lenses ∧ (s.deliver e f).profiles = s.profiles ∧ (s.deliver e f).selector = s.selector ∧
    (s.deliver e f).screens = s.screens ∧ (s.deliver e f).views = s.views ∧ (s.deliver e f).loader = s.loader ∧
    (s.deliver e f).flash = s.flash ∧ (s.deliver e f).straps = s.straps ∧ (s.deliver e f).held = s.held ∧
    (s.deliver e f).freeUsed = s.freeUsed ∧ (s.deliver e f).pending = s.pending := by
  unfold State.deliver
  (repeat' split) <;> simp

@[simp] theorem State.closeCut_frame (s : State) (k : Fin 256) :
    (s.closeCut k).cams = s.cams ∧ (s.closeCut k).lenses = s.lenses ∧ (s.closeCut k).profiles = s.profiles ∧
    (s.closeCut k).selector = s.selector ∧ (s.closeCut k).screens = s.screens ∧ (s.closeCut k).views = s.views ∧
    (s.closeCut k).loader = s.loader ∧ (s.closeCut k).flash = s.flash ∧ (s.closeCut k).straps = s.straps ∧
    (s.closeCut k).held = s.held ∧ (s.closeCut k).freeUsed = s.freeUsed ∧ (s.closeCut k).pending = s.pending := by
  unfold State.closeCut
  dsimp only
  simp

@[simp] theorem State.closeIfOpen_frame (s : State) (k : Fin 256) :
    (s.closeIfOpen k).cams = s.cams ∧ (s.closeIfOpen k).lenses = s.lenses ∧ (s.closeIfOpen k).profiles = s.profiles ∧
    (s.closeIfOpen k).selector = s.selector ∧ (s.closeIfOpen k).screens = s.screens ∧ (s.closeIfOpen k).views = s.views ∧
    (s.closeIfOpen k).loader = s.loader ∧ (s.closeIfOpen k).flash = s.flash ∧ (s.closeIfOpen k).straps = s.straps ∧
    (s.closeIfOpen k).held = s.held ∧ (s.closeIfOpen k).freeUsed = s.freeUsed ∧ (s.closeIfOpen k).pending = s.pending := by
  unfold State.closeIfOpen
  (repeat' split) <;> simp

@[simp] theorem State.originLoss_frame (s : State) (p : Port) :
    (s.originLoss p).cams = s.cams ∧ (s.originLoss p).lenses = s.lenses ∧ (s.originLoss p).profiles = s.profiles ∧
    (s.originLoss p).selector = s.selector ∧ (s.originLoss p).screens = s.screens ∧ (s.originLoss p).views = s.views ∧
    (s.originLoss p).loader = s.loader ∧ (s.originLoss p).flash = s.flash ∧ (s.originLoss p).straps = s.straps ∧
    (s.originLoss p).held = s.held ∧ (s.originLoss p).freeUsed = s.freeUsed ∧ (s.originLoss p).pending = s.pending :=
  ⟨foldl_keeps State.cams _ (fun s x => by dsimp only; split <;> simp) _ _,
    foldl_keeps State.lenses _ (fun s x => by dsimp only; split <;> simp) _ _,
    foldl_keeps State.profiles _ (fun s x => by dsimp only; split <;> simp) _ _,
    foldl_keeps State.selector _ (fun s x => by dsimp only; split <;> simp) _ _,
    foldl_keeps State.screens _ (fun s x => by dsimp only; split <;> simp) _ _,
    foldl_keeps State.views _ (fun s x => by dsimp only; split <;> simp) _ _,
    foldl_keeps State.loader _ (fun s x => by dsimp only; split <;> simp) _ _,
    foldl_keeps State.flash _ (fun s x => by dsimp only; split <;> simp) _ _,
    foldl_keeps State.straps _ (fun s x => by dsimp only; split <;> simp) _ _,
    foldl_keeps State.held _ (fun s x => by dsimp only; split <;> simp) _ _,
    foldl_keeps State.freeUsed _ (fun s x => by dsimp only; split <;> simp) _ _,
    foldl_keeps State.pending _ (fun s x => by dsimp only; split <;> simp) _ _⟩

@[simp] theorem State.countUnrouted_frame (s : State) (p : Port) :
    (s.countUnrouted p).streams = s.streams ∧ (s.countUnrouted p).channels = s.channels ∧
    (s.countUnrouted p).lenses = s.lenses ∧ (s.countUnrouted p).profiles = s.profiles ∧
    (s.countUnrouted p).selector = s.selector ∧ (s.countUnrouted p).screens = s.screens ∧ (s.countUnrouted p).views = s.views ∧
    (s.countUnrouted p).alerts = s.alerts ∧ (s.countUnrouted p).orders = s.orders ∧ (s.countUnrouted p).loader = s.loader ∧
    (s.countUnrouted p).flash = s.flash ∧ (s.countUnrouted p).straps = s.straps ∧ (s.countUnrouted p).held = s.held ∧
    (s.countUnrouted p).freeUsed = s.freeUsed ∧ (s.countUnrouted p).pending = s.pending := by
  simp [State.countUnrouted]

@[simp] theorem State.countMisrouted_frame (s : State) (p : Port) :
    (s.countMisrouted p).streams = s.streams ∧ (s.countMisrouted p).channels = s.channels ∧
    (s.countMisrouted p).lenses = s.lenses ∧ (s.countMisrouted p).profiles = s.profiles ∧
    (s.countMisrouted p).selector = s.selector ∧ (s.countMisrouted p).screens = s.screens ∧
    (s.countMisrouted p).views = s.views ∧ (s.countMisrouted p).alerts = s.alerts ∧ (s.countMisrouted p).orders = s.orders ∧
    (s.countMisrouted p).loader = s.loader ∧ (s.countMisrouted p).flash = s.flash ∧ (s.countMisrouted p).straps = s.straps ∧
    (s.countMisrouted p).held = s.held ∧ (s.countMisrouted p).freeUsed = s.freeUsed ∧
    (s.countMisrouted p).pending = s.pending := by
  simp [State.countMisrouted]

@[simp] theorem State.countStray_frame (s : State) (p : Port) :
    (s.countStray p).streams = s.streams ∧ (s.countStray p).channels = s.channels ∧ (s.countStray p).lenses = s.lenses ∧
    (s.countStray p).profiles = s.profiles ∧ (s.countStray p).selector = s.selector ∧ (s.countStray p).screens = s.screens ∧
    (s.countStray p).views = s.views ∧ (s.countStray p).alerts = s.alerts ∧ (s.countStray p).orders = s.orders ∧
    (s.countStray p).loader = s.loader ∧ (s.countStray p).flash = s.flash ∧ (s.countStray p).straps = s.straps ∧
    (s.countStray p).held = s.held ∧ (s.countStray p).freeUsed = s.freeUsed ∧ (s.countStray p).pending = s.pending := by
  simp [State.countStray]

@[simp] theorem State.routeFrameOpen_frame (s : State) (k : Fin 256) (frame : Nat) (grade : Grade) (home : Nat) :
    (s.routeFrameOpen k frame grade home).cams = s.cams ∧ (s.routeFrameOpen k frame grade home).lenses = s.lenses ∧
    (s.routeFrameOpen k frame grade home).profiles = s.profiles ∧ (s.routeFrameOpen k frame grade home).selector = s.selector ∧
    (s.routeFrameOpen k frame grade home).screens = s.screens ∧ (s.routeFrameOpen k frame grade home).views = s.views ∧
    (s.routeFrameOpen k frame grade home).loader = s.loader ∧ (s.routeFrameOpen k frame grade home).flash = s.flash ∧
    (s.routeFrameOpen k frame grade home).straps = s.straps ∧ (s.routeFrameOpen k frame grade home).held = s.held ∧
    (s.routeFrameOpen k frame grade home).freeUsed = s.freeUsed ∧ (s.routeFrameOpen k frame grade home).pending = s.pending := by
  unfold State.routeFrameOpen
  dsimp only
  simp

@[simp] theorem State.switchFrameOpen_frame (s : State) (p : Port) (k : Fin 256) (frame : Nat) (grade : Grade) (home : Nat) :
    (s.switchFrameOpen p k frame grade home).lenses = s.lenses ∧
    (s.switchFrameOpen p k frame grade home).profiles = s.profiles ∧
    (s.switchFrameOpen p k frame grade home).selector = s.selector ∧
    (s.switchFrameOpen p k frame grade home).screens = s.screens ∧ (s.switchFrameOpen p k frame grade home).views = s.views ∧
    (s.switchFrameOpen p k frame grade home).loader = s.loader ∧ (s.switchFrameOpen p k frame grade home).flash = s.flash ∧
    (s.switchFrameOpen p k frame grade home).straps = s.straps ∧ (s.switchFrameOpen p k frame grade home).held = s.held ∧
    (s.switchFrameOpen p k frame grade home).freeUsed = s.freeUsed ∧
    (s.switchFrameOpen p k frame grade home).pending = s.pending := by
  unfold State.switchFrameOpen
  (repeat' split) <;> simp

@[simp] theorem State.routeFrameClose_frame (s : State) (k : Fin 256) (frame : Nat) (status : CloseStatus) :
    (s.routeFrameClose k frame status).cams = s.cams ∧ (s.routeFrameClose k frame status).lenses = s.lenses ∧
    (s.routeFrameClose k frame status).profiles = s.profiles ∧ (s.routeFrameClose k frame status).selector = s.selector ∧
    (s.routeFrameClose k frame status).screens = s.screens ∧ (s.routeFrameClose k frame status).views = s.views ∧
    (s.routeFrameClose k frame status).loader = s.loader ∧ (s.routeFrameClose k frame status).flash = s.flash ∧
    (s.routeFrameClose k frame status).straps = s.straps ∧ (s.routeFrameClose k frame status).held = s.held ∧
    (s.routeFrameClose k frame status).freeUsed = s.freeUsed ∧ (s.routeFrameClose k frame status).pending = s.pending := by
  unfold State.routeFrameClose
  dsimp only
  simp

@[simp] theorem State.switchFrameClose_frame (s : State) (p : Port) (k : Fin 256) (frame : Nat) (status : CloseStatus) :
    (s.switchFrameClose p k frame status).lenses = s.lenses ∧ (s.switchFrameClose p k frame status).profiles = s.profiles ∧
    (s.switchFrameClose p k frame status).selector = s.selector ∧ (s.switchFrameClose p k frame status).screens = s.screens ∧
    (s.switchFrameClose p k frame status).views = s.views ∧ (s.switchFrameClose p k frame status).loader = s.loader ∧
    (s.switchFrameClose p k frame status).flash = s.flash ∧ (s.switchFrameClose p k frame status).straps = s.straps ∧
    (s.switchFrameClose p k frame status).held = s.held ∧ (s.switchFrameClose p k frame status).freeUsed = s.freeUsed ∧
    (s.switchFrameClose p k frame status).pending = s.pending := by
  unfold State.switchFrameClose
  dsimp only
  (repeat' split) <;> simp

@[simp] theorem State.applyDecision_frame (s : State) (p : Port) (k : Fin 256) (t : Trunk) (d : LineDecision) :
    (s.applyDecision p k t d).cams = s.cams ∧ (s.applyDecision p k t d).channels = s.channels ∧
    (s.applyDecision p k t d).lenses = s.lenses ∧ (s.applyDecision p k t d).profiles = s.profiles ∧
    (s.applyDecision p k t d).selector = s.selector ∧ (s.applyDecision p k t d).screens = s.screens ∧
    (s.applyDecision p k t d).views = s.views ∧ (s.applyDecision p k t d).alerts = s.alerts ∧
    (s.applyDecision p k t d).orders = s.orders ∧ (s.applyDecision p k t d).loader = s.loader ∧
    (s.applyDecision p k t d).flash = s.flash ∧ (s.applyDecision p k t d).straps = s.straps ∧
    (s.applyDecision p k t d).held = s.held ∧ (s.applyDecision p k t d).freeUsed = s.freeUsed ∧
    (s.applyDecision p k t d).pending = s.pending := by
  unfold State.applyDecision
  (repeat' split) <;> simp

@[simp] theorem State.switchLineHeader_frame (s : State) (p : Port) (k : Fin 256) (frame line : Nat) :
    (s.switchLineHeader p k frame line).channels = s.channels ∧ (s.switchLineHeader p k frame line).lenses = s.lenses ∧
    (s.switchLineHeader p k frame line).profiles = s.profiles ∧ (s.switchLineHeader p k frame line).selector = s.selector ∧
    (s.switchLineHeader p k frame line).screens = s.screens ∧ (s.switchLineHeader p k frame line).views = s.views ∧
    (s.switchLineHeader p k frame line).alerts = s.alerts ∧ (s.switchLineHeader p k frame line).orders = s.orders ∧
    (s.switchLineHeader p k frame line).loader = s.loader ∧ (s.switchLineHeader p k frame line).flash = s.flash ∧
    (s.switchLineHeader p k frame line).straps = s.straps ∧ (s.switchLineHeader p k frame line).held = s.held ∧
    (s.switchLineHeader p k frame line).freeUsed = s.freeUsed ∧ (s.switchLineHeader p k frame line).pending = s.pending := by
  unfold State.switchLineHeader
  dsimp only
  (repeat' split) <;> simp

@[simp] theorem State.endCutThrough_frame (s : State) (p : Port) (t : Trunk) (tx : Transmission) :
    (s.endCutThrough p t tx).cams = s.cams ∧ (s.endCutThrough p t tx).streams = s.streams ∧
    (s.endCutThrough p t tx).channels = s.channels ∧ (s.endCutThrough p t tx).lenses = s.lenses ∧
    (s.endCutThrough p t tx).profiles = s.profiles ∧ (s.endCutThrough p t tx).selector = s.selector ∧
    (s.endCutThrough p t tx).screens = s.screens ∧ (s.endCutThrough p t tx).views = s.views ∧
    (s.endCutThrough p t tx).alerts = s.alerts ∧ (s.endCutThrough p t tx).orders = s.orders ∧
    (s.endCutThrough p t tx).loader = s.loader ∧ (s.endCutThrough p t tx).flash = s.flash ∧
    (s.endCutThrough p t tx).straps = s.straps ∧ (s.endCutThrough p t tx).held = s.held ∧
    (s.endCutThrough p t tx).freeUsed = s.freeUsed ∧ (s.endCutThrough p t tx).pending = s.pending := by
  unfold State.endCutThrough
  (repeat' split) <;> simp

@[simp] theorem State.settleCopy_frame (s : State) (a : LineArrival) (report : EndReport) (pixels : List Byte) (t : Trunk) :
    (s.settleCopy a report pixels t).cams = s.cams ∧ (s.settleCopy a report pixels t).channels = s.channels ∧
    (s.settleCopy a report pixels t).lenses = s.lenses ∧ (s.settleCopy a report pixels t).profiles = s.profiles ∧
    (s.settleCopy a report pixels t).selector = s.selector ∧ (s.settleCopy a report pixels t).screens = s.screens ∧
    (s.settleCopy a report pixels t).views = s.views ∧ (s.settleCopy a report pixels t).alerts = s.alerts ∧
    (s.settleCopy a report pixels t).orders = s.orders ∧ (s.settleCopy a report pixels t).loader = s.loader ∧
    (s.settleCopy a report pixels t).flash = s.flash ∧ (s.settleCopy a report pixels t).straps = s.straps ∧
    (s.settleCopy a report pixels t).held = s.held ∧ (s.settleCopy a report pixels t).freeUsed = s.freeUsed ∧
    (s.settleCopy a report pixels t).pending = s.pending := by
  unfold State.settleCopy
  (repeat' split) <;> simp

@[simp] theorem State.countHeaderCut_frame (s : State) (a : LineArrival) (t : Trunk) :
    (s.countHeaderCut a t).cams = s.cams ∧ (s.countHeaderCut a t).streams = s.streams ∧
    (s.countHeaderCut a t).channels = s.channels ∧ (s.countHeaderCut a t).lenses = s.lenses ∧
    (s.countHeaderCut a t).profiles = s.profiles ∧ (s.countHeaderCut a t).selector = s.selector ∧
    (s.countHeaderCut a t).screens = s.screens ∧ (s.countHeaderCut a t).views = s.views ∧
    (s.countHeaderCut a t).alerts = s.alerts ∧ (s.countHeaderCut a t).orders = s.orders ∧
    (s.countHeaderCut a t).loader = s.loader ∧ (s.countHeaderCut a t).flash = s.flash ∧ (s.countHeaderCut a t).straps = s.straps ∧
    (s.countHeaderCut a t).held = s.held ∧ (s.countHeaderCut a t).freeUsed = s.freeUsed ∧ (s.countHeaderCut a t).pending = s.pending := by
  unfold State.countHeaderCut
  split <;> simp

@[simp] theorem State.settleLine_frame (s : State) (p : Port) (a : LineArrival) (report : EndReport) (bytes : List Byte) :
    (s.settleLine p a report bytes).lenses = s.lenses ∧ (s.settleLine p a report bytes).profiles = s.profiles ∧
    (s.settleLine p a report bytes).selector = s.selector ∧ (s.settleLine p a report bytes).screens = s.screens ∧
    (s.settleLine p a report bytes).views = s.views ∧ (s.settleLine p a report bytes).loader = s.loader ∧
    (s.settleLine p a report bytes).flash = s.flash ∧ (s.settleLine p a report bytes).straps = s.straps ∧
    (s.settleLine p a report bytes).held = s.held ∧ (s.settleLine p a report bytes).freeUsed = s.freeUsed ∧
    (s.settleLine p a report bytes).pending = s.pending := by
  unfold State.settleLine
  dsimp only
  (repeat' split) <;> simp

@[simp] theorem State.reportLineEnd_frame (s : State) (p : Port) (report : EndReport) (bytes : List Byte) :
    (s.reportLineEnd p report bytes).lenses = s.lenses ∧ (s.reportLineEnd p report bytes).profiles = s.profiles ∧
    (s.reportLineEnd p report bytes).selector = s.selector ∧ (s.reportLineEnd p report bytes).screens = s.screens ∧
    (s.reportLineEnd p report bytes).views = s.views ∧ (s.reportLineEnd p report bytes).loader = s.loader ∧
    (s.reportLineEnd p report bytes).flash = s.flash ∧ (s.reportLineEnd p report bytes).straps = s.straps ∧
    (s.reportLineEnd p report bytes).held = s.held ∧ (s.reportLineEnd p report bytes).freeUsed = s.freeUsed ∧
    (s.reportLineEnd p report bytes).pending = s.pending := by
  unfold State.reportLineEnd
  dsimp only
  (repeat' split) <;> simp

@[simp] theorem State.markUnformed_frame (s : State) (p : Port) (u : UnformedLine) :
    (s.markUnformed p u).streams = s.streams ∧ (s.markUnformed p u).channels = s.channels ∧
    (s.markUnformed p u).lenses = s.lenses ∧ (s.markUnformed p u).profiles = s.profiles ∧
    (s.markUnformed p u).selector = s.selector ∧ (s.markUnformed p u).screens = s.screens ∧ (s.markUnformed p u).views = s.views ∧
    (s.markUnformed p u).alerts = s.alerts ∧ (s.markUnformed p u).orders = s.orders ∧ (s.markUnformed p u).loader = s.loader ∧
    (s.markUnformed p u).flash = s.flash ∧ (s.markUnformed p u).straps = s.straps ∧ (s.markUnformed p u).held = s.held ∧
    (s.markUnformed p u).freeUsed = s.freeUsed ∧ (s.markUnformed p u).pending = s.pending := by
  unfold State.markUnformed
  simp

@[simp] theorem State.abandonArrival_frame (s : State) (p : Port) :
    (s.abandonArrival p).lenses = s.lenses ∧ (s.abandonArrival p).profiles = s.profiles ∧
    (s.abandonArrival p).selector = s.selector ∧ (s.abandonArrival p).screens = s.screens ∧
    (s.abandonArrival p).views = s.views ∧ (s.abandonArrival p).loader = s.loader ∧ (s.abandonArrival p).flash = s.flash ∧
    (s.abandonArrival p).straps = s.straps ∧ (s.abandonArrival p).held = s.held ∧ (s.abandonArrival p).pending = s.pending := by
  unfold State.abandonArrival
  (repeat' split) <;> simp

/-! ## Lens assessor (spec 04, 05) -/

@[simp] theorem State.lensEvent_frame (s : State) (i : Fin 8) (f : Lens → Lens × Option LearnEnd) :
    (s.lensEvent i f).cams = s.cams ∧ (s.lensEvent i f).trunks = s.trunks ∧ (s.lensEvent i f).streams = s.streams ∧
    (s.lensEvent i f).channels = s.channels ∧ (s.lensEvent i f).profiles = s.profiles ∧
    (s.lensEvent i f).selector = s.selector ∧ (s.lensEvent i f).screens = s.screens ∧ (s.lensEvent i f).views = s.views ∧
    (s.lensEvent i f).loader = s.loader ∧ (s.lensEvent i f).flash = s.flash ∧ (s.lensEvent i f).straps = s.straps ∧
    (s.lensEvent i f).held = s.held ∧ (s.lensEvent i f).freeUsed = s.freeUsed ∧ (s.lensEvent i f).pending = s.pending := by
  unfold State.lensEvent
  dsimp only
  (repeat' split) <;> simp

@[simp] theorem State.endOpenFrame_frame (s : State) (i : Fin 8) (complete : Bool) :
    (s.endOpenFrame i complete).trunks = s.trunks ∧ (s.endOpenFrame i complete).streams = s.streams ∧
    (s.endOpenFrame i complete).channels = s.channels ∧ (s.endOpenFrame i complete).profiles = s.profiles ∧
    (s.endOpenFrame i complete).selector = s.selector ∧ (s.endOpenFrame i complete).screens = s.screens ∧
    (s.endOpenFrame i complete).views = s.views ∧ (s.endOpenFrame i complete).loader = s.loader ∧
    (s.endOpenFrame i complete).flash = s.flash ∧ (s.endOpenFrame i complete).straps = s.straps ∧
    (s.endOpenFrame i complete).held = s.held ∧ (s.endOpenFrame i complete).freeUsed = s.freeUsed ∧
    (s.endOpenFrame i complete).pending = s.pending := by
  unfold State.endOpenFrame
  (repeat' split) <;> simp

@[simp] theorem State.openCameraFrame_frame (s : State) (i : Fin 8) (frame : Nat) :
    (s.openCameraFrame i frame).trunks = s.trunks ∧ (s.openCameraFrame i frame).streams = s.streams ∧
    (s.openCameraFrame i frame).channels = s.channels ∧ (s.openCameraFrame i frame).profiles = s.profiles ∧
    (s.openCameraFrame i frame).selector = s.selector ∧ (s.openCameraFrame i frame).screens = s.screens ∧
    (s.openCameraFrame i frame).views = s.views ∧ (s.openCameraFrame i frame).loader = s.loader ∧
    (s.openCameraFrame i frame).flash = s.flash ∧ (s.openCameraFrame i frame).straps = s.straps ∧
    (s.openCameraFrame i frame).held = s.held ∧ (s.openCameraFrame i frame).freeUsed = s.freeUsed ∧
    (s.openCameraFrame i frame).pending = s.pending := by
  unfold State.openCameraFrame
  dsimp only
  simp

@[simp] theorem State.cameraLine_frame (s : State) (i : Fin 8) (frame line : Nat) (pixels : List Byte) :
    (s.cameraLine i frame line pixels).trunks = s.trunks ∧ (s.cameraLine i frame line pixels).streams = s.streams ∧
    (s.cameraLine i frame line pixels).channels = s.channels ∧ (s.cameraLine i frame line pixels).profiles = s.profiles ∧
    (s.cameraLine i frame line pixels).selector = s.selector ∧ (s.cameraLine i frame line pixels).screens = s.screens ∧
    (s.cameraLine i frame line pixels).views = s.views ∧ (s.cameraLine i frame line pixels).alerts = s.alerts ∧
    (s.cameraLine i frame line pixels).orders = s.orders ∧ (s.cameraLine i frame line pixels).loader = s.loader ∧
    (s.cameraLine i frame line pixels).flash = s.flash ∧ (s.cameraLine i frame line pixels).straps = s.straps ∧
    (s.cameraLine i frame line pixels).held = s.held ∧ (s.cameraLine i frame line pixels).freeUsed = s.freeUsed ∧
    (s.cameraLine i frame line pixels).pending = s.pending := by
  unfold State.cameraLine
  (repeat' split) <;> simp

@[simp] theorem State.closeCameraFrame_frame (s : State) (i : Fin 8) (frame : Nat) (status : CloseStatus) :
    (s.closeCameraFrame i frame status).trunks = s.trunks ∧ (s.closeCameraFrame i frame status).streams = s.streams ∧
    (s.closeCameraFrame i frame status).channels = s.channels ∧ (s.closeCameraFrame i frame status).profiles = s.profiles ∧
    (s.closeCameraFrame i frame status).selector = s.selector ∧ (s.closeCameraFrame i frame status).screens = s.screens ∧
    (s.closeCameraFrame i frame status).views = s.views ∧ (s.closeCameraFrame i frame status).loader = s.loader ∧
    (s.closeCameraFrame i frame status).flash = s.flash ∧ (s.closeCameraFrame i frame status).straps = s.straps ∧
    (s.closeCameraFrame i frame status).held = s.held ∧ (s.closeCameraFrame i frame status).freeUsed = s.freeUsed ∧
    (s.closeCameraFrame i frame status).pending = s.pending := by
  unfold State.closeCameraFrame
  (repeat' split) <;> simp

@[simp] theorem State.loseCameraFrame_frame (s : State) (i : Fin 8) :
    (s.loseCameraFrame i).trunks = s.trunks ∧ (s.loseCameraFrame i).streams = s.streams ∧
    (s.loseCameraFrame i).channels = s.channels ∧ (s.loseCameraFrame i).profiles = s.profiles ∧
    (s.loseCameraFrame i).selector = s.selector ∧ (s.loseCameraFrame i).screens = s.screens ∧
    (s.loseCameraFrame i).views = s.views ∧ (s.loseCameraFrame i).loader = s.loader ∧ (s.loseCameraFrame i).flash = s.flash ∧
    (s.loseCameraFrame i).straps = s.straps ∧ (s.loseCameraFrame i).held = s.held ∧
    (s.loseCameraFrame i).freeUsed = s.freeUsed ∧ (s.loseCameraFrame i).pending = s.pending := by
  unfold State.loseCameraFrame
  simp

@[simp] theorem State.lensEventsOfProfile_frame (s : State) (lp : Fin 4) (f : Lens → Lens × Option LearnEnd) :
    (s.lensEventsOfProfile lp f).cams = s.cams ∧ (s.lensEventsOfProfile lp f).trunks = s.trunks ∧
    (s.lensEventsOfProfile lp f).streams = s.streams ∧ (s.lensEventsOfProfile lp f).channels = s.channels ∧
    (s.lensEventsOfProfile lp f).profiles = s.profiles ∧ (s.lensEventsOfProfile lp f).selector = s.selector ∧
    (s.lensEventsOfProfile lp f).screens = s.screens ∧ (s.lensEventsOfProfile lp f).views = s.views ∧
    (s.lensEventsOfProfile lp f).loader = s.loader ∧ (s.lensEventsOfProfile lp f).flash = s.flash ∧
    (s.lensEventsOfProfile lp f).straps = s.straps ∧ (s.lensEventsOfProfile lp f).held = s.held ∧
    (s.lensEventsOfProfile lp f).freeUsed = s.freeUsed ∧ (s.lensEventsOfProfile lp f).pending = s.pending :=
  ⟨foldl_keeps State.cams _ (fun s x => by  split <;> simp) _ _,
    foldl_keeps State.trunks _ (fun s x => by  split <;> simp) _ _,
    foldl_keeps State.streams _ (fun s x => by  split <;> simp) _ _,
    foldl_keeps State.channels _ (fun s x => by  split <;> simp) _ _,
    foldl_keeps State.profiles _ (fun s x => by  split <;> simp) _ _,
    foldl_keeps State.selector _ (fun s x => by  split <;> simp) _ _,
    foldl_keeps State.screens _ (fun s x => by  split <;> simp) _ _,
    foldl_keeps State.views _ (fun s x => by  split <;> simp) _ _,
    foldl_keeps State.loader _ (fun s x => by  split <;> simp) _ _,
    foldl_keeps State.flash _ (fun s x => by  split <;> simp) _ _,
    foldl_keeps State.straps _ (fun s x => by  split <;> simp) _ _,
    foldl_keeps State.held _ (fun s x => by  split <;> simp) _ _,
    foldl_keeps State.freeUsed _ (fun s x => by  split <;> simp) _ _,
    foldl_keeps State.pending _ (fun s x => by  split <;> simp) _ _⟩

/-! ## Orders and notices in transit (spec 09) -/

@[simp] theorem State.takeOrder_frame (s : State) (arrival : Trunk) (dest code tag : Byte) (params : List Byte) :
    (s.takeOrder arrival dest code tag params).cams = s.cams ∧ (s.takeOrder arrival dest code tag params).streams = s.streams ∧
    (s.takeOrder arrival dest code tag params).channels = s.channels ∧
    (s.takeOrder arrival dest code tag params).lenses = s.lenses ∧
    (s.takeOrder arrival dest code tag params).profiles = s.profiles ∧
    (s.takeOrder arrival dest code tag params).selector = s.selector ∧
    (s.takeOrder arrival dest code tag params).screens = s.screens ∧
    (s.takeOrder arrival dest code tag params).views = s.views ∧ (s.takeOrder arrival dest code tag params).alerts = s.alerts ∧
    (s.takeOrder arrival dest code tag params).loader = s.loader ∧ (s.takeOrder arrival dest code tag params).flash = s.flash ∧
    (s.takeOrder arrival dest code tag params).straps = s.straps ∧ (s.takeOrder arrival dest code tag params).held = s.held ∧
    (s.takeOrder arrival dest code tag params).freeUsed = s.freeUsed ∧
    (s.takeOrder arrival dest code tag params).pending = s.pending := by
  unfold State.takeOrder
  dsimp only
  (repeat' split) <;> simp

@[simp] theorem State.takeNotice_frame (s : State) (arrival : Trunk) (p : Packet) :
    (s.takeNotice arrival p).cams = s.cams ∧ (s.takeNotice arrival p).streams = s.streams ∧
    (s.takeNotice arrival p).channels = s.channels ∧ (s.takeNotice arrival p).lenses = s.lenses ∧
    (s.takeNotice arrival p).profiles = s.profiles ∧ (s.takeNotice arrival p).selector = s.selector ∧
    (s.takeNotice arrival p).screens = s.screens ∧ (s.takeNotice arrival p).views = s.views ∧
    (s.takeNotice arrival p).alerts = s.alerts ∧ (s.takeNotice arrival p).orders = s.orders ∧
    (s.takeNotice arrival p).loader = s.loader ∧ (s.takeNotice arrival p).flash = s.flash ∧
    (s.takeNotice arrival p).straps = s.straps ∧ (s.takeNotice arrival p).held = s.held ∧
    (s.takeNotice arrival p).freeUsed = s.freeUsed ∧ (s.takeNotice arrival p).pending = s.pending := by
  unfold State.takeNotice
  simp

@[simp] theorem State.moveNotice_frame (s : State) :
    s.moveNotice.cams = s.cams ∧ s.moveNotice.streams = s.streams ∧ s.moveNotice.channels = s.channels ∧
    s.moveNotice.lenses = s.lenses ∧ s.moveNotice.profiles = s.profiles ∧ s.moveNotice.selector = s.selector ∧
    s.moveNotice.screens = s.screens ∧ s.moveNotice.views = s.views ∧ s.moveNotice.alerts = s.alerts ∧
    s.moveNotice.loader = s.loader ∧ s.moveNotice.flash = s.flash ∧ s.moveNotice.straps = s.straps ∧
    s.moveNotice.held = s.held ∧ s.moveNotice.freeUsed = s.freeUsed ∧ s.moveNotice.pending = s.pending := by
  unfold State.moveNotice
  split
  · exact ⟨foldl_keeps State.cams _ (fun s t => by simp) _ _,
      foldl_keeps State.streams _ (fun s t => by simp) _ _,
      foldl_keeps State.channels _ (fun s t => by simp) _ _,
      foldl_keeps State.lenses _ (fun s t => by simp) _ _,
      foldl_keeps State.profiles _ (fun s t => by simp) _ _,
      foldl_keeps State.selector _ (fun s t => by simp) _ _,
      foldl_keeps State.screens _ (fun s t => by simp) _ _,
      foldl_keeps State.views _ (fun s t => by simp) _ _,
      foldl_keeps State.alerts _ (fun s t => by simp) _ _,
      foldl_keeps State.loader _ (fun s t => by simp) _ _,
      foldl_keeps State.flash _ (fun s t => by simp) _ _,
      foldl_keeps State.straps _ (fun s t => by simp) _ _,
      foldl_keeps State.held _ (fun s t => by simp) _ _,
      foldl_keeps State.freeUsed _ (fun s t => by simp) _ _,
      foldl_keeps State.pending _ (fun s t => by simp) _ _⟩
  · simp

@[simp] theorem State.answer_frame (s : State) (i : Fin 2) (o : HeldOrder) (a : Answer) :
    (s.answer i o a).cams = s.cams ∧ (s.answer i o a).trunks = s.trunks ∧ (s.answer i o a).streams = s.streams ∧
    (s.answer i o a).channels = s.channels ∧ (s.answer i o a).lenses = s.lenses ∧ (s.answer i o a).profiles = s.profiles ∧
    (s.answer i o a).selector = s.selector ∧ (s.answer i o a).screens = s.screens ∧ (s.answer i o a).views = s.views ∧
    (s.answer i o a).alerts = s.alerts ∧ (s.answer i o a).loader = s.loader ∧ (s.answer i o a).flash = s.flash ∧
    (s.answer i o a).straps = s.straps ∧ (s.answer i o a).held = s.held ∧ (s.answer i o a).freeUsed = s.freeUsed ∧
    (s.answer i o a).pending = s.pending := by
  unfold State.answer
  simp

/-! ## Ports (spec 01) -/

@[simp] theorem State.countReceived_frame (s : State) (p : Port) :
    (s.countReceived p).streams = s.streams ∧ (s.countReceived p).channels = s.channels ∧
    (s.countReceived p).lenses = s.lenses ∧ (s.countReceived p).profiles = s.profiles ∧
    (s.countReceived p).selector = s.selector ∧ (s.countReceived p).screens = s.screens ∧ (s.countReceived p).views = s.views ∧
    (s.countReceived p).alerts = s.alerts ∧ (s.countReceived p).orders = s.orders ∧ (s.countReceived p).loader = s.loader ∧
    (s.countReceived p).flash = s.flash ∧ (s.countReceived p).straps = s.straps ∧ (s.countReceived p).held = s.held ∧
    (s.countReceived p).freeUsed = s.freeUsed ∧ (s.countReceived p).pending = s.pending := by
  unfold State.countReceived
  simp

@[simp] theorem State.countFraming_frame (s : State) (p : Port) :
    (s.countFraming p).streams = s.streams ∧ (s.countFraming p).channels = s.channels ∧ (s.countFraming p).lenses = s.lenses ∧
    (s.countFraming p).profiles = s.profiles ∧ (s.countFraming p).selector = s.selector ∧
    (s.countFraming p).screens = s.screens ∧ (s.countFraming p).views = s.views ∧ (s.countFraming p).alerts = s.alerts ∧
    (s.countFraming p).orders = s.orders ∧ (s.countFraming p).loader = s.loader ∧ (s.countFraming p).flash = s.flash ∧
    (s.countFraming p).straps = s.straps ∧ (s.countFraming p).held = s.held ∧ (s.countFraming p).freeUsed = s.freeUsed ∧
    (s.countFraming p).pending = s.pending := by
  unfold State.countFraming
  simp

@[simp] theorem State.countShape_frame (s : State) (p : Port) :
    (s.countShape p).streams = s.streams ∧ (s.countShape p).channels = s.channels ∧ (s.countShape p).lenses = s.lenses ∧
    (s.countShape p).profiles = s.profiles ∧ (s.countShape p).selector = s.selector ∧ (s.countShape p).screens = s.screens ∧
    (s.countShape p).views = s.views ∧ (s.countShape p).alerts = s.alerts ∧ (s.countShape p).orders = s.orders ∧
    (s.countShape p).loader = s.loader ∧ (s.countShape p).flash = s.flash ∧ (s.countShape p).straps = s.straps ∧
    (s.countShape p).held = s.held ∧ (s.countShape p).freeUsed = s.freeUsed ∧ (s.countShape p).pending = s.pending := by
  unfold State.countShape
  simp

@[simp] theorem State.countFault_frame (s : State) (p : Port) (fault : PacketFault) :
    (s.countFault p fault).streams = s.streams ∧ (s.countFault p fault).channels = s.channels ∧
    (s.countFault p fault).lenses = s.lenses ∧ (s.countFault p fault).profiles = s.profiles ∧
    (s.countFault p fault).selector = s.selector ∧ (s.countFault p fault).screens = s.screens ∧
    (s.countFault p fault).views = s.views ∧ (s.countFault p fault).alerts = s.alerts ∧
    (s.countFault p fault).orders = s.orders ∧ (s.countFault p fault).loader = s.loader ∧
    (s.countFault p fault).flash = s.flash ∧ (s.countFault p fault).straps = s.straps ∧ (s.countFault p fault).held = s.held ∧
    (s.countFault p fault).freeUsed = s.freeUsed ∧ (s.countFault p fault).pending = s.pending := by
  unfold State.countFault
  (repeat' split) <;> simp

@[simp] theorem State.countPoisoned_frame (s : State) (p : Port) :
    (s.countPoisoned p).cams = s.cams ∧ (s.countPoisoned p).streams = s.streams ∧ (s.countPoisoned p).channels = s.channels ∧
    (s.countPoisoned p).lenses = s.lenses ∧ (s.countPoisoned p).profiles = s.profiles ∧
    (s.countPoisoned p).selector = s.selector ∧ (s.countPoisoned p).screens = s.screens ∧ (s.countPoisoned p).views = s.views ∧
    (s.countPoisoned p).alerts = s.alerts ∧ (s.countPoisoned p).orders = s.orders ∧ (s.countPoisoned p).loader = s.loader ∧
    (s.countPoisoned p).flash = s.flash ∧ (s.countPoisoned p).straps = s.straps ∧ (s.countPoisoned p).held = s.held ∧
    (s.countPoisoned p).freeUsed = s.freeUsed ∧ (s.countPoisoned p).pending = s.pending := by
  unfold State.countPoisoned
  (repeat' split) <;> simp

@[simp] theorem State.setIgnoring_frame (s : State) (p : Port) (b : Bool) :
    (s.setIgnoring p b).streams = s.streams ∧ (s.setIgnoring p b).channels = s.channels ∧
    (s.setIgnoring p b).lenses = s.lenses ∧ (s.setIgnoring p b).profiles = s.profiles ∧
    (s.setIgnoring p b).selector = s.selector ∧ (s.setIgnoring p b).screens = s.screens ∧ (s.setIgnoring p b).views = s.views ∧
    (s.setIgnoring p b).alerts = s.alerts ∧ (s.setIgnoring p b).orders = s.orders ∧ (s.setIgnoring p b).loader = s.loader ∧
    (s.setIgnoring p b).flash = s.flash ∧ (s.setIgnoring p b).straps = s.straps ∧ (s.setIgnoring p b).held = s.held ∧
    (s.setIgnoring p b).freeUsed = s.freeUsed ∧ (s.setIgnoring p b).pending = s.pending := by
  unfold State.setIgnoring
  simp

@[simp] theorem State.clearUnformed_frame (s : State) (p : Port) :
    (s.clearUnformed p).streams = s.streams ∧ (s.clearUnformed p).channels = s.channels ∧
    (s.clearUnformed p).lenses = s.lenses ∧ (s.clearUnformed p).profiles = s.profiles ∧
    (s.clearUnformed p).selector = s.selector ∧ (s.clearUnformed p).screens = s.screens ∧ (s.clearUnformed p).views = s.views ∧
    (s.clearUnformed p).alerts = s.alerts ∧ (s.clearUnformed p).orders = s.orders ∧ (s.clearUnformed p).loader = s.loader ∧
    (s.clearUnformed p).flash = s.flash ∧ (s.clearUnformed p).straps = s.straps ∧ (s.clearUnformed p).held = s.held ∧
    (s.clearUnformed p).freeUsed = s.freeUsed ∧ (s.clearUnformed p).pending = s.pending := by
  unfold State.clearUnformed
  simp

@[simp] theorem State.judgeHighLine_frame (s : State) (p : Port) :
    (s.judgeHighLine p).lenses = s.lenses ∧ (s.judgeHighLine p).profiles = s.profiles ∧ (s.judgeHighLine p).selector = s.selector ∧
    (s.judgeHighLine p).screens = s.screens ∧ (s.judgeHighLine p).views = s.views ∧ (s.judgeHighLine p).loader = s.loader ∧
    (s.judgeHighLine p).flash = s.flash ∧ (s.judgeHighLine p).straps = s.straps ∧ (s.judgeHighLine p).held = s.held ∧
    (s.judgeHighLine p).freeUsed = s.freeUsed ∧ (s.judgeHighLine p).pending = s.pending := by
  unfold State.judgeHighLine
  simp

@[simp] theorem State.takeHeader_frame (s : State) (p : Port) (stream : Byte) (frame line : Nat) :
    (s.takeHeader p stream frame line).lenses = s.lenses ∧ (s.takeHeader p stream frame line).profiles = s.profiles ∧
    (s.takeHeader p stream frame line).selector = s.selector ∧ (s.takeHeader p stream frame line).screens = s.screens ∧
    (s.takeHeader p stream frame line).views = s.views ∧ (s.takeHeader p stream frame line).loader = s.loader ∧
    (s.takeHeader p stream frame line).flash = s.flash ∧ (s.takeHeader p stream frame line).straps = s.straps ∧
    (s.takeHeader p stream frame line).held = s.held ∧ (s.takeHeader p stream frame line).freeUsed = s.freeUsed ∧
    (s.takeHeader p stream frame line).pending = s.pending := by
  unfold State.takeHeader
  split <;> simp

@[simp] theorem State.ensureHeader_frame (s : State) (p : Port) (bytes : List Byte) :
    (s.ensureHeader p bytes).lenses = s.lenses ∧ (s.ensureHeader p bytes).profiles = s.profiles ∧
    (s.ensureHeader p bytes).selector = s.selector ∧ (s.ensureHeader p bytes).screens = s.screens ∧
    (s.ensureHeader p bytes).views = s.views ∧ (s.ensureHeader p bytes).loader = s.loader ∧
    (s.ensureHeader p bytes).flash = s.flash ∧ (s.ensureHeader p bytes).straps = s.straps ∧
    (s.ensureHeader p bytes).held = s.held ∧ (s.ensureHeader p bytes).freeUsed = s.freeUsed ∧
    (s.ensureHeader p bytes).pending = s.pending := by
  unfold State.ensureHeader
  (repeat' split) <;> simp

@[simp] theorem State.framingFault_frame (s : State) (p : Port) (cause : FramingCause) (bytes : List Byte) :
    (s.framingFault p cause bytes).lenses = s.lenses ∧ (s.framingFault p cause bytes).profiles = s.profiles ∧
    (s.framingFault p cause bytes).selector = s.selector ∧ (s.framingFault p cause bytes).screens = s.screens ∧
    (s.framingFault p cause bytes).views = s.views ∧ (s.framingFault p cause bytes).loader = s.loader ∧
    (s.framingFault p cause bytes).flash = s.flash ∧ (s.framingFault p cause bytes).straps = s.straps ∧
    (s.framingFault p cause bytes).held = s.held ∧ (s.framingFault p cause bytes).freeUsed = s.freeUsed ∧
    (s.framingFault p cause bytes).pending = s.pending := by
  unfold State.framingFault
  dsimp only
  (repeat' split) <;> simp

@[simp] theorem State.overLongEnd_frame (s : State) (p : Port) (bytes : List Byte) :
    (s.overLongEnd p bytes).lenses = s.lenses ∧ (s.overLongEnd p bytes).profiles = s.profiles ∧
    (s.overLongEnd p bytes).selector = s.selector ∧ (s.overLongEnd p bytes).screens = s.screens ∧
    (s.overLongEnd p bytes).views = s.views ∧ (s.overLongEnd p bytes).loader = s.loader ∧ (s.overLongEnd p bytes).flash = s.flash ∧
    (s.overLongEnd p bytes).straps = s.straps ∧ (s.overLongEnd p bytes).held = s.held ∧
    (s.overLongEnd p bytes).freeUsed = s.freeUsed ∧ (s.overLongEnd p bytes).pending = s.pending := by
  unfold State.overLongEnd
  split <;> simp

@[simp] theorem State.handFrameOpen_frame (s : State) (p : Port) (k : Fin 256) (frame : Nat) (grade : Grade) (home : Nat) :
    (s.handFrameOpen p k frame grade home).profiles = s.profiles ∧
    (s.handFrameOpen p k frame grade home).selector = s.selector ∧ (s.handFrameOpen p k frame grade home).screens = s.screens ∧
    (s.handFrameOpen p k frame grade home).views = s.views ∧ (s.handFrameOpen p k frame grade home).loader = s.loader ∧
    (s.handFrameOpen p k frame grade home).flash = s.flash ∧ (s.handFrameOpen p k frame grade home).straps = s.straps ∧
    (s.handFrameOpen p k frame grade home).held = s.held ∧ (s.handFrameOpen p k frame grade home).freeUsed = s.freeUsed ∧
    (s.handFrameOpen p k frame grade home).pending = s.pending := by
  unfold State.handFrameOpen
  dsimp only
  (repeat' split) <;> simp

@[simp] theorem State.handFrameClose_frame (s : State) (p : Port) (k : Fin 256) (frame : Nat) (status : CloseStatus) :
    (s.handFrameClose p k frame status).profiles = s.profiles ∧ (s.handFrameClose p k frame status).selector = s.selector ∧
    (s.handFrameClose p k frame status).screens = s.screens ∧ (s.handFrameClose p k frame status).views = s.views ∧
    (s.handFrameClose p k frame status).loader = s.loader ∧ (s.handFrameClose p k frame status).flash = s.flash ∧
    (s.handFrameClose p k frame status).straps = s.straps ∧ (s.handFrameClose p k frame status).held = s.held ∧
    (s.handFrameClose p k frame status).freeUsed = s.freeUsed ∧ (s.handFrameClose p k frame status).pending = s.pending := by
  unfold State.handFrameClose
  dsimp only
  (repeat' split) <;> simp

@[simp] theorem State.handLine_frame (s : State) (p : Port) (frame line : Nat) (pixels bytes : List Byte) :
    (s.handLine p frame line pixels bytes).profiles = s.profiles ∧
    (s.handLine p frame line pixels bytes).selector = s.selector ∧ (s.handLine p frame line pixels bytes).screens = s.screens ∧
    (s.handLine p frame line pixels bytes).views = s.views ∧ (s.handLine p frame line pixels bytes).loader = s.loader ∧
    (s.handLine p frame line pixels bytes).flash = s.flash ∧ (s.handLine p frame line pixels bytes).straps = s.straps ∧
    (s.handLine p frame line pixels bytes).held = s.held ∧ (s.handLine p frame line pixels bytes).freeUsed = s.freeUsed ∧
    (s.handLine p frame line pixels bytes).pending = s.pending := by
  unfold State.handLine
  dsimp only
  (repeat' split) <;> simp

@[simp] theorem State.handOn_frame (s : State) (p : Port) (packet : Packet) (bytes : List Byte) :
    (s.handOn p packet bytes).profiles = s.profiles ∧ (s.handOn p packet bytes).selector = s.selector ∧
    (s.handOn p packet bytes).screens = s.screens ∧ (s.handOn p packet bytes).views = s.views ∧
    (s.handOn p packet bytes).loader = s.loader ∧ (s.handOn p packet bytes).flash = s.flash ∧
    (s.handOn p packet bytes).straps = s.straps ∧ (s.handOn p packet bytes).held = s.held ∧
    (s.handOn p packet bytes).freeUsed = s.freeUsed ∧ (s.handOn p packet bytes).pending = s.pending := by
  unfold State.handOn
  (repeat' split) <;> simp

@[simp] theorem State.judgeArrival_frame (s : State) (p : Port) (bytes : List Byte) :
    (s.judgeArrival p bytes).profiles = s.profiles ∧ (s.judgeArrival p bytes).selector = s.selector ∧
    (s.judgeArrival p bytes).screens = s.screens ∧ (s.judgeArrival p bytes).views = s.views ∧
    (s.judgeArrival p bytes).loader = s.loader ∧ (s.judgeArrival p bytes).flash = s.flash ∧
    (s.judgeArrival p bytes).straps = s.straps ∧ (s.judgeArrival p bytes).held = s.held ∧
    (s.judgeArrival p bytes).freeUsed = s.freeUsed ∧ (s.judgeArrival p bytes).pending = s.pending := by
  unfold State.judgeArrival
  (repeat' split) <;> simp

@[simp] theorem State.packetEnd_frame (s : State) (p : Port) (bytes : List Byte) :
    (s.packetEnd p bytes).profiles = s.profiles ∧ (s.packetEnd p bytes).selector = s.selector ∧
    (s.packetEnd p bytes).screens = s.screens ∧ (s.packetEnd p bytes).views = s.views ∧
    (s.packetEnd p bytes).loader = s.loader ∧ (s.packetEnd p bytes).flash = s.flash ∧ (s.packetEnd p bytes).straps = s.straps ∧
    (s.packetEnd p bytes).held = s.held ∧ (s.packetEnd p bytes).freeUsed = s.freeUsed ∧
    (s.packetEnd p bytes).pending = s.pending := by
  unfold State.packetEnd
  (repeat' split) <;> simp

@[simp] theorem State.discardPoisoned_frame (s : State) (p : Port) (bytes : List Byte) :
    (s.discardPoisoned p bytes).lenses = s.lenses ∧ (s.discardPoisoned p bytes).profiles = s.profiles ∧
    (s.discardPoisoned p bytes).selector = s.selector ∧ (s.discardPoisoned p bytes).screens = s.screens ∧
    (s.discardPoisoned p bytes).views = s.views ∧ (s.discardPoisoned p bytes).loader = s.loader ∧
    (s.discardPoisoned p bytes).flash = s.flash ∧ (s.discardPoisoned p bytes).straps = s.straps ∧
    (s.discardPoisoned p bytes).held = s.held ∧ (s.discardPoisoned p bytes).freeUsed = s.freeUsed ∧
    (s.discardPoisoned p bytes).pending = s.pending := by
  unfold State.discardPoisoned
  (repeat' split) <;> simp

@[simp] theorem State.poisonedArrival_frame (s : State) (p : Port) (bytes : List Byte) :
    (s.poisonedArrival p bytes).lenses = s.lenses ∧ (s.poisonedArrival p bytes).profiles = s.profiles ∧
    (s.poisonedArrival p bytes).selector = s.selector ∧ (s.poisonedArrival p bytes).screens = s.screens ∧
    (s.poisonedArrival p bytes).views = s.views ∧ (s.poisonedArrival p bytes).loader = s.loader ∧
    (s.poisonedArrival p bytes).flash = s.flash ∧ (s.poisonedArrival p bytes).straps = s.straps ∧
    (s.poisonedArrival p bytes).held = s.held ∧ (s.poisonedArrival p bytes).freeUsed = s.freeUsed ∧
    (s.poisonedArrival p bytes).pending = s.pending := by
  unfold State.poisonedArrival
  dsimp only
  (repeat' split) <;> simp

@[simp] theorem State.linkUp_frame (s : State) (p : Port) :
    (s.linkUp p).streams = s.streams ∧ (s.linkUp p).channels = s.channels ∧ (s.linkUp p).lenses = s.lenses ∧
    (s.linkUp p).profiles = s.profiles ∧ (s.linkUp p).selector = s.selector ∧ (s.linkUp p).screens = s.screens ∧
    (s.linkUp p).views = s.views ∧ (s.linkUp p).alerts = s.alerts ∧ (s.linkUp p).loader = s.loader ∧
    (s.linkUp p).flash = s.flash ∧ (s.linkUp p).straps = s.straps ∧ (s.linkUp p).held = s.held ∧
    (s.linkUp p).freeUsed = s.freeUsed ∧ (s.linkUp p).pending = s.pending := by
  unfold State.linkUp
  (repeat' split) <;> simp

@[simp] theorem State.portLost_frame (s : State) (p : Port) :
    (s.portLost p).profiles = s.profiles ∧ (s.portLost p).selector = s.selector ∧ (s.portLost p).screens = s.screens ∧
    (s.portLost p).views = s.views ∧ (s.portLost p).loader = s.loader ∧ (s.portLost p).flash = s.flash ∧
    (s.portLost p).straps = s.straps ∧ (s.portLost p).held = s.held ∧ (s.portLost p).freeUsed = s.freeUsed ∧
    (s.portLost p).pending = s.pending := by
  unfold State.portLost
  (repeat' split) <;> simp

@[simp] theorem State.linkDown_frame (s : State) (p : Port) (arrived : Option (List Byte)) :
    (s.linkDown p arrived).profiles = s.profiles ∧ (s.linkDown p arrived).selector = s.selector ∧
    (s.linkDown p arrived).screens = s.screens ∧ (s.linkDown p arrived).views = s.views ∧
    (s.linkDown p arrived).loader = s.loader ∧ (s.linkDown p arrived).flash = s.flash ∧
    (s.linkDown p arrived).straps = s.straps ∧ (s.linkDown p arrived).held = s.held ∧
    (s.linkDown p arrived).freeUsed = s.freeUsed ∧ (s.linkDown p arrived).pending = s.pending := by
  unfold State.linkDown
  dsimp only
  (repeat' split) <;> simp

@[simp] theorem State.stopLens_frame (s : State) (i : Fin 8) :
    (s.stopLens i).cams = s.cams ∧ (s.stopLens i).trunks = s.trunks ∧ (s.stopLens i).streams = s.streams ∧
    (s.stopLens i).channels = s.channels ∧ (s.stopLens i).profiles = s.profiles ∧ (s.stopLens i).selector = s.selector ∧
    (s.stopLens i).screens = s.screens ∧ (s.stopLens i).views = s.views ∧ (s.stopLens i).loader = s.loader ∧
    (s.stopLens i).flash = s.flash ∧ (s.stopLens i).straps = s.straps ∧ (s.stopLens i).held = s.held ∧
    (s.stopLens i).freeUsed = s.freeUsed ∧ (s.stopLens i).pending = s.pending := by
  unfold State.stopLens
  simp

@[simp] theorem State.disablePort_frame (s : State) (i : Fin 8) :
    (s.disablePort i).profiles = s.profiles ∧ (s.disablePort i).selector = s.selector ∧ (s.disablePort i).screens = s.screens ∧
    (s.disablePort i).views = s.views ∧ (s.disablePort i).loader = s.loader ∧ (s.disablePort i).flash = s.flash ∧
    (s.disablePort i).straps = s.straps ∧ (s.disablePort i).held = s.held ∧ (s.disablePort i).pending = s.pending := by
  unfold State.disablePort
  simp

@[simp] theorem State.clearErrors_frame (s : State) (p : Port) :
    (s.clearErrors p).streams = s.streams ∧ (s.clearErrors p).channels = s.channels ∧ (s.clearErrors p).lenses = s.lenses ∧
    (s.clearErrors p).profiles = s.profiles ∧ (s.clearErrors p).selector = s.selector ∧ (s.clearErrors p).screens = s.screens ∧
    (s.clearErrors p).views = s.views ∧ (s.clearErrors p).alerts = s.alerts ∧ (s.clearErrors p).orders = s.orders ∧
    (s.clearErrors p).loader = s.loader ∧ (s.clearErrors p).flash = s.flash ∧ (s.clearErrors p).straps = s.straps ∧
    (s.clearErrors p).held = s.held ∧ (s.clearErrors p).freeUsed = s.freeUsed ∧ (s.clearErrors p).pending = s.pending := by
  unfold State.clearErrors
  dsimp only
  (repeat' split) <;> simp

@[simp] theorem State.restartPort_frame (s : State) (p : Port) :
    (s.restartPort p).profiles = s.profiles ∧ (s.restartPort p).selector = s.selector ∧ (s.restartPort p).screens = s.screens ∧
    (s.restartPort p).views = s.views ∧ (s.restartPort p).loader = s.loader ∧ (s.restartPort p).flash = s.flash ∧
    (s.restartPort p).straps = s.straps ∧ (s.restartPort p).held = s.held ∧ (s.restartPort p).pending = s.pending := by
  unfold State.restartPort
  dsimp only
  (repeat' split) <;> simp

/-! ## View selector (spec 06) -/

@[simp] theorem State.recompute_frame (s : State) (sc : Fin 2) :
    (s.recompute sc).cams = s.cams ∧ (s.recompute sc).trunks = s.trunks ∧ (s.recompute sc).streams = s.streams ∧
    (s.recompute sc).channels = s.channels ∧ (s.recompute sc).lenses = s.lenses ∧ (s.recompute sc).profiles = s.profiles ∧
    (s.recompute sc).screens = s.screens ∧ (s.recompute sc).views = s.views ∧ (s.recompute sc).alerts = s.alerts ∧
    (s.recompute sc).loader = s.loader ∧ (s.recompute sc).flash = s.flash ∧ (s.recompute sc).straps = s.straps ∧
    (s.recompute sc).held = s.held ∧ (s.recompute sc).freeUsed = s.freeUsed ∧ (s.recompute sc).pending = s.pending := by
  unfold State.recompute
  dsimp only
  simp

@[simp] theorem State.recomputeBoth_frame (s : State) :
    s.recomputeBoth.cams = s.cams ∧ s.recomputeBoth.trunks = s.trunks ∧ s.recomputeBoth.streams = s.streams ∧
    s.recomputeBoth.channels = s.channels ∧ s.recomputeBoth.lenses = s.lenses ∧ s.recomputeBoth.profiles = s.profiles ∧
    s.recomputeBoth.screens = s.screens ∧ s.recomputeBoth.views = s.views ∧ s.recomputeBoth.alerts = s.alerts ∧
    s.recomputeBoth.loader = s.loader ∧ s.recomputeBoth.flash = s.flash ∧ s.recomputeBoth.straps = s.straps ∧
    s.recomputeBoth.held = s.held ∧ s.recomputeBoth.freeUsed = s.freeUsed ∧ s.recomputeBoth.pending = s.pending := by
  unfold State.recomputeBoth
  simp

@[simp] theorem State.vectorChanged_frame (s : State) :
    s.vectorChanged.cams = s.cams ∧ s.vectorChanged.trunks = s.trunks ∧ s.vectorChanged.streams = s.streams ∧
    s.vectorChanged.channels = s.channels ∧ s.vectorChanged.lenses = s.lenses ∧ s.vectorChanged.profiles = s.profiles ∧
    s.vectorChanged.screens = s.screens ∧ s.vectorChanged.views = s.views ∧ s.vectorChanged.alerts = s.alerts ∧
    s.vectorChanged.loader = s.loader ∧ s.vectorChanged.flash = s.flash ∧ s.vectorChanged.straps = s.straps ∧
    s.vectorChanged.held = s.held ∧ s.vectorChanged.freeUsed = s.freeUsed ∧ s.vectorChanged.pending = s.pending := by
  unfold State.vectorChanged
  dsimp only
  (repeat' split) <;> simp

@[simp] theorem State.setFiltered_frame (s : State) (d : Fin 8) (level : Bool) (stop : Nat) :
    (s.setFiltered d level stop).cams = s.cams ∧ (s.setFiltered d level stop).trunks = s.trunks ∧
    (s.setFiltered d level stop).streams = s.streams ∧ (s.setFiltered d level stop).channels = s.channels ∧
    (s.setFiltered d level stop).lenses = s.lenses ∧ (s.setFiltered d level stop).profiles = s.profiles ∧
    (s.setFiltered d level stop).screens = s.screens ∧ (s.setFiltered d level stop).views = s.views ∧
    (s.setFiltered d level stop).alerts = s.alerts ∧ (s.setFiltered d level stop).loader = s.loader ∧
    (s.setFiltered d level stop).flash = s.flash ∧ (s.setFiltered d level stop).straps = s.straps ∧
    (s.setFiltered d level stop).held = s.held ∧ (s.setFiltered d level stop).freeUsed = s.freeUsed ∧
    (s.setFiltered d level stop).pending = s.pending := by
  unfold State.setFiltered
  dsimp only
  (repeat' split) <;> simp

@[simp] theorem State.doorChange_frame (s : State) (d : Fin 8) (level : Bool) :
    (s.doorChange d level).cams = s.cams ∧ (s.doorChange d level).trunks = s.trunks ∧
    (s.doorChange d level).streams = s.streams ∧ (s.doorChange d level).channels = s.channels ∧
    (s.doorChange d level).lenses = s.lenses ∧ (s.doorChange d level).profiles = s.profiles ∧
    (s.doorChange d level).screens = s.screens ∧ (s.doorChange d level).views = s.views ∧
    (s.doorChange d level).alerts = s.alerts ∧ (s.doorChange d level).loader = s.loader ∧
    (s.doorChange d level).flash = s.flash ∧ (s.doorChange d level).straps = s.straps ∧ (s.doorChange d level).held = s.held ∧
    (s.doorChange d level).freeUsed = s.freeUsed ∧ (s.doorChange d level).pending = s.pending := by
  unfold State.doorChange
  dsimp only
  (repeat' split) <;> simp

@[simp] theorem State.filterExpiry_frame (s : State) (d : Fin 8) :
    (s.filterExpiry d).cams = s.cams ∧ (s.filterExpiry d).trunks = s.trunks ∧ (s.filterExpiry d).streams = s.streams ∧
    (s.filterExpiry d).channels = s.channels ∧ (s.filterExpiry d).lenses = s.lenses ∧
    (s.filterExpiry d).profiles = s.profiles ∧ (s.filterExpiry d).screens = s.screens ∧ (s.filterExpiry d).views = s.views ∧
    (s.filterExpiry d).alerts = s.alerts ∧ (s.filterExpiry d).loader = s.loader ∧ (s.filterExpiry d).flash = s.flash ∧
    (s.filterExpiry d).straps = s.straps ∧ (s.filterExpiry d).held = s.held ∧ (s.filterExpiry d).freeUsed = s.freeUsed ∧
    (s.filterExpiry d).pending = s.pending := by
  unfold State.filterExpiry
  (repeat' split) <;> simp

@[simp] theorem State.setFilterTime_frame (s : State) (d : Fin 8) (time : Nat) :
    (s.setFilterTime d time).cams = s.cams ∧ (s.setFilterTime d time).trunks = s.trunks ∧
    (s.setFilterTime d time).streams = s.streams ∧ (s.setFilterTime d time).channels = s.channels ∧
    (s.setFilterTime d time).lenses = s.lenses ∧ (s.setFilterTime d time).profiles = s.profiles ∧
    (s.setFilterTime d time).screens = s.screens ∧ (s.setFilterTime d time).views = s.views ∧
    (s.setFilterTime d time).alerts = s.alerts ∧ (s.setFilterTime d time).loader = s.loader ∧
    (s.setFilterTime d time).flash = s.flash ∧ (s.setFilterTime d time).straps = s.straps ∧
    (s.setFilterTime d time).held = s.held ∧ (s.setFilterTime d time).freeUsed = s.freeUsed ∧
    (s.setFilterTime d time).pending = s.pending := by
  unfold State.setFilterTime
  dsimp only
  (repeat' split) <;> simp

@[simp] theorem State.setFilterTimes_frame (s : State) (mask : BitVec 8) (times : List Nat) :
    (s.setFilterTimes mask times).cams = s.cams ∧ (s.setFilterTimes mask times).trunks = s.trunks ∧
    (s.setFilterTimes mask times).streams = s.streams ∧ (s.setFilterTimes mask times).channels = s.channels ∧
    (s.setFilterTimes mask times).lenses = s.lenses ∧ (s.setFilterTimes mask times).profiles = s.profiles ∧
    (s.setFilterTimes mask times).screens = s.screens ∧ (s.setFilterTimes mask times).views = s.views ∧
    (s.setFilterTimes mask times).alerts = s.alerts ∧ (s.setFilterTimes mask times).loader = s.loader ∧
    (s.setFilterTimes mask times).flash = s.flash ∧ (s.setFilterTimes mask times).straps = s.straps ∧
    (s.setFilterTimes mask times).held = s.held ∧ (s.setFilterTimes mask times).freeUsed = s.freeUsed ∧
    (s.setFilterTimes mask times).pending = s.pending :=
  ⟨foldl_keeps State.cams _ (fun s x => by  split <;> simp) _ _,
    foldl_keeps State.trunks _ (fun s x => by  split <;> simp) _ _,
    foldl_keeps State.streams _ (fun s x => by  split <;> simp) _ _,
    foldl_keeps State.channels _ (fun s x => by  split <;> simp) _ _,
    foldl_keeps State.lenses _ (fun s x => by  split <;> simp) _ _,
    foldl_keeps State.profiles _ (fun s x => by  split <;> simp) _ _,
    foldl_keeps State.screens _ (fun s x => by  split <;> simp) _ _,
    foldl_keeps State.views _ (fun s x => by  split <;> simp) _ _,
    foldl_keeps State.alerts _ (fun s x => by  split <;> simp) _ _,
    foldl_keeps State.loader _ (fun s x => by  split <;> simp) _ _,
    foldl_keeps State.flash _ (fun s x => by  split <;> simp) _ _,
    foldl_keeps State.straps _ (fun s x => by  split <;> simp) _ _,
    foldl_keeps State.held _ (fun s x => by  split <;> simp) _ _,
    foldl_keeps State.freeUsed _ (fun s x => by  split <;> simp) _ _,
    foldl_keeps State.pending _ (fun s x => by  split <;> simp) _ _⟩

@[simp] theorem State.setLines_frame (s : State) (o : SetLines) :
    (s.setLines o).cams = s.cams ∧ (s.setLines o).trunks = s.trunks ∧ (s.setLines o).streams = s.streams ∧
    (s.setLines o).channels = s.channels ∧ (s.setLines o).lenses = s.lenses ∧ (s.setLines o).profiles = s.profiles ∧
    (s.setLines o).screens = s.screens ∧ (s.setLines o).views = s.views ∧ (s.setLines o).alerts = s.alerts ∧
    (s.setLines o).loader = s.loader ∧ (s.setLines o).flash = s.flash ∧ (s.setLines o).straps = s.straps ∧
    (s.setLines o).held = s.held ∧ (s.setLines o).freeUsed = s.freeUsed ∧ (s.setLines o).pending = s.pending := by
  unfold State.setLines
  dsimp only
  (repeat' split) <;> simp

@[simp] theorem State.lingerExpiry_frame (s : State) (t : Fin 16) :
    (s.lingerExpiry t).cams = s.cams ∧ (s.lingerExpiry t).trunks = s.trunks ∧ (s.lingerExpiry t).streams = s.streams ∧
    (s.lingerExpiry t).channels = s.channels ∧ (s.lingerExpiry t).lenses = s.lenses ∧
    (s.lingerExpiry t).profiles = s.profiles ∧ (s.lingerExpiry t).screens = s.screens ∧ (s.lingerExpiry t).views = s.views ∧
    (s.lingerExpiry t).alerts = s.alerts ∧ (s.lingerExpiry t).loader = s.loader ∧ (s.lingerExpiry t).flash = s.flash ∧
    (s.lingerExpiry t).straps = s.straps ∧ (s.lingerExpiry t).held = s.held ∧ (s.lingerExpiry t).freeUsed = s.freeUsed ∧
    (s.lingerExpiry t).pending = s.pending := by
  unfold State.lingerExpiry
  (repeat' split) <;> simp

@[simp] theorem State.setPin_frame (s : State) (sc : Fin 2) (pin : Option Pin) :
    (s.setPin sc pin).cams = s.cams ∧ (s.setPin sc pin).trunks = s.trunks ∧ (s.setPin sc pin).streams = s.streams ∧
    (s.setPin sc pin).channels = s.channels ∧ (s.setPin sc pin).lenses = s.lenses ∧ (s.setPin sc pin).profiles = s.profiles ∧
    (s.setPin sc pin).screens = s.screens ∧ (s.setPin sc pin).views = s.views ∧ (s.setPin sc pin).alerts = s.alerts ∧
    (s.setPin sc pin).loader = s.loader ∧ (s.setPin sc pin).flash = s.flash ∧ (s.setPin sc pin).straps = s.straps ∧
    (s.setPin sc pin).held = s.held ∧ (s.setPin sc pin).freeUsed = s.freeUsed ∧ (s.setPin sc pin).pending = s.pending := by
  unfold State.setPin
  dsimp only
  simp

@[simp] theorem State.silenceExpiry_frame (s : State) :
    s.silenceExpiry.cams = s.cams ∧ s.silenceExpiry.trunks = s.trunks ∧ s.silenceExpiry.streams = s.streams ∧
    s.silenceExpiry.channels = s.channels ∧ s.silenceExpiry.lenses = s.lenses ∧ s.silenceExpiry.profiles = s.profiles ∧
    s.silenceExpiry.screens = s.screens ∧ s.silenceExpiry.views = s.views ∧ s.silenceExpiry.alerts = s.alerts ∧
    s.silenceExpiry.loader = s.loader ∧ s.silenceExpiry.flash = s.flash ∧ s.silenceExpiry.straps = s.straps ∧
    s.silenceExpiry.held = s.held ∧ s.silenceExpiry.freeUsed = s.freeUsed ∧ s.silenceExpiry.pending = s.pending := by
  unfold State.silenceExpiry
  dsimp only
  (repeat' split) <;> simp

/-! ## Screens (spec 07) -/

@[simp] theorem State.releaseSlot_frame (s : State) (sc : Fin 2) (c : Fin 12) :
    (s.releaseSlot sc c).cams = s.cams ∧ (s.releaseSlot sc c).trunks = s.trunks ∧ (s.releaseSlot sc c).streams = s.streams ∧
    (s.releaseSlot sc c).lenses = s.lenses ∧ (s.releaseSlot sc c).profiles = s.profiles ∧
    (s.releaseSlot sc c).selector = s.selector ∧ (s.releaseSlot sc c).views = s.views ∧
    (s.releaseSlot sc c).loader = s.loader ∧ (s.releaseSlot sc c).flash = s.flash ∧ (s.releaseSlot sc c).straps = s.straps ∧
    (s.releaseSlot sc c).held = s.held ∧ (s.releaseSlot sc c).freeUsed = s.freeUsed ∧
    (s.releaseSlot sc c).pending = s.pending := by
  unfold State.releaseSlot
  simp

@[simp] theorem State.releaseWhere_frame (s : State) (sc : Fin 2) (f : Fin 12 → Bool) :
    (s.releaseWhere sc f).cams = s.cams ∧ (s.releaseWhere sc f).trunks = s.trunks ∧ (s.releaseWhere sc f).streams = s.streams ∧
    (s.releaseWhere sc f).lenses = s.lenses ∧ (s.releaseWhere sc f).profiles = s.profiles ∧
    (s.releaseWhere sc f).selector = s.selector ∧ (s.releaseWhere sc f).views = s.views ∧
    (s.releaseWhere sc f).loader = s.loader ∧ (s.releaseWhere sc f).flash = s.flash ∧ (s.releaseWhere sc f).straps = s.straps ∧
    (s.releaseWhere sc f).held = s.held ∧ (s.releaseWhere sc f).freeUsed = s.freeUsed ∧
    (s.releaseWhere sc f).pending = s.pending :=
  ⟨foldl_keeps State.cams _ (fun s x => by  split <;> simp) _ _,
    foldl_keeps State.trunks _ (fun s x => by  split <;> simp) _ _,
    foldl_keeps State.streams _ (fun s x => by  split <;> simp) _ _,
    foldl_keeps State.lenses _ (fun s x => by  split <;> simp) _ _,
    foldl_keeps State.profiles _ (fun s x => by  split <;> simp) _ _,
    foldl_keeps State.selector _ (fun s x => by  split <;> simp) _ _,
    foldl_keeps State.views _ (fun s x => by  split <;> simp) _ _,
    foldl_keeps State.loader _ (fun s x => by  split <;> simp) _ _,
    foldl_keeps State.flash _ (fun s x => by  split <;> simp) _ _,
    foldl_keeps State.straps _ (fun s x => by  split <;> simp) _ _,
    foldl_keeps State.held _ (fun s x => by  split <;> simp) _ _,
    foldl_keeps State.freeUsed _ (fun s x => by  split <;> simp) _ _,
    foldl_keeps State.pending _ (fun s x => by  split <;> simp) _ _⟩

@[simp] theorem State.disableScreen_frame (s : State) (sc : Fin 2) :
    (s.disableScreen sc).cams = s.cams ∧ (s.disableScreen sc).trunks = s.trunks ∧ (s.disableScreen sc).streams = s.streams ∧
    (s.disableScreen sc).lenses = s.lenses ∧ (s.disableScreen sc).profiles = s.profiles ∧
    (s.disableScreen sc).selector = s.selector ∧ (s.disableScreen sc).views = s.views ∧
    (s.disableScreen sc).loader = s.loader ∧ (s.disableScreen sc).flash = s.flash ∧ (s.disableScreen sc).straps = s.straps ∧
    (s.disableScreen sc).held = s.held ∧ (s.disableScreen sc).freeUsed = s.freeUsed ∧
    (s.disableScreen sc).pending = s.pending := by
  unfold State.disableScreen
  dsimp only
  simp

@[simp] theorem State.takeSlot_frame (s : State) (sc : Fin 2) (c : Fin 12) :
    (s.takeSlot sc c).cams = s.cams ∧ (s.takeSlot sc c).trunks = s.trunks ∧ (s.takeSlot sc c).streams = s.streams ∧
    (s.takeSlot sc c).lenses = s.lenses ∧ (s.takeSlot sc c).profiles = s.profiles ∧ (s.takeSlot sc c).selector = s.selector ∧
    (s.takeSlot sc c).views = s.views ∧ (s.takeSlot sc c).loader = s.loader ∧ (s.takeSlot sc c).flash = s.flash ∧
    (s.takeSlot sc c).straps = s.straps ∧ (s.takeSlot sc c).held = s.held ∧ (s.takeSlot sc c).freeUsed = s.freeUsed ∧
    (s.takeSlot sc c).pending = s.pending := by
  unfold State.takeSlot
  dsimp only
  simp

@[simp] theorem State.takeWhere_frame (s : State) (sc : Fin 2) (f : Fin 12 → Bool) :
    (s.takeWhere sc f).cams = s.cams ∧ (s.takeWhere sc f).trunks = s.trunks ∧ (s.takeWhere sc f).streams = s.streams ∧
    (s.takeWhere sc f).lenses = s.lenses ∧ (s.takeWhere sc f).profiles = s.profiles ∧
    (s.takeWhere sc f).selector = s.selector ∧ (s.takeWhere sc f).views = s.views ∧ (s.takeWhere sc f).loader = s.loader ∧
    (s.takeWhere sc f).flash = s.flash ∧ (s.takeWhere sc f).straps = s.straps ∧ (s.takeWhere sc f).held = s.held ∧
    (s.takeWhere sc f).freeUsed = s.freeUsed ∧ (s.takeWhere sc f).pending = s.pending :=
  ⟨foldl_keeps State.cams _ (fun s x => by  split <;> simp) _ _,
    foldl_keeps State.trunks _ (fun s x => by  split <;> simp) _ _,
    foldl_keeps State.streams _ (fun s x => by  split <;> simp) _ _,
    foldl_keeps State.lenses _ (fun s x => by  split <;> simp) _ _,
    foldl_keeps State.profiles _ (fun s x => by  split <;> simp) _ _,
    foldl_keeps State.selector _ (fun s x => by  split <;> simp) _ _,
    foldl_keeps State.views _ (fun s x => by  split <;> simp) _ _,
    foldl_keeps State.loader _ (fun s x => by  split <;> simp) _ _,
    foldl_keeps State.flash _ (fun s x => by  split <;> simp) _ _,
    foldl_keeps State.straps _ (fun s x => by  split <;> simp) _ _,
    foldl_keeps State.held _ (fun s x => by  split <;> simp) _ _,
    foldl_keeps State.freeUsed _ (fun s x => by  split <;> simp) _ _,
    foldl_keeps State.pending _ (fun s x => by  split <;> simp) _ _⟩

@[simp] theorem State.composeFrame_frame (s : State) (sc : Fin 2) (r : FrameReading) :
    (s.composeFrame sc r).cams = s.cams ∧ (s.composeFrame sc r).trunks = s.trunks ∧ (s.composeFrame sc r).streams = s.streams ∧
    (s.composeFrame sc r).lenses = s.lenses ∧ (s.composeFrame sc r).profiles = s.profiles ∧
    (s.composeFrame sc r).selector = s.selector ∧ (s.composeFrame sc r).views = s.views ∧ (s.composeFrame sc r).loader = s.loader ∧
    (s.composeFrame sc r).flash = s.flash ∧ (s.composeFrame sc r).straps = s.straps ∧ (s.composeFrame sc r).held = s.held ∧
    (s.composeFrame sc r).freeUsed = s.freeUsed ∧ (s.composeFrame sc r).pending = s.pending := by
  unfold State.composeFrame
  dsimp only
  simp

/-- The reading a start composes from: always of the chosen view as it stands, with the decisions of the reading made before as long as
that is so, and else with those of the channels as they stand (R125, R128, R131). -/
theorem State.startReading_spec (s : State) (sc : Fin 2) :
    (s.startReading sc).view = (Tab.get s.selector.chosen sc).view ∧
    (s.startReading sc).copy = Tab.get s.views (Tab.get s.selector.chosen sc).view ∧
    ((s.screen sc).reading = some (s.startReading sc) ∨ s.startReading sc = s.readFrame sc) := by
  unfold State.startReading
  dsimp only
  split
  · split
    · next h r hs => exact ⟨hs.1, hs.2, .inl ‹_›⟩
    · exact ⟨rfl, rfl, .inr rfl⟩
  · exact ⟨rfl, rfl, .inr rfl⟩

@[simp] theorem State.frameStart_frame (s : State) (sc : Fin 2) :
    (s.frameStart sc).cams = s.cams ∧ (s.frameStart sc).trunks = s.trunks ∧ (s.frameStart sc).streams = s.streams ∧
    (s.frameStart sc).lenses = s.lenses ∧ (s.frameStart sc).profiles = s.profiles ∧ (s.frameStart sc).selector = s.selector ∧
    (s.frameStart sc).views = s.views ∧ (s.frameStart sc).loader = s.loader ∧ (s.frameStart sc).flash = s.flash ∧
    (s.frameStart sc).straps = s.straps ∧ (s.frameStart sc).held = s.held ∧ (s.frameStart sc).freeUsed = s.freeUsed ∧
    (s.frameStart sc).pending = s.pending := by
  unfold State.frameStart
  dsimp only
  (repeat' split) <;> simp

/-! ## Settings loader (spec 10) -/

@[simp] theorem State.continueLoad_frame (s : State) (todo : List ImageEntry) :
    (s.continueLoad todo).cams = s.cams ∧ (s.continueLoad todo).trunks = s.trunks ∧ (s.continueLoad todo).streams = s.streams ∧
    (s.continueLoad todo).channels = s.channels ∧ (s.continueLoad todo).lenses = s.lenses ∧
    (s.continueLoad todo).profiles = s.profiles ∧ (s.continueLoad todo).selector = s.selector ∧
    (s.continueLoad todo).screens = s.screens ∧ (s.continueLoad todo).views = s.views ∧
    (s.continueLoad todo).alerts = s.alerts ∧ (s.continueLoad todo).flash = s.flash ∧ (s.continueLoad todo).straps = s.straps ∧
    (s.continueLoad todo).held = s.held ∧ (s.continueLoad todo).freeUsed = s.freeUsed ∧
    (s.continueLoad todo).pending = s.pending := by
  unfold State.continueLoad
  (repeat' split) <;> simp

@[simp] theorem State.endSave_frame (s : State) (j : SaveJob) (a : Answer) :
    (s.endSave j a).cams = s.cams ∧ (s.endSave j a).trunks = s.trunks ∧ (s.endSave j a).streams = s.streams ∧
    (s.endSave j a).channels = s.channels ∧ (s.endSave j a).lenses = s.lenses ∧ (s.endSave j a).profiles = s.profiles ∧
    (s.endSave j a).selector = s.selector ∧ (s.endSave j a).screens = s.screens ∧ (s.endSave j a).views = s.views ∧
    (s.endSave j a).alerts = s.alerts ∧ (s.endSave j a).flash = s.flash ∧ (s.endSave j a).straps = s.straps ∧
    (s.endSave j a).held = s.held ∧ (s.endSave j a).freeUsed = s.freeUsed ∧ (s.endSave j a).pending = s.pending := by
  unfold State.endSave
  simp

@[simp] theorem State.cutFlash_frame (s : State) (j : SaveJob) :
    (s.cutFlash j).cams = s.cams ∧ (s.cutFlash j).trunks = s.trunks ∧ (s.cutFlash j).streams = s.streams ∧
    (s.cutFlash j).channels = s.channels ∧ (s.cutFlash j).lenses = s.lenses ∧ (s.cutFlash j).profiles = s.profiles ∧
    (s.cutFlash j).selector = s.selector ∧ (s.cutFlash j).screens = s.screens ∧ (s.cutFlash j).views = s.views ∧
    (s.cutFlash j).alerts = s.alerts ∧ (s.cutFlash j).orders = s.orders ∧ (s.cutFlash j).loader = s.loader ∧
    (s.cutFlash j).straps = s.straps ∧ (s.cutFlash j).held = s.held ∧ (s.cutFlash j).pending = s.pending := by
  unfold State.cutFlash
  dsimp only
  simp

@[simp] theorem State.failSave_frame (s : State) (j : SaveJob) :
    (s.failSave j).cams = s.cams ∧ (s.failSave j).trunks = s.trunks ∧ (s.failSave j).streams = s.streams ∧
    (s.failSave j).channels = s.channels ∧ (s.failSave j).lenses = s.lenses ∧ (s.failSave j).profiles = s.profiles ∧
    (s.failSave j).selector = s.selector ∧ (s.failSave j).screens = s.screens ∧ (s.failSave j).views = s.views ∧
    (s.failSave j).alerts = s.alerts ∧ (s.failSave j).straps = s.straps ∧ (s.failSave j).held = s.held ∧
    (s.failSave j).pending = s.pending := by
  unfold State.failSave
  simp

end Sys2Proof.Machine
end

