-- ==== Sys2Proof/Laws/Channels.lean ====
section
/-! SUPPORT. What an event at a channel does to the state (R62, R145), and when it does nothing. -/

namespace Sys2Proof.Machine

theorem State.updChannel_congr (s : State) (c : Fin 12) (f g : Channel → Channel) (h : f (s.channel c) = g (s.channel c)) :
    s.updChannel c f = s.updChannel c g := by
  unfold State.updChannel
  rw [Tab.upd_congr _ _ _ g h]

theorem State.updChannel_same (s : State) (c : Fin 12) (f : Channel → Channel) (h : f (s.channel c) = s.channel c) :
    s.updChannel c f = s := by
  unfold State.updChannel
  rw [Tab.upd_same _ _ _ h]

/-- While nothing is due a running frame age is below the limit at which its channel changes (R60), and so is at its limit at most
after 1 ms more. -/
theorem State.age_below_limits {s : State} (h : s.due = []) (c : Fin 12) (hr : (s.channel c).age.running = true) :
    ((s.channel c).state = .live → (s.channel c).age.ms < (s.channel c).staleTime) ∧
    ((s.channel c).state = .waiting ∨ (s.channel c).state = .stale → (s.channel c).age.ms < (s.channel c).lostTime) := by
  have hc : s.channelDue c = [] := by
    simp only [State.due, List.append_eq_nil_iff, List.flatMap_eq_nil_iff] at h
    exact h.1.1.1.1.1.2 c (List.mem_finRange c)
  simp only [State.channelDue, List.append_eq_nil_iff, dueIf, ite_eq_right_iff] at hc
  have hr' : (Tab.get s.channels c).age.running = true := hr
  refine ⟨fun hs => Nat.lt_of_not_le fun hl => ?_, fun hs => Nat.lt_of_not_le fun hl => ?_⟩
  · have hs' : (Tab.get s.channels c).state = .live := hs
    have hl' : (Tab.get s.channels c).staleTime ≤ (Tab.get s.channels c).age.ms := hl
    exact absurd (hc.1 (by simp [hr', hs', hl'])) (by simp)
  · have hs' : (Tab.get s.channels c).state = .waiting ∨ (Tab.get s.channels c).state = .stale := hs
    have hl' : (Tab.get s.channels c).lostTime ≤ (Tab.get s.channels c).age.ms := hl
    exact absurd (hc.2 (by rcases hs' with hs' | hs' <;> simp [hr', hs', hl'])) (by simp)

/-- The channels after an event at one of them. -/
@[simp] theorem State.channelEvent_channels (s : State) (c : Fin 12) (f : Channel → Channel) :
    (s.channelEvent c f).channels = Tab.upd s.channels c f := by
  unfold State.channelEvent
  dsimp only
  split <;> simp

/-- An event that changes neither the state nor the grade of its channel is seen by no other block (R62, R145). -/
theorem State.channelEvent_quiet (s : State) (c : Fin 12) (f : Channel → Channel)
    (hs : (f (s.channel c)).state = (s.channel c).state) (hg : (f (s.channel c)).grade = (s.channel c).grade) :
    s.channelEvent c f = s.updChannel c f := by
  simp only [State.channel] at hs hg
  simp [State.channelEvent, State.offerIf, hs, hg]

/-- An event that leaves its channel as it is does nothing. -/
theorem State.channelEvent_same (s : State) (c : Fin 12) (f : Channel → Channel) (h : f (s.channel c) = s.channel c) :
    s.channelEvent c f = s := by
  rw [State.channelEvent_quiet s c f (by rw [h]) (by rw [h]), State.updChannel_same s c f h]

/-- An event that changes the state of its channel offers a SOURCE notice and is seen by the alert entries (R62, R145). -/
theorem State.channelEvent_of_state_ne (s : State) (c : Fin 12) (f : Channel → Channel)
    (h : (f (s.channel c)).state ≠ (s.channel c).state) :
    s.channelEvent c f =
      ((s.updChannel c f).offer (.source c (s.channel c).state (f (s.channel c)).state)).alertsOfChannel c := by
  have h : ¬((s.channel c).state = (f (s.channel c)).state) := fun e => h e.symm
  change (if (decide ((s.channel c).state ≠ (f (s.channel c)).state) || _) = true then
    (State.offerIf _ (decide ((s.channel c).state ≠ (f (s.channel c)).state)) _).alertsOfChannel c else _) = _
  simp [State.offerIf, h]
  rfl

end Sys2Proof.Machine
end

