-- ==== Sys2Proof/Laws/Lens.lean ====
section
/-! SUPPORT. What an event at a lens record does to the state (R80, R92, R145), and the reading of one lens record. -/

namespace Sys2Proof.Machine

@[simp] theorem State.lens_updLens_self (s : State) (i : Fin 8) (f : Lens → Lens) : (s.updLens i f).lens i = f (s.lens i) := by
  simp [State.lens]

@[simp] theorem State.lens_updLens_of_ne (s : State) {i j : Fin 8} (f : Lens → Lens) (h : j ≠ i) : (s.updLens i f).lens j = s.lens j := by
  simp [State.lens, h]

/-- The lens records follow from the lens table. -/
theorem State.lens_congr {s t : State} (h : t.lenses = s.lenses) (i : Fin 8) : t.lens i = s.lens i := by
  rw [State.lens, h, ← State.lens]

/-- The lens table after an event at one of its records. -/
@[simp] theorem State.lensEvent_lenses (s : State) (i : Fin 8) (f : Lens → Lens × Option LearnEnd) :
    (s.lensEvent i f).lenses = Tab.upd s.lenses i (fun l => (f l).1) := by
  unfold State.lensEvent
  have e : Tab.upd s.lenses i (fun _ => (f (s.lens i)).1) = Tab.upd s.lenses i (fun l => (f l).1) := Tab.upd_congr _ _ _ _ rfl
  dsimp only
  (repeat' split) <;> simp [e]

@[simp] theorem State.lens_lensEvent_self (s : State) (i : Fin 8) (f : Lens → Lens × Option LearnEnd) :
    (s.lensEvent i f).lens i = (f (s.lens i)).1 := by
  simp [State.lens]

@[simp] theorem State.lens_lensEvent_of_ne (s : State) {i j : Fin 8} (f : Lens → Lens × Option LearnEnd) (h : j ≠ i) :
    (s.lensEvent i f).lens j = s.lens j := by
  simp [State.lens, h]

/-- The order unit after an event at a lens record: a GRADE notice for a changed grade, then a LEARN-END notice (R80, R92). -/
theorem State.lensEvent_orders (s : State) (i : Fin 8) (f : Lens → Lens × Option LearnEnd) :
    (s.lensEvent i f).orders =
      (let u := if (s.lens i).stated ≠ (f (s.lens i)).1.stated then
          s.orders.offer (.grade i (s.lens i).stated (f (s.lens i)).1.stated (gradeShare (s.lens i) (f (s.lens i)).1))
        else s.orders
      match (f (s.lens i)).2 with
      | some e => u.offer (.learnEnd i e)
      | none => u) := by
  unfold State.lensEvent
  by_cases h : (s.lens i).stated = (f (s.lens i)).1.stated <;> cases e : (f (s.lens i)).2 <;> simp [h, e, State.offerIf]

/-- The lens records after an event at every port that names a profile (R95, R96). -/
theorem State.lens_lensEventsOfProfile (s : State) (lp : Fin 4) (f : Lens → Lens × Option LearnEnd) (j : Fin 8) :
    (s.lensEventsOfProfile lp f).lens j = if (Tab.get s.cams j).profile = lp then (f (s.lens j)).1 else s.lens j := by
  have h : ∀ (l : List (Fin 8)) (x : State), l.Nodup → x.cams = s.cams →
      (l.foldl (fun s i => if (Tab.get s.cams i).profile = lp then s.lensEvent i f else s) x).lens j =
        if j ∈ l ∧ (Tab.get s.cams j).profile = lp then (f (x.lens j)).1 else x.lens j := by
    intro l
    induction l with
    | nil => intro x _ _; simp
    | cons a rest ih =>
      intro x hn hx
      have hna := (List.nodup_cons.1 hn).1
      rw [List.foldl_cons, ih _ (List.nodup_cons.1 hn).2 (by split <;> simp [hx])]
      by_cases hja : j = a
      · subst hja
        simp only [hna, false_and, if_false, List.mem_cons, true_or, true_and, hx]
        split <;> simp
      · have : (if (Tab.get x.cams a).profile = lp then x.lensEvent a f else x).lens j = x.lens j := by
          split
          · exact State.lens_lensEvent_of_ne x f hja
          · rfl
        simp only [this, List.mem_cons, hja, false_or]
  have := h (List.finRange 8) s (List.nodup_finRange 8) rfl
  simp only [List.mem_finRange, true_and] at this
  exact this

end Sys2Proof.Machine
end

