-- ==== Sys2Proof/Laws/Alerts.lean ====
section
/-! SUPPORT. How the alert entries follow their members (R144 to R147). -/

namespace Sys2Proof.Machine

/-- An entry stands for the demand `d`: its demand, its pulse timer and its line (R146). -/
def Alert.Follows (e : Alert) (d : Bool) : Prop :=
  e.demand = d ∧ (e.pulse.isSome = true ↔ e.demand = true) ∧ e.line = lineActivity e.settings.style e.demand e.pulse

@[simp] theorem Alert.withDemand_settings (e : Alert) (d : Bool) : (e.withDemand d).settings = e.settings := by
  unfold Alert.withDemand
  (repeat' split) <;> rfl

/-- An entry that stood for some demand stands, once evaluated, for the demand it was evaluated to. -/
theorem Alert.Follows.withDemand {e : Alert} {d₀ : Bool} (h : e.Follows d₀) (d : Bool) : (e.withDemand d).Follows d := by
  obtain ⟨-, hp, hl⟩ := h
  unfold Alert.withDemand
  split
  · next hd => exact ⟨hd.symm, hp, hl⟩
  · split
    · next h1 => exact ⟨h1.symm, by simp, by cases e.settings.style <;> simp [lineActivity]⟩
    · next h1 => exact ⟨by simp at h1; simp [h1], by simp, by simp [lineActivity]⟩

/-- The same for an entry that takes new settings (R143). -/
theorem Alert.Follows.withSettings {e : Alert} {d₀ : Bool} (h : e.Follows d₀) (a : AlertSettings) (d : Bool) :
    (e.withSettings a d).Follows d ∧ (e.withSettings a d).settings = a := by
  obtain ⟨-, hp, -⟩ := h
  unfold Alert.withSettings Alert.withDemand
  dsimp only
  split
  · next hd => exact ⟨⟨hd.symm, hp, rfl⟩, rfl⟩
  · split
    · next h1 => exact ⟨⟨h1.symm, by simp, rfl⟩, rfl⟩
    · next h1 => exact ⟨⟨by simp at h1; simp [h1], by simp, rfl⟩, rfl⟩

theorem State.alertsFollowMembers_iff (s : State) :
    s.AlertsFollowMembers ↔ ∀ a : Fin 4, (Tab.get s.alerts a).Follows (s.demandOf (Tab.get s.alerts a).settings) := Iff.rfl

/-- The demand of an entry depends only on the state and grade of its member channels and on the stated grade of its member
ports (R144). -/
theorem State.memberCalls_congr {s t : State} (a : AlertSettings)
    (hc : ∀ c : Fin 12, hasMember a.channels c.val = true →
      (Tab.get t.channels c).state = (Tab.get s.channels c).state ∧ (Tab.get t.channels c).grade = (Tab.get s.channels c).grade)
    (hp : ∀ p : Fin 8, hasMember a.ports p.val = true → (Tab.get t.lenses p).stated = (Tab.get s.lenses p).stated) :
    t.demandOf a = s.demandOf a := by
  have h : t.memberCalls a = s.memberCalls a := by
    unfold State.memberCalls
    congr 1
    · congr 1
      funext c
      cases h : hasMember a.channels c.val
      · simp
      · simp [(hc c h).1, (hc c h).2]
    · congr 1
      funext p
      cases h : hasMember a.ports p.val
      · simp
      · simp [hp p h]
  unfold State.demandOf
  split
  · rfl
  · rfl
  · exact h

/-- Entries that are evaluated wherever a demand may have changed follow their members (R145). -/
theorem State.evalAlertsWhere_follows {s : State} (member : AlertSettings → Bool)
    (h : ∀ a : Fin 4, ∃ d, (Tab.get s.alerts a).Follows d ∧
      (member (Tab.get s.alerts a).settings = false → d = s.demandOf (Tab.get s.alerts a).settings)) :
    (s.evalAlertsWhere member).AlertsFollowMembers := by
  intro a
  obtain ⟨d, hf, hd⟩ := h a
  have hdem : ∀ x, (s.evalAlertsWhere member).demandOf x = s.demandOf x := fun x =>
    State.memberCalls_congr x (fun _ _ => ⟨rfl, rfl⟩) (fun _ _ => rfl)
  have he : Tab.get (s.evalAlertsWhere member).alerts a =
      if member (Tab.get s.alerts a).settings then (Tab.get s.alerts a).withDemand (s.demandOf (Tab.get s.alerts a).settings)
      else Tab.get s.alerts a := by
    simp [State.evalAlertsWhere]
  change (Tab.get (s.evalAlertsWhere member).alerts a).Follows
    ((s.evalAlertsWhere member).demandOf (Tab.get (s.evalAlertsWhere member).alerts a).settings)
  rw [hdem, he]
  split
  · rw [Alert.withDemand_settings]
    exact hf.withDemand _
  · next hm => rw [← hd (by simpa using hm)]; exact hf

/-- Following the members depends only on the entries, the channels' states and grades and the ports' stated grades. -/
theorem State.AlertsFollowMembers.congr {s t : State} (h : s.AlertsFollowMembers) (ha : t.alerts = s.alerts)
    (hc : ∀ c : Fin 12, (t.channel c).state = (s.channel c).state ∧ (t.channel c).grade = (s.channel c).grade)
    (hp : ∀ p : Fin 8, (t.lens p).stated = (s.lens p).stated) : t.AlertsFollowMembers := by
  intro a
  rw [ha]
  have := State.memberCalls_congr (s := s) (t := t) (Tab.get s.alerts a).settings (fun c _ => hc c) (fun p _ => hp p)
  dsimp only
  rw [this]
  exact h a

/-- A channel event keeps the entries following their members (R145). -/
theorem State.AlertsFollowMembers.channelEvent {s : State} (h : s.AlertsFollowMembers) (c : Fin 12) (f : Channel → Channel) :
    (s.channelEvent c f).AlertsFollowMembers := by
  by_cases hq : (f (s.channel c)).state = (s.channel c).state ∧ (f (s.channel c)).grade = (s.channel c).grade
  · rw [State.channelEvent_quiet s c f hq.1 hq.2]
    refine h.congr rfl (fun d => ?_) (fun _ => rfl)
    by_cases hd : d = c
    · subst hd
      simp only [State.channel] at hq
      simp [State.channel, hq]
    · simp [State.channel, hd]
  · have hw : ∀ x : State, x.channels = Tab.upd s.channels c f → x.lenses = s.lenses → x.alerts = s.alerts →
        (x.alertsOfChannel c).AlertsFollowMembers := by
      intro x hx hl ha
      refine State.evalAlertsWhere_follows _ (fun a => ⟨s.demandOf (Tab.get s.alerts a).settings, ?_, ?_⟩)
      · rw [ha]; exact h a
      · intro hm
        rw [ha] at hm ⊢
        refine (State.memberCalls_congr _ (fun d hd => ?_) (fun _ _ => by rw [hl])).symm
        have : d ≠ c := fun e => by rw [e, hm] at hd; exact Bool.false_ne_true hd
        rw [hx, Tab.get_upd_of_ne _ _ this]
        exact ⟨rfl, rfl⟩
    have hq' : ¬((s.channel c).state = (f (s.channel c)).state ∧ (s.channel c).grade = (f (s.channel c)).grade) :=
      fun e => hq ⟨e.1.symm, e.2.symm⟩
    unfold State.channelEvent
    dsimp only
    rw [if_pos]
    · exact hw _ (by simp) (by simp) (by simp)
    · simp only [State.channel] at hq'
      simp only [Bool.or_eq_true, decide_eq_true_eq]
      tauto

/-- An event at a lens record keeps the entries following their members (R145). -/
theorem State.AlertsFollowMembers.lensEvent {s : State} (h : s.AlertsFollowMembers) (i : Fin 8)
    (f : Lens → Lens × Option LearnEnd) : (s.lensEvent i f).AlertsFollowMembers := by
  have hoff : ∀ (x : State) (o : Option LearnEnd), x.AlertsFollowMembers →
      (match o with | some e => x.offer (.learnEnd i e) | none => x).AlertsFollowMembers := by
    intro x o hx
    cases o
    · exact hx
    · exact hx.congr rfl (fun _ => ⟨rfl, rfl⟩) (fun _ => rfl)
  unfold State.lensEvent
  dsimp only
  apply hoff
  split
  · next hne =>
    refine State.evalAlertsWhere_follows _ (fun a => ⟨s.demandOf (Tab.get s.alerts a).settings, ?_, ?_⟩)
    · simp only [State.offerIf_frame, State.updLens_alerts]
      exact h a
    · intro hm
      simp only [State.offerIf_frame, State.updLens_alerts] at hm ⊢
      refine (State.memberCalls_congr _ (fun d _ => by simp) (fun p hp => ?_)).symm
      have : p ≠ i := fun e => by rw [e, hm] at hp; exact Bool.false_ne_true hp
      simp [this]
  · next he =>
    refine h.congr (by simp) (fun _ => by simp [State.channel]) (fun p => ?_)
    by_cases hp : p = i
    · subst hp
      simp only [State.lens] at he
      simp [State.lens]
      tauto
    · simp [State.lens, hp]

end Sys2Proof.Machine
end

