-- ==== Sys2Proof/Laws/Mem.lean ====
section
/-! SUPPORT. The two memories (boot flash, frame memory): a read after a write, and that every operation keeps the canonical form. -/

namespace Sys2Proof.Machine

/-! ## Reads -/

/-- A key that no entry holds reads as blank. -/
theorem Mem.read_of_forall_ne {α : Type} (blank : α) {m : List (Nat × α)} {a : Nat} (h : ∀ c ∈ m, c.1 ≠ a) :
    Mem.read blank m a = blank := by
  induction m with
  | nil => rfl
  | cons c rest ih =>
    have hc : ¬a = c.1 := fun e => h c (List.mem_cons_self ..) e.symm
    rw [Mem.read, if_neg hc]
    exact ih (fun d hd => h d (List.mem_cons_of_mem _ hd))

/-- A key that the first part does not hold is read in the second. -/
theorem Mem.read_append_right {α : Type} (blank : α) {m n : List (Nat × α)} {a : Nat} (h : ∀ c ∈ m, c.1 ≠ a) :
    Mem.read blank (m ++ n) a = Mem.read blank n a := by
  induction m with
  | nil => rfl
  | cons c rest ih =>
    have hc : ¬a = c.1 := fun e => h c (List.mem_cons_self ..) e.symm
    rw [List.cons_append, Mem.read, if_neg hc]
    exact ih (fun d hd => h d (List.mem_cons_of_mem _ hd))

/-- A key that the second part does not hold is read in the first. -/
theorem Mem.read_append_left {α : Type} (blank : α) {m n : List (Nat × α)} {a : Nat} (h : ∀ c ∈ n, c.1 ≠ a) :
    Mem.read blank (m ++ n) a = Mem.read blank m a := by
  induction m with
  | nil => exact Mem.read_of_forall_ne blank h
  | cons c rest ih =>
    rw [List.cons_append, Mem.read, Mem.read, ih]

/-- Taking entries out does not change what the kept keys read as. -/
theorem Mem.read_filter {α : Type} (blank : α) (p : Nat → Bool) (m : List (Nat × α)) {a : Nat} (h : p a = true) :
    Mem.read blank (m.filter (fun c => p c.1)) a = Mem.read blank m a := by
  induction m with
  | nil => rfl
  | cons c rest ih =>
    by_cases hc : p c.1 = true
    · rw [List.filter_cons_of_pos (p := fun c : Nat × α => p c.1) hc, Mem.read, Mem.read, ih]
    · have hn : ¬a = c.1 := fun e => hc (e ▸ h)
      rw [List.filter_cons_of_neg (p := fun c : Nat × α => p c.1) hc, Mem.read, if_neg hn, ih]

/-- The listed range reads as the function that fills it. -/
theorem Mem.read_range {α : Type} [DecidableEq α] (blank : α) (f : Nat → α) (a n k : Nat) :
    Mem.read blank ((List.range' a n).filterMap (fun k => if f k = blank then none else some (k, f k))) k =
      if a ≤ k ∧ k < a + n then f k else blank := by
  induction n generalizing a with
  | zero =>
    rw [if_neg (by omega)]
    rfl
  | succ n ih =>
    rw [List.range'_succ, List.filterMap_cons]
    by_cases hf : f a = blank
    · simp only [hf, if_true]
      rw [ih (a + 1)]
      by_cases hk : k = a
      · subst hk
        rw [if_neg (by omega), if_pos (by omega), hf]
      · by_cases h1 : a + 1 ≤ k ∧ k < a + 1 + n
        · rw [if_pos h1, if_pos (by omega)]
        · rw [if_neg h1, if_neg (by omega)]
    · simp only [hf, if_false, Mem.read]
      by_cases hk : k = a
      · rw [if_pos hk, if_pos (by omega), hk]
      · rw [if_neg hk, ih (a + 1)]
        by_cases h1 : a + 1 ≤ k ∧ k < a + 1 + n
        · rw [if_pos h1, if_pos (by omega)]
        · rw [if_neg h1, if_neg (by omega)]

/-- A key of the listed range lies in it. -/
theorem Mem.mem_range {α : Type} [DecidableEq α] {blank : α} {f : Nat → α} {a n : Nat} {c : Nat × α}
    (h : c ∈ (List.range' a n).filterMap (fun k => if f k = blank then none else some (k, f k))) :
    a ≤ c.1 ∧ c.1 < a + n ∧ c.2 ≠ blank := by
  obtain ⟨k, hk, hc⟩ := List.mem_filterMap.1 h
  have hr := List.mem_range'_1.1 hk
  split at hc
  · cases hc
  · next hb =>
    cases hc
    exact ⟨hr.1, hr.2, hb⟩

/-- After an overwrite the range reads as given, and every other key as before. -/
theorem Mem.read_overwrite {α : Type} [DecidableEq α] (blank : α) (m : List (Nat × α)) (a n : Nat) (f : Nat → α) (k : Nat) :
    Mem.read blank (Mem.overwrite blank m a n f) k = if a ≤ k ∧ k < a + n then f k else Mem.read blank m k := by
  have low : ∀ c ∈ m.filter (fun c => decide (c.1 < a)), c.1 < a := fun c hc => by simpa using (List.mem_filter.1 hc).2
  have high : ∀ c ∈ m.filter (fun c => decide (a + n ≤ c.1)), a + n ≤ c.1 := fun c hc => by simpa using (List.mem_filter.1 hc).2
  unfold Mem.overwrite
  by_cases hk : a ≤ k ∧ k < a + n
  · rw [if_pos hk, Mem.read_append_left blank (fun c hc => by have := high c hc; omega),
      Mem.read_append_right blank (fun c hc => by have := low c hc; omega), Mem.read_range, if_pos hk]
  · rw [if_neg hk]
    by_cases hl : k < a
    · rw [Mem.read_append_left blank (fun c hc => by have := high c hc; omega),
        Mem.read_append_left blank (fun c hc => by have := (Mem.mem_range hc).1; omega)]
      exact Mem.read_filter blank (fun x => decide (x < a)) m (by simpa using hl)
    · rw [List.append_assoc, Mem.read_append_right blank (fun c hc => by have := low c hc; omega),
        Mem.read_append_right blank (fun c hc => by have := Mem.mem_range hc; omega)]
      exact Mem.read_filter blank (fun x => decide (a + n ≤ x)) m (by simpa using (by omega : a + n ≤ k))

/-! ## The canonical form -/

/-- The canonical form, as a property of the list: no blank entry, keys strictly rising. -/
theorem Mem.wf_iff {α : Type} [DecidableEq α] {blank : α} {m : List (Nat × α)} :
    Mem.wf blank m = true ↔ (∀ c ∈ m, c.2 ≠ blank) ∧ m.Pairwise (fun c d => c.1 < d.1) := by
  induction m with
  | nil => simp [Mem.wf]
  | cons c rest ih =>
    cases rest with
    | nil => simp [Mem.wf]
    | cons d rest =>
      obtain ⟨k, v⟩ := c
      obtain ⟨k', v'⟩ := d
      simp only [Mem.wf, Bool.and_eq_true, decide_eq_true_eq]
      rw [ih]
      constructor
      · rintro ⟨⟨hv, hk⟩, hb, hp⟩
        refine ⟨fun c hc => ?_, List.pairwise_cons.2 ⟨fun c hc => ?_, hp⟩⟩
        · rcases List.mem_cons.1 hc with rfl | hc
          · exact hv
          · exact hb c hc
        · rcases List.mem_cons.1 hc with rfl | hc
          · exact hk
          · exact Nat.lt_trans hk ((List.pairwise_cons.1 hp).1 c hc)
      · rintro ⟨hb, hp⟩
        obtain ⟨h1, h2⟩ := List.pairwise_cons.1 hp
        exact ⟨⟨hb _ (List.mem_cons_self ..), h1 _ (List.mem_cons_self ..)⟩, fun c hc => hb c (List.mem_cons_of_mem _ hc), h2⟩

/-- An overwrite keeps the canonical form. -/
theorem Mem.overwrite_wf {α : Type} [DecidableEq α] {blank : α} {m : List (Nat × α)} (a n : Nat) (f : Nat → α)
    (h : Mem.wf blank m = true) : Mem.wf blank (Mem.overwrite blank m a n f) = true := by
  obtain ⟨hb, hp⟩ := Mem.wf_iff.1 h
  have low : ∀ c ∈ m.filter (fun c => decide (c.1 < a)), c.1 < a := fun c hc => by simpa using (List.mem_filter.1 hc).2
  have high : ∀ c ∈ m.filter (fun c => decide (a + n ≤ c.1)), a + n ≤ c.1 := fun c hc => by simpa using (List.mem_filter.1 hc).2
  have mid : ((List.range' a n).filterMap (fun k => if f k = blank then none else some (k, f k))).Pairwise
      (fun c d => c.1 < d.1) := by
    rw [List.pairwise_filterMap]
    refine List.Pairwise.imp ?_ (List.pairwise_lt_range' (s := a) (n := n))
    intro x y hxy c hc d hd
    split at hc <;> split at hd <;> cases hc <;> cases hd
    exact hxy
  refine Mem.wf_iff.2 ⟨?_, ?_⟩
  · intro c hc
    unfold Mem.overwrite at hc
    rcases List.mem_append.1 hc with hc | hc
    · rcases List.mem_append.1 hc with hc | hc
      · exact hb c (List.mem_filter.1 hc).1
      · exact (Mem.mem_range hc).2.2
    · exact hb c (List.mem_filter.1 hc).1
  · unfold Mem.overwrite
    refine List.pairwise_append.2 ⟨List.pairwise_append.2 ⟨hp.filter _, mid, fun c hc d hd => ?_⟩, hp.filter _, fun c hc d hd => ?_⟩
    · have h1 := low c hc
      have h2 := (Mem.mem_range hd).1
      omega
    · have h2 := high d hd
      rcases List.mem_append.1 hc with hc | hc
      · have h1 := low c hc
        omega
      · have h1 := (Mem.mem_range hc).2.1
        omega

theorem Mem.mem_erase_of {α : Type} {m : List (Nat × α)} {a : Nat} {c : Nat × α} (h : c ∈ Mem.erase m a) : c ∈ m := by
  induction m with
  | nil => exact h
  | cons d rest ih =>
    obtain ⟨k, v⟩ := d
    unfold Mem.erase at h
    split at h
    · exact List.mem_cons_of_mem _ h
    · split at h
      · exact h
      · rcases List.mem_cons.1 h with rfl | h
        · exact List.mem_cons_self ..
        · exact List.mem_cons_of_mem _ (ih h)

theorem Mem.mem_insert_of {α : Type} {m : List (Nat × α)} {a : Nat} {x : α} {c : Nat × α} (h : c ∈ Mem.insert m a x) :
    c = (a, x) ∨ c ∈ m := by
  induction m with
  | nil => exact .inl (by simpa [Mem.insert] using h)
  | cons d rest ih =>
    obtain ⟨k, v⟩ := d
    unfold Mem.insert at h
    split at h
    · rcases List.mem_cons.1 h with rfl | h
      · exact .inl rfl
      · exact .inr (List.mem_cons_of_mem _ h)
    · split at h
      · rcases List.mem_cons.1 h with rfl | h
        · exact .inl rfl
        · exact .inr h
      · rcases List.mem_cons.1 h with rfl | h
        · exact .inr (List.mem_cons_self ..)
        · rcases ih h with h | h
          · exact .inl h
          · exact .inr (List.mem_cons_of_mem _ h)

/-- A write keeps the canonical form. -/
theorem Mem.write_wf {α : Type} [DecidableEq α] {blank : α} {m : List (Nat × α)} (a : Nat) (x : α)
    (h : Mem.wf blank m = true) : Mem.wf blank (Mem.write blank m a x) = true := by
  obtain ⟨hb, hp⟩ := Mem.wf_iff.1 h
  unfold Mem.write
  split
  · refine Mem.wf_iff.2 ⟨fun c hc => hb c (Mem.mem_erase_of hc), ?_⟩
    clear hb h
    induction m with
    | nil => exact List.Pairwise.nil
    | cons d rest ih =>
      obtain ⟨k, v⟩ := d
      obtain ⟨h1, h2⟩ := List.pairwise_cons.1 hp
      unfold Mem.erase
      split
      · exact h2
      · split
        · exact hp
        · exact List.pairwise_cons.2 ⟨fun c hc => h1 c (Mem.mem_erase_of hc), ih h2⟩
  · next hx =>
    refine Mem.wf_iff.2 ⟨fun c hc => ?_, ?_⟩
    · rcases Mem.mem_insert_of hc with rfl | hc
      · exact hx
      · exact hb c hc
    · clear hb h
      induction m with
      | nil => exact List.pairwise_singleton _ _
      | cons d rest ih =>
        obtain ⟨k, v⟩ := d
        obtain ⟨h1, h2⟩ := List.pairwise_cons.1 hp
        unfold Mem.insert
        split
        · next e => exact List.pairwise_cons.2 ⟨fun c hc => by rw [e]; exact h1 c hc, h2⟩
        · split
          · next e =>
            refine List.pairwise_cons.2 ⟨fun c hc => ?_, hp⟩
            rcases List.mem_cons.1 hc with rfl | hc
            · exact e
            · exact Nat.lt_trans e (h1 c hc)
          · next e1 e2 =>
            refine List.pairwise_cons.2 ⟨fun c hc => ?_, ih h2⟩
            rcases Mem.mem_insert_of hc with rfl | hc
            · show k < a
              omega
            · exact h1 c hc

/-- In a canonical memory a key below the first reads as blank. -/
theorem Mem.read_erase_self {α : Type} [DecidableEq α] {blank : α} {m : List (Nat × α)} {a : Nat} (h : Mem.wf blank m = true) :
    Mem.read blank (Mem.erase m a) a = blank := by
  obtain ⟨-, hp⟩ := Mem.wf_iff.1 h
  clear h
  induction m with
  | nil => rfl
  | cons d rest ih =>
    obtain ⟨k, v⟩ := d
    obtain ⟨h1, h2⟩ := List.pairwise_cons.1 hp
    unfold Mem.erase
    split
    · next e => exact Mem.read_of_forall_ne blank (fun c hc => by have := h1 c hc; simp only at this; omega)
    · split
      · next e =>
        refine Mem.read_of_forall_ne blank (fun c hc => ?_)
        rcases List.mem_cons.1 hc with rfl | hc
        · simp only; omega
        · have := h1 c hc; simp only at this; omega
      · next e1 e2 => rw [Mem.read, if_neg e1, ih h2]

theorem Mem.read_erase_of_ne {α : Type} (blank : α) (m : List (Nat × α)) {a k : Nat} (h : k ≠ a) :
    Mem.read blank (Mem.erase m a) k = Mem.read blank m k := by
  induction m with
  | nil => rfl
  | cons d rest ih =>
    obtain ⟨x, v⟩ := d
    unfold Mem.erase
    split
    · next e => rw [Mem.read, if_neg (by omega)]
    · split
      · rfl
      · rw [Mem.read, Mem.read, ih]

theorem Mem.read_insert {α : Type} (blank : α) (m : List (Nat × α)) (a k : Nat) (x : α) :
    Mem.read blank (Mem.insert m a x) k = if k = a then x else Mem.read blank m k := by
  induction m with
  | nil => rfl
  | cons d rest ih =>
    obtain ⟨y, v⟩ := d
    unfold Mem.insert
    split
    · next e =>
      rw [Mem.read, Mem.read]
      by_cases hk : k = a
      · rw [if_pos hk, if_pos hk]
      · rw [if_neg hk, if_neg hk, if_neg (by omega)]
    · split
      · rw [Mem.read]
      · next e1 e2 =>
        rw [Mem.read, ih, Mem.read]
        by_cases hk : k = a
        · rw [if_pos hk, if_pos hk, if_neg (by omega)]
        · rw [if_neg hk, if_neg hk]

/-- A read after a write: the value written at its key, every other key as before. -/
theorem Mem.read_write {α : Type} [DecidableEq α] {blank : α} {m : List (Nat × α)} (a k : Nat) (x : α)
    (h : Mem.wf blank m = true) : Mem.read blank (Mem.write blank m a x) k = if k = a then x else Mem.read blank m k := by
  unfold Mem.write
  split
  · next hx =>
    by_cases hk : k = a
    · rw [if_pos hk, hk, Mem.read_erase_self h, hx]
    · rw [if_neg hk, Mem.read_erase_of_ne blank m hk]
  · exact Mem.read_insert blank m a k x

end Sys2Proof.Machine
end

