-- ==== Sys2Proof/Laws/Ports.lean ====
section
/-! SUPPORT. What reading the receiver of a port, or the output of a trunk, gives after each shared operation. -/

namespace Sys2Proof.Machine

/-! ## One receiver, one output -/

@[simp] theorem State.rx_updRx_self (s : State) (p : Port) (f : Receiver → Receiver) : (s.updRx p f).rx p = f (s.rx p) := by
  cases p <;> simp [State.rx, State.updRx]

@[simp] theorem State.rx_updRx_of_ne (s : State) {p q : Port} (f : Receiver → Receiver) (h : q ≠ p) : (s.updRx p f).rx q = s.rx q := by
  cases p <;> cases q <;> simp_all [State.rx, State.updRx]

theorem State.rx_updRx (s : State) (p q : Port) (f : Receiver → Receiver) :
    (s.updRx p f).rx q = if q = p then f (s.rx p) else s.rx q := by
  split
  · next h => rw [h, State.rx_updRx_self]
  · next h => exact State.rx_updRx_of_ne s f h

/-- Two changes of one receiver are one. -/
theorem State.updRx_updRx (s : State) (p : Port) (f g : Receiver → Receiver) :
    (s.updRx p f).updRx p g = s.updRx p (fun x => g (f x)) := by
  cases p with
  | cam i => simp only [State.updRx, State.updCam, Tab.upd_upd]
  | trunk t => cases t <;> rfl

/-- A change that leaves its receiver as it is does nothing. -/
theorem State.updRx_same (s : State) (p : Port) (f : Receiver → Receiver) (h : f (s.rx p) = s.rx p) : s.updRx p f = s := by
  cases p with
  | cam i =>
    simp only [State.rx] at h
    simp only [State.updRx, State.updCam]
    rw [Tab.upd_same _ _ _ (by rw [h])]
  | trunk t =>
    simp only [State.rx] at h
    simp only [State.updRx, State.updTrunk]
    rw [Duo.upd_same _ _ _ (by rw [h])]

/-- The receivers follow from the camera ports and the trunks. -/
theorem State.rx_congr {s t : State} (hc : t.cams = s.cams) (ht : t.trunks = s.trunks) (p : Port) : t.rx p = s.rx p := by
  cases p <;> simp [State.rx, hc, ht]

@[simp] theorem State.rx_updOut (s : State) (t : Trunk) (f : Output → Output) (p : Port) : (s.updOut t f).rx p = s.rx p := by
  cases p with
  | cam i => rfl
  | trunk u => cases t <;> cases u <;> rfl

@[simp] theorem State.rx_updTrunkCounters (s : State) (t : Trunk) (f : TrunkCounters → TrunkCounters) (p : Port) :
    (s.updTrunkCounters t f).rx p = s.rx p := by
  cases p with
  | cam i => rfl
  | trunk u => cases t <;> cases u <;> rfl

@[simp] theorem State.out_updOut_self (s : State) (t : Trunk) (f : Output → Output) : (s.updOut t f).out t = f (s.out t) := by
  simp [State.out]

@[simp] theorem State.out_updOut_of_ne (s : State) {t u : Trunk} (f : Output → Output) (h : u ≠ t) : (s.updOut t f).out u = s.out u := by
  simp [State.out, h]

theorem State.out_updOut (s : State) (t u : Trunk) (f : Output → Output) :
    (s.updOut t f).out u = if u = t then f (s.out t) else s.out u := by
  split
  · next h => rw [h, State.out_updOut_self]
  · next h => exact State.out_updOut_of_ne s f h

@[simp] theorem State.out_updTrunkCounters (s : State) (t u : Trunk) (f : TrunkCounters → TrunkCounters) :
    (s.updTrunkCounters t f).out u = s.out u := by
  cases t <;> cases u <;> rfl

@[simp] theorem State.out_updRx (s : State) (p : Port) (u : Trunk) (f : Receiver → Receiver) : (s.updRx p f).out u = s.out u := by
  cases p with
  | cam i => rfl
  | trunk t => cases t <;> cases u <;> rfl

@[simp] theorem State.out_updArrivals (s : State) (p : Port) (u : Trunk) (f : ArrivalCounters → ArrivalCounters) :
    (s.updArrivals p f).out u = s.out u := by
  simp [State.updArrivals]

theorem State.trunkUp_eq (s : State) (t : Trunk) : s.trunkUp t = decide ((s.rx (.trunk t)).link = .up) := rfl

@[simp] theorem State.rx_updStream (s : State) (k : Fin 256) (f : StreamRecord → StreamRecord) (q : Port) : (s.updStream k f).rx q = s.rx q := by
  cases q <;> rfl

@[simp] theorem State.out_updStream (s : State) (k : Fin 256) (f : StreamRecord → StreamRecord) (u : Trunk) : (s.updStream k f).out u = s.out u := rfl

@[simp] theorem State.trunkUp_updStream (s : State) (k : Fin 256) (f : StreamRecord → StreamRecord) (u : Trunk) : (s.updStream k f).trunkUp u = s.trunkUp u := rfl

@[simp] theorem State.rx_updFlow (s : State) (k : Fin 256) (f : StreamFlow → StreamFlow) (q : Port) : (s.updFlow k f).rx q = s.rx q := by
  cases q <;> rfl

@[simp] theorem State.out_updFlow (s : State) (k : Fin 256) (f : StreamFlow → StreamFlow) (u : Trunk) : (s.updFlow k f).out u = s.out u := rfl

@[simp] theorem State.trunkUp_updFlow (s : State) (k : Fin 256) (f : StreamFlow → StreamFlow) (u : Trunk) : (s.updFlow k f).trunkUp u = s.trunkUp u := rfl

@[simp] theorem State.rx_updChannel (s : State) (c : Fin 12) (f : Channel → Channel) (q : Port) : (s.updChannel c f).rx q = s.rx q := by
  cases q <;> rfl

@[simp] theorem State.out_updChannel (s : State) (c : Fin 12) (f : Channel → Channel) (u : Trunk) : (s.updChannel c f).out u = s.out u := rfl

@[simp] theorem State.trunkUp_updChannel (s : State) (c : Fin 12) (f : Channel → Channel) (u : Trunk) : (s.updChannel c f).trunkUp u = s.trunkUp u := rfl

@[simp] theorem State.rx_updLens (s : State) (i : Fin 8) (f : Lens → Lens) (q : Port) : (s.updLens i f).rx q = s.rx q := by
  cases q <;> rfl

@[simp] theorem State.out_updLens (s : State) (i : Fin 8) (f : Lens → Lens) (u : Trunk) : (s.updLens i f).out u = s.out u := rfl

@[simp] theorem State.trunkUp_updLens (s : State) (i : Fin 8) (f : Lens → Lens) (u : Trunk) : (s.updLens i f).trunkUp u = s.trunkUp u := rfl

@[simp] theorem State.rx_updScreen (s : State) (sc : Fin 2) (f : Screen → Screen) (q : Port) : (s.updScreen sc f).rx q = s.rx q := by
  cases q <;> rfl

@[simp] theorem State.out_updScreen (s : State) (sc : Fin 2) (f : Screen → Screen) (u : Trunk) : (s.updScreen sc f).out u = s.out u := rfl

@[simp] theorem State.trunkUp_updScreen (s : State) (sc : Fin 2) (f : Screen → Screen) (u : Trunk) : (s.updScreen sc f).trunkUp u = s.trunkUp u := rfl

@[simp] theorem State.rx_updAlert (s : State) (a : Fin 4) (f : Alert → Alert) (q : Port) : (s.updAlert a f).rx q = s.rx q := by
  cases q <;> rfl

@[simp] theorem State.out_updAlert (s : State) (a : Fin 4) (f : Alert → Alert) (u : Trunk) : (s.updAlert a f).out u = s.out u := rfl

@[simp] theorem State.trunkUp_updAlert (s : State) (a : Fin 4) (f : Alert → Alert) (u : Trunk) : (s.updAlert a f).trunkUp u = s.trunkUp u := rfl

@[simp] theorem State.rx_updOrders (s : State) (f : OrderUnit → OrderUnit) (q : Port) : (s.updOrders f).rx q = s.rx q := by
  cases q <;> rfl

@[simp] theorem State.out_updOrders (s : State) (f : OrderUnit → OrderUnit) (u : Trunk) : (s.updOrders f).out u = s.out u := rfl

@[simp] theorem State.trunkUp_updOrders (s : State) (f : OrderUnit → OrderUnit) (u : Trunk) : (s.updOrders f).trunkUp u = s.trunkUp u := rfl

@[simp] theorem State.rx_updHub (s : State) (f : HubRecord → HubRecord) (q : Port) : (s.updHub f).rx q = s.rx q := by
  cases q <;> rfl

@[simp] theorem State.out_updHub (s : State) (f : HubRecord → HubRecord) (u : Trunk) : (s.updHub f).out u = s.out u := rfl

@[simp] theorem State.trunkUp_updHub (s : State) (f : HubRecord → HubRecord) (u : Trunk) : (s.updHub f).trunkUp u = s.trunkUp u := rfl

@[simp] theorem State.rx_offer (s : State) (n : Notice) (q : Port) : (s.offer n).rx q = s.rx q := by
  cases q <;> rfl

@[simp] theorem State.out_offer (s : State) (n : Notice) (u : Trunk) : (s.offer n).out u = s.out u := rfl

@[simp] theorem State.trunkUp_offer (s : State) (n : Notice) (u : Trunk) : (s.offer n).trunkUp u = s.trunkUp u := rfl

/-- The further counters of a trunk port after its own, or another, update. -/
@[simp] theorem State.trunkCounters_updOut (s : State) (t u : Trunk) (f : Output → Output) :
    ((s.updOut t f).trunks.get u).counters = (s.trunks.get u).counters := by
  cases t <;> cases u <;> rfl

@[simp] theorem State.trunkCounters_updRx (s : State) (p : Port) (u : Trunk) (f : Receiver → Receiver) :
    ((s.updRx p f).trunks.get u).counters = (s.trunks.get u).counters := by
  cases p with
  | cam i => rfl
  | trunk t => cases t <;> cases u <;> rfl

/-! ## Operations that leave every receiver as it is -/

@[simp] theorem State.rx_countQueueCuts (s : State) (t : Trunk) (n : Nat) (q : Port) :
    (s.countQueueCuts t n).rx q = s.rx q := by
  unfold State.countQueueCuts
  simp

@[simp] theorem State.rx_setCut (s : State) (t : Trunk) (k : Fin 256) (q : Port) :
    (s.setCut t k).rx q = s.rx q :=
  State.rx_congr (by simp) (by simp) q

@[simp] theorem State.rx_enqueueMgmt (s : State) (t : Trunk) (e : MgmtEntry) (q : Port) :
    (s.enqueueMgmt t e).rx q = s.rx q := by
  unfold State.enqueueMgmt
  simp

@[simp] theorem State.rx_offerMgmt (s : State) (t : Trunk) (e : MgmtEntry) (q : Port) :
    (s.offerMgmt t e).rx q = s.rx q := by
  unfold State.offerMgmt
  (repeat' split) <;> simp

@[simp] theorem State.rx_forward (s : State) (a t : Trunk) (e : MgmtEntry) (q : Port) :
    (s.forward a t e).rx q = s.rx q := by
  unfold State.forward
  (repeat' split) <;> simp

@[simp] theorem State.rx_sendControl (s : State) (t : Trunk) (k : Fin 256) (p : Packet) (q : Port) :
    (s.sendControl t k p).rx q = s.rx q := by
  unfold State.sendControl
  dsimp only
  (repeat' split) <;> simp

@[simp] theorem State.rx_offerLine (s : State) (t : Trunk) (k : Fin 256) (p : Packet) (q : Port) :
    (s.offerLine t k p).rx q = s.rx q := by
  unfold State.offerLine
  (repeat' split) <;> simp

@[simp] theorem State.rx_endTransmission (s : State) (t : Trunk) (tx : Transmission) (q : Port) :
    (s.endTransmission t tx).rx q = s.rx q := by
  unfold State.endTransmission
  simp

@[simp] theorem State.rx_outputLinkDown (s : State) (t : Trunk) (q : Port) :
    (s.outputLinkDown t).rx q = s.rx q := by
  cases q <;> simp [State.outputLinkDown, State.rx, Duo.get_upd]
  split <;> simp_all

@[simp] theorem State.rx_sendIfRouted (s : State) (e : StreamEntry) (t : Trunk) (k : Fin 256) (p : Packet) (q : Port) :
    (s.sendIfRouted e t k p).rx q = s.rx q := by
  unfold State.sendIfRouted
  (repeat' split) <;> simp

@[simp] theorem State.rx_deliver (s : State) (e : StreamEntry) (f : Channel → Channel) (q : Port) :
    (s.deliver e f).rx q = s.rx q :=
  State.rx_congr (by simp) (by simp) q

@[simp] theorem State.rx_closeCut (s : State) (k : Fin 256) (q : Port) :
    (s.closeCut k).rx q = s.rx q := by
  unfold State.closeCut
  dsimp only
  simp

@[simp] theorem State.rx_closeIfOpen (s : State) (k : Fin 256) (q : Port) :
    (s.closeIfOpen k).rx q = s.rx q := by
  unfold State.closeIfOpen
  (repeat' split) <;> simp

@[simp] theorem State.rx_originLoss (s : State) (p : Port) (q : Port) :
    (s.originLoss p).rx q = s.rx q :=
  foldl_keeps (fun s : State => s.rx q) _ (fun s k => by dsimp only; split; simp; rfl) _ _

@[simp] theorem State.rx_routeFrameOpen (s : State) (k : Fin 256) (frame : Nat) (grade : Grade) (home : Nat) (q : Port) :
    (s.routeFrameOpen k frame grade home).rx q = s.rx q := by
  unfold State.routeFrameOpen
  dsimp only
  simp

@[simp] theorem State.rx_routeFrameClose (s : State) (k : Fin 256) (frame : Nat) (status : CloseStatus) (q : Port) :
    (s.routeFrameClose k frame status).rx q = s.rx q := by
  unfold State.routeFrameClose
  dsimp only
  simp

@[simp] theorem State.rx_applyDecision (s : State) (p : Port) (k : Fin 256) (t : Trunk) (d : LineDecision) (q : Port) :
    (s.applyDecision p k t d).rx q = s.rx q := by
  unfold State.applyDecision
  (repeat' split) <;> simp

@[simp] theorem State.rx_endCutThrough (s : State) (p : Port) (t : Trunk) (tx : Transmission) (q : Port) :
    (s.endCutThrough p t tx).rx q = s.rx q := by
  unfold State.endCutThrough
  (repeat' split) <;> simp

@[simp] theorem State.rx_countHeaderCut (s : State) (a : LineArrival) (t : Trunk) (q : Port) :
    (s.countHeaderCut a t).rx q = s.rx q := by
  unfold State.countHeaderCut
  split <;> simp

@[simp] theorem State.rx_settleCopy (s : State) (a : LineArrival) (report : EndReport) (pixels : List Byte) (t : Trunk) (q : Port) :
    (s.settleCopy a report pixels t).rx q = s.rx q := by
  unfold State.settleCopy
  (repeat' split) <;> simp

/-! ## Operations that leave every output as it is -/

@[simp] theorem State.out_setCut (s : State) (t : Trunk) (k : Fin 256) (u : Trunk) :
    (s.setCut t k).out u = s.out u := by
  simp [State.out]

@[simp] theorem State.out_deliver (s : State) (e : StreamEntry) (f : Channel → Channel) (u : Trunk) :
    (s.deliver e f).out u = s.out u := by
  simp [State.out]

@[simp] theorem State.out_countQueueCuts (s : State) (t : Trunk) (n : Nat) (u : Trunk) :
    (s.countQueueCuts t n).out u = s.out u := by
  simp [State.countQueueCuts]

/-! ## The end of a packet (R2, R10) -/

/-- A port that leaves no LINE unformed has none to clear. -/
theorem State.clearUnformed_of_none {s : State} {p : Port} (h : (s.rx p).unformed = none) : s.clearUnformed p = s :=
  State.updRx_same s p _ (by rw [← h])

theorem State.setIgnoring_of_eq {s : State} {p : Port} {b : Bool} (h : (s.rx p).ignoring = b) : s.setIgnoring p b = s :=
  State.updRx_same s p _ (by rw [← h])

/-- A packet that is over at a port that forms packets, and leaves none unformed, is the port's to deal with (R2, R10). -/
theorem State.packetOver_forming {s : State} {p : Port} (hr : s.receives p = true) (hu : (s.rx p).unformed = none)
    (bytes : List Byte) (goesOn : Bool) (f : State → State) : s.packetOver p bytes goesOn f = f s := by
  simp [State.packetOver, State.isUnformed, hr, hu, State.clearUnformed_of_none hu]

/-- A packet that is over at a port that does not form it leaves only the wait for the next START (R2, R10, R15). -/
theorem State.packetOver_quiet {s : State} {p : Port} {bytes : List Byte}
    (h : s.receives p = false ∨ s.isUnformed p bytes = true) (goesOn : Bool) (f : State → State) :
    s.packetOver p bytes goesOn f = s.updRx p (fun x => { x with unformed := none, ignoring := goesOn }) := by
  rw [State.packetOver, if_neg (by rcases h with h | h <;> simp [h])]
  exact State.updRx_updRx s p _ _

end Sys2Proof.Machine
end

