-- ==== Sys2Proof/Laws/Switch.lean ====
section
/-! SUPPORT. What the switch does to the stream records and the channels when it closes streams (R22, R25, R28). -/

namespace Sys2Proof.Machine

/-! ## One stream record -/

@[simp] theorem State.streamRec_updStream_self (s : State) (k : Fin 256) (f : StreamRecord → StreamRecord) :
    (s.updStream k f).streamRec k = f (s.streamRec k) := by
  simp [State.streamRec]

@[simp] theorem State.streamRec_updStream_of_ne (s : State) {j k : Fin 256} (f : StreamRecord → StreamRecord) (h : j ≠ k) :
    (s.updStream k f).streamRec j = s.streamRec j := by
  simp [State.streamRec, h]

@[simp] theorem State.streamRec_updFlow_self (s : State) (k : Fin 256) (f : StreamFlow → StreamFlow) :
    (s.updFlow k f).streamRec k = { s.streamRec k with flow := f (s.streamRec k).flow } := by
  simp [State.updFlow]

@[simp] theorem State.streamRec_updFlow_of_ne (s : State) {j k : Fin 256} (f : StreamFlow → StreamFlow) (h : j ≠ k) :
    (s.updFlow k f).streamRec j = s.streamRec j := by
  simp [State.updFlow, h]

@[simp] theorem State.entry_updFlow (s : State) (j k : Fin 256) (f : StreamFlow → StreamFlow) :
    ((s.updFlow k f).streamRec j).entry = (s.streamRec j).entry := by
  by_cases h : j = k
  · rw [h, State.streamRec_updFlow_self]
  · rw [State.streamRec_updFlow_of_ne s f h]

/-- The stream records follow from the stream tables. -/
theorem State.streamRec_congr {s t : State} (h : t.streams = s.streams) (k : Fin 256) : t.streamRec k = s.streamRec k := by
  rw [State.streamRec, h, ← State.streamRec]

/-- The channel records follow from the channel table. -/
theorem State.channel_congr {s t : State} (h : t.channels = s.channels) (c : Fin 12) : t.channel c = s.channel c := by
  rw [State.channel, h, ← State.channel]

/-! ## Delivery and closing -/

/-- The channel of the route receives the event, the others nothing (R29). -/
theorem State.channel_deliver (s : State) (e : StreamEntry) (f : Channel → Channel) (c : Fin 12) :
    (s.deliver e f).channel c = if e.channel = some c then f (s.channel c) else s.channel c := by
  unfold State.deliver
  split
  · next d h =>
    simp only [State.channel, State.channelEvent_channels, Tab.get_upd, h, Option.some.injEq, eq_comm]
    split
    · next e => rw [e]
    · rfl
  · next h => simp [h]

/-- A closed stream shows its stream state closed, and no other stream record changes. -/
theorem State.closeCut_streams (s : State) (k : Fin 256) :
    (s.closeCut k).streams = Tab.upd s.streams k (fun r => { r with flow := { r.flow with isOpen := false } }) := by
  simp [State.closeCut]

theorem State.streamRec_closeCut_self (s : State) (k : Fin 256) :
    (s.closeCut k).streamRec k = { s.streamRec k with flow := { (s.streamRec k).flow with isOpen := false } } := by
  rw [State.streamRec, State.closeCut_streams, Tab.get_upd_self, ← State.streamRec]

theorem State.streamRec_closeCut_of_ne (s : State) {j k : Fin 256} (h : j ≠ k) : (s.closeCut k).streamRec j = s.streamRec j := by
  rw [State.streamRec, State.closeCut_streams, Tab.get_upd_of_ne _ _ h, ← State.streamRec]

/-- The channel of a closed stream's route receives FRAME-CLOSE CUT of its open frame, the others nothing. -/
theorem State.channel_closeCut (s : State) (k : Fin 256) (c : Fin 12) :
    (s.closeCut k).channel c =
      if (s.streamRec k).entry.channel = some c then (s.channel c).frameClose (s.streamRec k).flow.frame .cut else s.channel c := by
  have h : ∀ (e : StreamEntry) (p : Packet), (((s.sendIfRouted e .ta k p).sendIfRouted e .tb k p)).channel c = s.channel c :=
    fun e p => State.channel_congr (by simp) c
  unfold State.closeCut
  dsimp only
  rw [State.channel_congr (State.updFlow_channels ..), State.channel_deliver, h]

/-! ## Origin loss (R28) -/

/-- Whether origin loss at a port closes a stream. -/
abbrev StreamRecord.closesFor (r : StreamRecord) (p : Port) : Bool := r.flow.isOpen && r.entry.valid && r.entry.origin = p

/-- The closing of the streams of a list, in its order. -/
theorem State.streamRec_closeAll (p : Port) (l : List (Fin 256)) (hl : l.Nodup) (s : State) (k : Fin 256) :
    (l.foldl (fun s k => if (s.streamRec k).closesFor p then s.closeCut k else s) s).streamRec k =
      if k ∈ l ∧ (s.streamRec k).closesFor p = true then
        { s.streamRec k with flow := { (s.streamRec k).flow with isOpen := false } }
      else s.streamRec k := by
  induction l generalizing s with
  | nil => simp
  | cons a rest ih =>
    rw [List.foldl_cons, ih (List.nodup_cons.1 hl).2]
    have ha := (List.nodup_cons.1 hl).1
    by_cases hk : k = a
    · subst hk
      simp only [ha, false_and, if_false, List.mem_cons, true_or, true_and]
      split
      · exact State.streamRec_closeCut_self s k
      · rfl
    · have : (if (s.streamRec a).closesFor p = true then s.closeCut a else s).streamRec k = s.streamRec k := by
        split
        · exact State.streamRec_closeCut_of_ne s hk
        · rfl
      simp only [this, List.mem_cons, hk, false_or]

/-- The stream records after origin loss. -/
theorem State.streamRec_originLoss (s : State) (p : Port) (k : Fin 256) :
    (s.originLoss p).streamRec k =
      if (s.streamRec k).closesFor p = true then { s.streamRec k with flow := { (s.streamRec k).flow with isOpen := false } }
      else s.streamRec k := by
  have h := State.streamRec_closeAll p (List.finRange 256) (List.nodup_finRange 256) s k
  simp only [List.mem_finRange, true_and] at h
  exact h

theorem State.channel_closeAll_of_ne (p : Port) (c : Fin 12) (l : List (Fin 256)) (s : State)
    (h : ∀ k ∈ l, (s.streamRec k).closesFor p = true → (s.streamRec k).entry.channel ≠ some c) (hl : l.Nodup) :
    (l.foldl (fun s k => if (s.streamRec k).closesFor p then s.closeCut k else s) s).channel c = s.channel c := by
  induction l generalizing s with
  | nil => rfl
  | cons a rest ih =>
    rw [List.foldl_cons]
    by_cases ha : (s.streamRec a).closesFor p = true
    · rw [if_pos ha, ih, State.channel_closeCut, if_neg (h a (by simp) ha)]
      · intro k hk
        have : k ≠ a := fun e => (List.nodup_cons.1 hl).1 (e ▸ hk)
        rw [State.streamRec_closeCut_of_ne s this]
        exact h k (by simp [hk])
      · exact (List.nodup_cons.1 hl).2
    · rw [if_neg ha]
      exact ih s (fun k hk => h k (by simp [hk])) (List.nodup_cons.1 hl).2

/-- A channel that no closing stream names stays as it is. -/
theorem State.channel_originLoss_of_ne (s : State) (p : Port) (c : Fin 12)
    (h : ∀ k, (s.streamRec k).closesFor p = true → (s.streamRec k).entry.channel ≠ some c) :
    (s.originLoss p).channel c = s.channel c :=
  State.channel_closeAll_of_ne p c _ s (fun k _ => h k) (List.nodup_finRange 256)

theorem State.channel_closeAll_of_mem (p : Port) (c : Fin 12) (k : Fin 256) (l : List (Fin 256)) (s : State) (hl : l.Nodup)
    (hk : k ∈ l) (hp : (s.streamRec k).closesFor p = true) (hc : (s.streamRec k).entry.channel = some c)
    (hu : ∀ j, (s.streamRec j).entry.channel = some c → j = k) :
    (l.foldl (fun s k => if (s.streamRec k).closesFor p then s.closeCut k else s) s).channel c =
      (s.channel c).frameClose (s.streamRec k).flow.frame .cut := by
  induction l generalizing s with
  | nil => simp at hk
  | cons a rest ih =>
    rw [List.foldl_cons]
    by_cases hka : k = a
    · subst hka
      rw [if_pos hp, State.channel_closeAll_of_ne p c rest _ _ (List.nodup_cons.1 hl).2, State.channel_closeCut, if_pos hc]
      intro j hj _ hjc
      have : j ≠ k := fun e => (List.nodup_cons.1 hl).1 (e ▸ hj)
      rw [State.streamRec_closeCut_of_ne s this] at hjc
      exact this (hu j hjc)
    · have hne : (s.streamRec a).entry.channel ≠ some c := fun e => hka (hu a e).symm
      have hkr : k ∈ rest := by simpa [hka] using hk
      by_cases ha : (s.streamRec a).closesFor p = true
      · have hk' := State.streamRec_closeCut_of_ne s hka
        rw [if_pos ha, ih _ (List.nodup_cons.1 hl).2 hkr (by rw [hk']; exact hp) (by rw [hk']; exact hc), State.channel_closeCut,
          if_neg hne, hk']
        intro j hj
        by_cases hja : j = a
        · rw [hja, State.streamRec_closeCut_self] at hj
          exact absurd hj hne
        · rw [State.streamRec_closeCut_of_ne s hja] at hj
          exact hu j hj
      · rw [if_neg ha]
        exact ih s (List.nodup_cons.1 hl).2 hkr hp hc hu

/-- The channel of a closing stream that alone names it receives FRAME-CLOSE CUT. -/
theorem State.channel_originLoss_of_closes (s : State) (p : Port) (c : Fin 12) (k : Fin 256)
    (hp : (s.streamRec k).closesFor p = true) (hc : (s.streamRec k).entry.channel = some c)
    (hu : ∀ j, (s.streamRec j).entry.channel = some c → j = k) :
    (s.originLoss p).channel c = (s.channel c).frameClose (s.streamRec k).flow.frame .cut :=
  State.channel_closeAll_of_mem p c k _ s (List.nodup_finRange 256) (List.mem_finRange k) hp hc hu

end Sys2Proof.Machine
end

