-- ==== Sys2Proof/Laws/LineEnd.lean ====
section
/-! SUPPORT. What the end of a LINE in arrival can do (R9, R24, R26, R34, R38 to R40, R50, R51, R55): one lemma for the channel, one for
the hub. -/

namespace Sys2Proof.Machine

/-! ## A LINE at a channel -/

theorem mem_insertLine (k a : Nat) (l : List Nat) : k ∈ insertLine a l ↔ k = a ∨ k ∈ l := by
  induction l with
  | nil => simp [insertLine]
  | cons b rest ih =>
    unfold insertLine
    split
    · simp
    · split
      · next h => subst h; simp
      · simp only [List.mem_cons, ih]; tauto

@[simp] theorem Channel.slot_updSlot_self (c : Channel) (i : Fin 3) (f : Slot → Slot) : (c.updSlot i f).slot i = f (c.slot i) := by
  simp [Channel.slot, Channel.updSlot]

@[simp] theorem Channel.slot_updSlot_of_ne (c : Channel) {i j : Fin 3} (f : Slot → Slot) (h : j ≠ i) :
    (c.updSlot i f).slot j = c.slot j := by
  simp [Channel.slot, Channel.updSlot, h]

@[simp] theorem Channel.slot_count (c : Channel) (f : ChannelCounters → ChannelCounters) (i : Fin 3) : (c.count f).slot i = c.slot i := rfl

/-- A LINE changes neither the state nor the grade of its channel. -/
theorem Channel.line_quiet (frame line : Nat) (pixels : List Byte) (poisoned : Bool) (c : Channel) :
    (c.line frame line pixels poisoned).state = c.state ∧ (c.line frame line pixels poisoned).grade = c.grade := by
  unfold Channel.line
  (repeat' split) <;> exact ⟨rfl, rfl⟩

/-- A LINE takes its channel where R50, R51 and R55 say. -/
theorem Channel.line_took (frame line : Nat) (pixels : List Byte) (poisoned : Bool) (c : Channel)
    (h : ∀ i, Mem.wf blankRow (c.slot i).rows = true) :
    c.TookLine frame line pixels poisoned (c.line frame line pixels poisoned) where
  stray := by
    rintro (e | ⟨i, f, e, hf⟩ | ⟨f, e, hf⟩) <;> simp [Channel.line, e, Channel.strayPacket, Channel.count, bumpTraffic, Config.trafficMax]
    · exact fun x => absurd x.symm hf
    · exact fun x => absurd x.symm hf
  dropping e := by simp [Channel.line, e]
  filling i e := by
    have hw := fun k => Mem.read_write (blank := blankRow) line k pixels (h i)
    have hl : c.line frame line pixels poisoned = if poisoned then
        (c.updSlot i (Slot.poisonedLine line pixels)).count (fun k => { k with poisoned := bumpTraffic k.poisoned })
      else c.updSlot i (Slot.goodLine line pixels) := by simp [Channel.line, e]
    rw [hl]
    cases poisoned
    · refine ⟨rfl, rfl, fun j hj => by simp [hj], ?_, ?_, ?_⟩
      · simp [Slot.goodLine]; split <;> rfl
      · intro k
        by_cases hg : line ∈ (c.slot i).good
        · simp [Slot.goodLine, hg]; rintro rfl; exact hg
        · simp [Slot.goodLine, hg, mem_insertLine, or_comm]
      · intro k
        by_cases hg : line ∈ (c.slot i).good
        · simp [Slot.goodLine, hg]
        · simpa [Slot.goodLine, hg, Slot.row] using hw k
    · refine ⟨rfl, rfl, fun j hj => by simp [hj], ?_, ?_, ?_⟩
      · simp [Slot.poisonedLine]; split <;> rfl
      · intro k
        by_cases hg : line ∈ (c.slot i).good <;> simp [Slot.poisonedLine, hg]
      · intro k
        by_cases hg : line ∈ (c.slot i).good
        · simp [Slot.poisonedLine, hg]
        · simpa [Slot.poisonedLine, hg, Slot.row] using hw k

/-! ## One trunk output -/

/-- An output of which two states say the same. -/
theorem State.CopyIs.refl (s : State) (u : Trunk) (k : Fin 256) : s.CopyIs s u k := ⟨rfl, rfl, rfl⟩

theorem State.CopyIs.trans {s t x : State} {u : Trunk} {k : Fin 256} (h : t.CopyIs x u k) (g : x.CopyIs s u k) : t.CopyIs s u k :=
  ⟨h.1.trans g.1, h.2.1.trans g.2.1, h.2.2.trans g.2.2⟩

/-- Two states with the same trunks and streams say the same of every output. -/
theorem State.CopyIs.of_eq {s t : State} (ht : t.trunks = s.trunks) (hs : t.streams = s.streams) (u : Trunk) (k : Fin 256) :
    t.CopyIs s u k := by
  refine ⟨?_, ?_, ?_⟩
  · rw [State.out, ht, State.out]
  · rw [ht]
  · rw [State.streamRec_congr hs]

@[simp] theorem State.trunkCounters_updTrunkCounters_self (s : State) (u : Trunk) (f : TrunkCounters → TrunkCounters) :
    ((s.updTrunkCounters u f).trunks.get u).counters = f (s.trunks.get u).counters := by simp

@[simp] theorem State.cut_setCut_self (s : State) (u : Trunk) (k : Fin 256) : ((s.setCut u k).streamRec k).flow.cut.get u = true := by
  simp [State.setCut]

/-- What an operation does to one output depends on what the state says of that output alone. -/
theorem State.CopyIs.countQueueCuts {s t : State} {u : Trunk} {k : Fin 256} (h : t.CopyIs s u k) (n : Nat) :
    (t.countQueueCuts u n).CopyIs (s.countQueueCuts u n) u k := by
  refine ⟨by simpa using h.1, ?_, ?_⟩
  · simp only [State.countQueueCuts, State.trunkCounters_updTrunkCounters_self, h.2.1]
  · rw [State.streamRec_congr (by simp : (t.countQueueCuts u n).streams = t.streams),
      State.streamRec_congr (by simp : (s.countQueueCuts u n).streams = s.streams), h.2.2]

theorem State.CopyIs.setCut {s t : State} {u : Trunk} {k : Fin 256} (h : t.CopyIs s u k) : (t.setCut u k).CopyIs (s.setCut u k) u k :=
  ⟨by simpa using h.1, by simpa using h.2.1, by simp⟩

theorem State.CopyIs.updOut {s t : State} {u : Trunk} {k : Fin 256} (h : t.CopyIs s u k) (f : Output → Output) :
    (t.updOut u f).CopyIs (s.updOut u f) u k :=
  ⟨by simp [h.1], by simpa using h.2.1, h.2.2⟩

theorem State.CopyIs.offerLine {s t : State} {u : Trunk} {k : Fin 256} (h : t.CopyIs s u k) (hu : t.trunkUp u = s.trunkUp u)
    (p : Packet) : (t.offerLine u k p).CopyIs (s.offerLine u k p) u k := by
  have hc : (Tab.get t.streams k).flow.cut.get u = (Tab.get s.streams k).flow.cut.get u := h.2.2
  unfold State.offerLine
  rw [hu, hc, h.1]
  split
  · exact h.setCut
  · split
    · exact h.countQueueCuts 1
    · split
      · exact h.setCut.countQueueCuts 1
      · exact h.updOut _

/-- A copy at one output leaves the other output as it is. -/
theorem State.countQueueCuts_copy_of_ne (s : State) {t u : Trunk} (k : Fin 256) (n : Nat) (h : u ≠ t) :
    (s.countQueueCuts t n).CopyIs s u k :=
  ⟨by simp, by simp [State.countQueueCuts, h], by rw [State.streamRec_congr (by simp : (s.countQueueCuts t n).streams = s.streams)]⟩

theorem State.setCut_copy_of_ne (s : State) {t u : Trunk} (k : Fin 256) (h : u ≠ t) : (s.setCut t k).CopyIs s u k :=
  ⟨by simp, by simp, by simp [State.setCut, h]⟩

theorem State.updOut_copy_of_ne (s : State) {t u : Trunk} (k : Fin 256) (f : Output → Output) (h : u ≠ t) :
    (s.updOut t f).CopyIs s u k :=
  ⟨by simp [h], State.trunkCounters_updOut s t u f, rfl⟩

theorem State.offerLine_copy_of_ne (s : State) {t u : Trunk} (k : Fin 256) (p : Packet) (h : u ≠ t) :
    (s.offerLine t k p).CopyIs s u k := by
  unfold State.offerLine
  (repeat' split)
  · exact s.setCut_copy_of_ne k h
  · exact s.countQueueCuts_copy_of_ne k 1 h
  · exact ((s.setCut t k).countQueueCuts_copy_of_ne k 1 h).trans (s.setCut_copy_of_ne k h)
  · exact s.updOut_copy_of_ne k _ h

theorem State.countHeaderCut_copy_of_ne (s : State) (a : LineArrival) {t u : Trunk} (h : u ≠ t) :
    (s.countHeaderCut a t).CopyIs s u a.stream := by
  unfold State.countHeaderCut
  split
  · exact s.countQueueCuts_copy_of_ne _ 1 h
  · exact .refl ..

theorem State.CopyIs.countHeaderCut {s t : State} (a : LineArrival) {u : Trunk} (h : t.CopyIs s u a.stream) :
    (t.countHeaderCut a u).CopyIs (s.countHeaderCut a u) u a.stream := by
  unfold State.countHeaderCut
  split
  · exact h.countQueueCuts 1
  · exact h

/-- The queue cuts of both copies discarded at the header counted: at each output, that of its own copy. -/
theorem State.countHeaderCuts_copy (s : State) (a : LineArrival) (u : Trunk) :
    ((s.countHeaderCut a .ta).countHeaderCut a .tb).CopyIs (s.countHeaderCut a u) u a.stream := by
  cases u
  · exact State.countHeaderCut_copy_of_ne _ _ (by decide)
  · exact (s.countHeaderCut_copy_of_ne a (by decide)).countHeaderCut a

theorem State.settleCopy_copy_of_ne (s : State) (a : LineArrival) (report : EndReport) (pixels : List Byte) {t u : Trunk} (h : u ≠ t) :
    (s.settleCopy a report pixels t).CopyIs s u a.stream := by
  unfold State.settleCopy
  split
  · exact s.offerLine_copy_of_ne _ _ h
  · exact s.setCut_copy_of_ne _ h
  · exact .refl ..
  · exact s.countQueueCuts_copy_of_ne _ 1 h
  · exact .refl ..

theorem State.CopyIs.settleCopy {s t : State} (a : LineArrival) (report : EndReport) (pixels : List Byte) {u : Trunk}
    (h : t.CopyIs s u a.stream) (hu : t.trunkUp u = s.trunkUp u) :
    (t.settleCopy a report pixels u).CopyIs (s.settleCopy a report pixels u) u a.stream := by
  unfold State.settleCopy
  split
  · exact h.offerLine hu _
  · exact h.setCut
  · exact h
  · exact h.countQueueCuts 1
  · exact h

/-- Both copies of a line settled: at each output, the one of that output. -/
theorem State.settleCopies_copy (s : State) (a : LineArrival) (report : EndReport) (pixels : List Byte) (u : Trunk) :
    ((s.settleCopy a report pixels .ta).settleCopy a report pixels .tb).CopyIs (s.settleCopy a report pixels u) u a.stream := by
  cases u
  · exact State.settleCopy_copy_of_ne _ _ _ _ (by decide)
  · exact State.CopyIs.settleCopy _ _ _ (s.settleCopy_copy_of_ne _ _ _ (by decide)) (by simp [State.trunkUp_eq])

/-- A settled copy changes nothing of the stream records but a cut flag of the line's stream. -/
theorem State.settleCopy_streams (s : State) (a : LineArrival) (report : EndReport) (pixels : List Byte) (t : Trunk) :
    (∀ k, k ≠ a.stream → (s.settleCopy a report pixels t).streamRec k = s.streamRec k) ∧
    ∀ c, { (s.settleCopy a report pixels t).streamRec a.stream with flow :=
        { ((s.settleCopy a report pixels t).streamRec a.stream).flow with cut := c } } =
      { s.streamRec a.stream with flow := { (s.streamRec a.stream).flow with cut := c } } := by
  have hq : ∀ (x : State) (n : Nat) (k : Fin 256), (x.countQueueCuts t n).streamRec k = x.streamRec k :=
    fun x n k => State.streamRec_congr (by simp) k
  have hr : ∀ x : State, x.streams = s.streams → (∀ k, k ≠ a.stream → x.streamRec k = s.streamRec k) ∧
      ∀ c, { x.streamRec a.stream with flow := { (x.streamRec a.stream).flow with cut := c } } =
        { s.streamRec a.stream with flow := { (s.streamRec a.stream).flow with cut := c } } :=
    fun x h => ⟨fun k _ => State.streamRec_congr h k, fun c => by rw [State.streamRec_congr h]⟩
  have hc : (∀ k, k ≠ a.stream → (s.setCut t a.stream).streamRec k = s.streamRec k) ∧
      ∀ c, { (s.setCut t a.stream).streamRec a.stream with flow := { ((s.setCut t a.stream).streamRec a.stream).flow with cut := c } } =
        { s.streamRec a.stream with flow := { (s.streamRec a.stream).flow with cut := c } } :=
    ⟨fun k hk => by simp [State.setCut, hk], fun c => by simp [State.setCut]⟩
  unfold State.settleCopy State.offerLine
  (repeat' split) <;> first | exact hc | exact hr _ rfl

/-! ## The end of the LINE -/

/-- The channels and every other block after a delivered LINE (R29). -/
theorem State.deliver_line (s : State) (e : StreamEntry) (frame line : Nat) (pixels : List Byte) (poisoned : Bool) :
    (s.deliver e (Channel.line frame line pixels poisoned)).alerts = s.alerts ∧
    (s.deliver e (Channel.line frame line pixels poisoned)).orders = s.orders := by
  unfold State.deliver
  split
  · rw [State.channelEvent_quiet _ _ _ (Channel.line_quiet ..).1 (Channel.line_quiet ..).2]; exact ⟨rfl, rfl⟩
  · exact ⟨rfl, rfl⟩

/-- A receiver changed leaves every output and stream record as it is. -/
theorem State.updRx_copy (s : State) (p : Port) (f : Receiver → Receiver) (u : Trunk) (k : Fin 256) : (s.updRx p f).CopyIs s u k :=
  ⟨by simp, by simp, by rw [State.streamRec_congr (State.updRx_streams s p f)]⟩

theorem State.CopyIs.endCutThrough {s t : State} {u : Trunk} {k : Fin 256} (h : t.CopyIs s u k) (p : Port) (tx : Transmission) :
    (t.endCutThrough p u tx).CopyIs (s.endCutThrough p u tx) u k := by
  unfold State.endCutThrough State.endTransmission
  rw [h.1]
  split
  · exact ⟨by simp [h.1], by simp only [State.trunkCounters_updTrunkCounters_self, State.trunkCounters_updOut, h.2.1], h.2.2⟩
  · exact h

theorem State.endCutThrough_copy_of_ne (s : State) (p : Port) (tx : Transmission) {t u : Trunk} (k : Fin 256) (h : u ≠ t) :
    (s.endCutThrough p t tx).CopyIs s u k := by
  unfold State.endCutThrough State.endTransmission
  split
  · exact ⟨by simp [h], by simp [h], rfl⟩
  · exact .refl ..

/-- The copies cut through from a port have ended: at each output, the one of that output. -/
theorem State.endCutThroughs_copy (s : State) (p : Port) (tx : Transmission) (u : Trunk) (k : Fin 256) :
    ((s.endCutThrough p .ta tx).endCutThrough p .tb tx).CopyIs (s.endCutThrough p u tx) u k := by
  cases u
  · exact State.endCutThrough_copy_of_ne _ _ _ _ (by decide)
  · exact (s.endCutThrough_copy_of_ne p tx k (by decide)).endCutThrough p tx

/-- Where the line still belongs to the open frame, both copies are settled and the channel receives what is not FAILED (R26). -/
theorem State.settleLine_open {s : State} {a : LineArrival} (h : s.StillOpen a) (p : Port) (report : EndReport) (bytes : List Byte) :
    let y := (s.settleCopy a report ((bytes.drop 6).take 2560) .ta).settleCopy a report ((bytes.drop 6).take 2560) .tb
    s.settleLine p a report bytes = if report = .failed then y else
      y.deliver (s.streamRec a.stream).entry
        (Channel.line a.frame a.line ((bytes.drop 6).take 2560) (decide (report = .poisoned))) := by
  have hf := h.2
  cases report <;> simp [State.settleLine, hf, h.1, Config.lineBytes]

/-- Where it does not, its fate is counted at the port, and so are the queue cuts of the copies discarded at its header; nothing is
counted when it FAILED (R24, R26, R34, entry 42). -/
theorem State.settleLine_closed {s : State} {a : LineArrival} (h : ¬s.StillOpen a) (p : Port) (report : EndReport)
    (bytes : List Byte) :
    s.settleLine p a report bytes = if report = .failed then s else
      match a.fate with
      | .unrouted => s.countUnrouted p
      | .misrouted => s.countMisrouted p
      | .stray => s.countStray p
      | .belongs _ => ((s.countHeaderCut a .ta).countHeaderCut a .tb).countStray p := by
  unfold State.settleLine
  cases hf : a.fate with
  | belongs n =>
    have : ¬((s.streamRec a.stream).flow.isOpen = true ∧ (s.streamRec a.stream).flow.epoch = n) := by
      rintro ⟨h1, rfl⟩; exact h ⟨h1, hf⟩
    simp [this]
  | _ => rfl

/-- What the end of a LINE in arrival does. -/
theorem State.reportLineEnd_ends {s : State} {p : Port} {a : LineArrival} (ha : (s.rx p).arrival = some a)
    (hc : s.CuttingHasArrival) (hm : s.MemoryCanonical) (report : EndReport) (bytes : List Byte) :
    s.LineEnded p a report bytes (s.reportLineEnd p report bytes) := by
  obtain ⟨x, hx, hrx, hup, hcopy, hframe⟩ : ∃ x : State, s.reportLineEnd p report bytes = x.settleLine p a report bytes ∧
      (∀ q, x.rx q = if q = p then { s.rx p with arrival := none } else s.rx q) ∧ (∀ u, x.trunkUp u = s.trunkUp u) ∧
      (∀ u, x.CopyIs (s.endCutThrough p u (a.transmission report bytes)) u a.stream) ∧
      ((∀ i, { Tab.get x.cams i with rx := (Tab.get s.cams i).rx } = Tab.get s.cams i) ∧ x.streams = s.streams ∧
        x.channels = s.channels ∧ x.alerts = s.alerts ∧ x.orders = s.orders) := by
    refine ⟨_, by rw [State.reportLineEnd, ha], ?_, ?_, ?_, ?_⟩
    · intro q; simp [State.rx_updRx]
    · intro u; simp [State.trunkUp_eq, State.rx_updRx]; split <;> simp_all
    · intro u
      exact (State.endCutThroughs_copy ..).trans ((State.updRx_copy ..).endCutThrough ..)
    · refine ⟨fun i => ?_, by simp, by simp, by simp, by simp⟩
      simp only [State.endCutThrough_frame]
      cases p with
      | trunk t => rfl
      | cam j => simp only [State.updRx, State.updCam_cams, Tab.get_upd]; split <;> simp_all
  obtain ⟨hcam, hst, hch, hal, hor⟩ := hframe
  have hopen : x.StillOpen a ↔ s.StillOpen a := by unfold State.StillOpen; rw [State.streamRec_congr hst]
  have hcut : ∀ u, (s.out u).sending = .cutting p → a.decisions.get u = .cutThrough := by
    intro u hu
    obtain ⟨b, hb, hd⟩ := hc u p hu
    rw [ha] at hb
    exact Option.some.inj hb ▸ hd
  have hcopied : ∀ u, (s.out u).sending ≠ .cutting p → x.CopyIs s u a.stream := by
    intro u hu
    have := hcopy u
    rwa [State.endCutThrough, if_neg hu] at this
  have hended : ∀ u, (s.out u).sending = .cutting p →
      x.CopyIs (s.endTransmission u (a.transmission report bytes)) u a.stream := by
    intro u hu
    have := hcopy u
    rwa [State.endCutThrough, if_pos hu] at this
  have hsent : ∀ u, let line := (Packet.line a.stream a.frame a.line ((bytes.drop 6).take 2560)).body
      let checked := if report = .good ∨ line.length = 2566 then line ++ byte2 (packetCheck line).toNat else line
      (s.endTransmission u (a.transmission report bytes)).CopyIs (s.updTrunk u (fun x =>
        { x with out := { x.out with sending := .idle, lastTx := some ⟨checked, decide (report ≠ .good)⟩ }
                 counters := { x.counters with sent := min (x.counters.sent + 1) 65535 } })) u a.stream := by
    intro u line checked
    have : a.transmission report bytes = ⟨checked, decide (report ≠ .good)⟩ := by
      cases report <;> simp [LineArrival.transmission, checked, line, withCheck, Config.lineBytes]
    rw [this]
    exact ⟨by cases u <;> rfl, by cases u <;> rfl, rfl⟩
  have hrest := State.reportLineEnd_frame s p report bytes
  rw [hx] at hrest ⊢
  by_cases ho : s.StillOpen a
  · have hfate := ho.2
    have hline := State.settleLine_open (hopen.2 ho) p report bytes
    dsimp only at hline
    generalize hy : (x.settleCopy a report ((bytes.drop 6).take 2560) .ta).settleCopy a report ((bytes.drop 6).take 2560) .tb = y
      at hline
    have hys : ∀ k, k ≠ a.stream → y.streamRec k = s.streamRec k := by
      intro k hk
      rw [← hy, (State.settleCopy_streams ..).1 k hk, (State.settleCopy_streams ..).1 k hk, State.streamRec_congr hst]
    have hys' : { y.streamRec a.stream with flow :=
        { (y.streamRec a.stream).flow with cut := (s.streamRec a.stream).flow.cut } } = s.streamRec a.stream := by
      rw [← hy, (State.settleCopy_streams ..).2, (State.settleCopy_streams ..).2, State.streamRec_congr hst]
    have hyc : ∀ u, y.CopyIs (x.settleCopy a report ((bytes.drop 6).take 2560) u) u a.stream :=
      fun u => hy ▸ State.settleCopies_copy ..
    have hyr : ∀ q, y.rx q = x.rx q := fun q => by rw [← hy]; simp
    have hych : y.channels = s.channels := by rw [← hy]; simp [hch]
    have hycam : y.cams = x.cams := by rw [← hy]; simp
    have hyal : y.alerts = s.alerts := by rw [← hy]; simp [hal]
    have hyor : y.orders = s.orders := by rw [← hy]; simp [hor]
    rw [State.streamRec_congr hst] at hline
    have ht : (x.settleLine p a report bytes).trunks = y.trunks ∧ (x.settleLine p a report bytes).streams = y.streams ∧
        (x.settleLine p a report bytes).cams = y.cams ∧ (x.settleLine p a report bytes).alerts = y.alerts ∧
        (x.settleLine p a report bytes).orders = y.orders := by
      rw [hline]
      split
      · exact ⟨rfl, rfl, rfl, rfl, rfl⟩
      · exact ⟨by simp, by simp, by simp, (State.deliver_line ..).1, (State.deliver_line ..).2⟩
    obtain ⟨httr, htst, htcam, htal, htor⟩ := ht
    have htc : ∀ u, (x.settleLine p a report bytes).CopyIs (x.settleCopy a report ((bytes.drop 6).take 2560) u) u a.stream :=
      fun u => (State.CopyIs.of_eq httr htst u _).trans (hyc u)
    have htr : ∀ q, (x.settleLine p a report bytes).rx q = x.rx q := fun q => by rw [State.rx_congr htcam httr, hyr]
    have hquiet : ∀ u, a.decisions.get u ≠ .cutThrough → (s.out u).sending ≠ .cutting p := fun u h e => h (hcut u e)
    refine
      { uncounted := fun _ => by rw [htr, hrx, if_pos rfl]
        unrouted := fun _ h => by rw [hfate] at h; cases h
        misrouted := fun _ h => by rw [hfate] at h; cases h
        stray := fun _ h => by
          rcases h with h | ⟨_, h⟩
          · rw [hfate] at h; cases h
          · exact absurd ho h
        receivers := fun q hq => by rw [htr, hrx, if_neg hq]
        through := fun u hu => (htc u).trans ?_
        stored := fun u _ hd hg => (htc u).trans ?_
        spoiled := fun u _ hd hg => (htc u).trans ?_
        cut := fun u _ hd hg => (htc u).trans ?_
        kept := fun u hu hd he => (htc u).trans ?_
        streams := fun k hk => by rw [State.streamRec_congr htst, hys k hk]
        stream := by rw [State.streamRec_congr htst, hys']
        delivered := fun c _ hg he => ?_
        channels := fun c hn => ?_
        cams := fun i => by rw [htcam, hycam]; exact hcam i
        rest := ?_ }
    · have hd := hcut u hu
      have : x.settleCopy a report ((bytes.drop 6).take 2560) u = x := by unfold State.settleCopy; rw [hd]
      rw [this]; exact (hended u hu).trans (hsent u)
    · rw [show x.settleCopy a report ((bytes.drop 6).take 2560) u = x.offerLine u a.stream _ from by
        unfold State.settleCopy; rw [hd, hg]]
      exact (hcopied u (hquiet u (by rw [hd]; decide))).offerLine (hup u) _
    · have : x.settleCopy a report ((bytes.drop 6).take 2560) u = x.setCut u a.stream := by
        unfold State.settleCopy; rw [hd]; cases report <;> first | rfl | exact absurd rfl hg
      rw [this]
      exact (hcopied u (hquiet u (by rw [hd]; decide))).setCut
    · have : x.settleCopy a report ((bytes.drop 6).take 2560) u = x.countQueueCuts u 1 := by
        unfold State.settleCopy; rw [hd]; cases report <;> first | rfl | exact absurd rfl hg
      rw [this]
      exact (hcopied u (hquiet u (by rw [hd]; decide))).countQueueCuts 1
    · have : x.settleCopy a report ((bytes.drop 6).take 2560) u = x := by
        unfold State.settleCopy
        cases hdu : a.decisions.get u <;> cases report <;>
          first | rfl | exact (hd ⟨ho, hdu⟩).elim | exact (he ⟨⟨_, hfate⟩, hdu, by decide⟩).elim
      rw [this]; exact hcopied u hu
    · rw [hline, if_neg hg, State.channel_deliver, if_pos he, State.channel_congr hych]
      exact Channel.line_took _ _ _ _ _ (hm.2 c)
    · rw [hline]
      split
      · exact State.channel_congr hych c
      · next hg => rw [State.channel_deliver, if_neg (fun e => hn ⟨ho, hg, e⟩), State.channel_congr hych]
    · rw [htal, htor, hyal, hyor]
      simp_all
  · have hline := State.settleLine_closed (fun h => ho (hopen.1 h)) p report bytes
    have hcount : ∀ f, (x.updArrivals p f).rx p = { s.rx p with arrival := none, counters := f (s.rx p).counters } := by
      intro f; simp [State.updArrivals, hrx]
    have hx' : (x.settleLine p a report bytes).streams = x.streams ∧ (x.settleLine p a report bytes).channels = x.channels ∧
        (x.settleLine p a report bytes).alerts = x.alerts ∧ (x.settleLine p a report bytes).orders = x.orders ∧
        (∀ u, let counted : Prop := (∃ n, a.fate = .belongs n) ∧ a.decisions.get u = .discardedCut ∧ report ≠ .failed
          (counted → (x.settleLine p a report bytes).CopyIs (x.countQueueCuts u 1) u a.stream) ∧
          (¬counted → (x.settleLine p a report bytes).CopyIs x u a.stream)) ∧
        (∀ q, q ≠ p → (x.settleLine p a report bytes).rx q = x.rx q) ∧
        ∀ i, { Tab.get (x.settleLine p a report bytes).cams i with rx := (Tab.get s.cams i).rx } = Tab.get s.cams i := by
      have hu : ∀ (y : State) (f : ArrivalCounters → ArrivalCounters), y.cams = x.cams → (y.updArrivals p f).streams = y.streams ∧
          (y.updArrivals p f).channels = y.channels ∧ (y.updArrivals p f).alerts = y.alerts ∧ (y.updArrivals p f).orders = y.orders ∧
          (∀ u, (y.updArrivals p f).CopyIs y u a.stream) ∧ (∀ q, q ≠ p → (y.updArrivals p f).rx q = y.rx q) ∧
          ∀ i, { Tab.get (y.updArrivals p f).cams i with rx := (Tab.get s.cams i).rx } = Tab.get s.cams i := by
        intro y f hy
        refine ⟨by simp [State.updArrivals], by simp [State.updArrivals], by simp [State.updArrivals], by simp [State.updArrivals],
          fun u => State.updRx_copy .., fun q hq => by simp [State.updArrivals, hq], fun i => ?_⟩
        cases p with
        | trunk t => rw [← hcam i, ← hy]; rfl
        | cam j =>
          rw [← hcam i, ← hy]
          simp only [State.updArrivals, State.updRx, State.updCam_cams, Tab.get_upd]
          split <;> simp_all
      rw [hline]
      by_cases hg : report = .failed
      · rw [if_pos hg]
        exact ⟨rfl, rfl, rfl, rfl, fun u => ⟨fun h => absurd hg h.2.2, fun _ => .refl ..⟩, fun _ _ => rfl, hcam⟩
      · rw [if_neg hg]
        cases hf : a.fate with
        | belongs n =>
          obtain ⟨h1, h2, h3, h4, h5, h6, h7⟩ := hu ((x.countHeaderCut a .ta).countHeaderCut a .tb)
            (fun k => { k with stray := bumpTraffic k.stray }) (by simp)
          refine ⟨h1.trans (by simp), h2.trans (by simp), h3.trans (by simp), h4.trans (by simp), fun u => ?_,
            fun q hq => (h6 q hq).trans (by simp), h7⟩
          have h := (h5 u).trans (x.countHeaderCuts_copy a u)
          refine ⟨fun ⟨_, hd, _⟩ => ?_, fun hn => ?_⟩
          · rwa [State.countHeaderCut.eq_1 x a u, if_pos hd] at h
          · rwa [State.countHeaderCut.eq_1 x a u, if_neg (fun hd => hn ⟨⟨_, rfl⟩, hd, hg⟩)] at h
        | _ =>
          obtain ⟨h1, h2, h3, h4, h5, h6, h7⟩ := hu x _ rfl
          exact ⟨h1, h2, h3, h4, fun u => ⟨fun h => by simp at h, fun _ => h5 u⟩, h6, h7⟩
    obtain ⟨htst, htch, htal, htor, htc, htr, htcam⟩ := hx'
    exact
      { uncounted := fun h => by
          rcases h with h | h
          · rw [hline, if_pos h, hrx, if_pos rfl]
          · exact absurd h ho
        unrouted := fun h hf => by rw [hline, if_neg h, hf]; exact hcount _
        misrouted := fun h hf => by rw [hline, if_neg h, hf]; exact hcount _
        stray := fun h hf => by
          rcases hf with hf | ⟨⟨n, hf⟩, _⟩ <;> rw [hline, if_neg h, hf]
          · exact hcount _
          · simp [State.countStray, State.updArrivals, hrx, bumpTraffic, Config.trafficMax]
        receivers := fun q hq => by rw [htr q hq, hrx, if_neg hq]
        through := fun u hu => ((htc u).2 (by simp [hcut u hu])).trans ((hended u hu).trans (hsent u))
        stored := fun u h => absurd h ho
        spoiled := fun u h => absurd h ho
        cut := fun u hf hd hg =>
          ((htc u).1 ⟨hf, hd, hg⟩).trans ((hcopied u (fun e => by rw [hcut u e] at hd; cases hd)).countQueueCuts 1)
        kept := fun u hu _ hn => ((htc u).2 hn).trans (hcopied u hu)
        streams := fun k _ => by rw [State.streamRec_congr htst, State.streamRec_congr hst]
        stream := by rw [State.streamRec_congr htst, State.streamRec_congr hst]
        delivered := fun c h => absurd h ho
        channels := fun c _ => by rw [State.channel_congr htch, State.channel_congr hch]
        cams := htcam
        rest := by rw [htal, htor]; simp_all }

end Sys2Proof.Machine
end

