-- ==== Sys2Proof/Laws/Orders.lean ====
section
/-! SUPPORT. What the shared operations of an order do: a running hub, the execution of the first-consumed order, its answer, and
the reading of its fields. -/

namespace Sys2Proof.Machine

theorem whenRunning_of_running {f : State → State} {s : State} (h : s.held = false) : whenRunning f s = .next (f s) := by
  simp [whenRunning, h]

theorem whenRunning_of_held {f : State → State} {s : State} (h : s.held = true) : whenRunning f s = .next s := by
  simp [whenRunning, h]

/-! ## The answer -/

theorem State.answer_eq_replied (s : State) (i : Fin 2) (o : HeldOrder) (a : Answer) : s.answer i o a = s.replied i o a := rfl

@[simp] theorem State.replied_frame (s : State) (i : Fin 2) (o : HeldOrder) (a : Answer) :
    (s.replied i o a).cams = s.cams ∧ (s.replied i o a).trunks = s.trunks ∧ (s.replied i o a).streams = s.streams ∧
    (s.replied i o a).channels = s.channels ∧ (s.replied i o a).lenses = s.lenses ∧ (s.replied i o a).profiles = s.profiles ∧
    (s.replied i o a).selector = s.selector ∧ (s.replied i o a).screens = s.screens ∧ (s.replied i o a).views = s.views ∧
    (s.replied i o a).alerts = s.alerts ∧ (s.replied i o a).loader = s.loader ∧ (s.replied i o a).flash = s.flash ∧
    (s.replied i o a).straps = s.straps ∧ (s.replied i o a).held = s.held ∧ (s.replied i o a).freeUsed = s.freeUsed ∧
    (s.replied i o a).pending = s.pending := by
  simp [State.replied]

@[simp] theorem State.replied_hub (s : State) (i : Fin 2) (o : HeldOrder) (a : Answer) :
    (s.replied i o a).orders.hub = s.orders.hub := rfl

@[simp] theorem State.replied_slot (s : State) (i : Fin 2) (o : HeldOrder) (a : Answer) :
    Tab.get (s.replied i o a).orders.slots i = .free := by
  simp [State.replied, Tab.get]

@[simp] theorem State.replied_queue (s : State) (i : Fin 2) (o : HeldOrder) (a : Answer) :
    (s.replied i o a).orders.queue = s.orders.queue ++ [.reply o.tag o.code a] := rfl

/-! ## The execution -/

/-- An order that can execute runs under its command (R156). -/
theorem State.Executes.onOrder {s : State} {i : Fin 2} {o : HeldOrder} {code : Byte} {params : List Byte}
    (h : s.Executes i o code params) {codes : Byte → Bool} (hc : codes code = true) (h20 : code ≠ resetHubCode)
    (run : Fin 2 → HeldOrder → State → State) : s.onOrder codes run = run i o s := by
  have hx : s.canExecute o = true := by
    unfold State.canExecute
    rw [h.hasCode, if_neg (by simp only [Bool.and_eq_true, decide_eq_true_eq]; exact fun e => h20 e.1), h.place]
  simp [State.onOrder, h.first, h.hasCode, hc, hx]

/-- An order that can execute and has its parameter length does its effect and is answered (R157, R159). -/
theorem State.Executes.runOrder {s : State} {i : Fin 2} {o : HeldOrder} {code : Byte} {params : List Byte}
    (h : s.Executes i o code params) (h20 : code ≠ resetHubCode) {n : Nat} (hn : params.length = n)
    (effect : List Byte → State → State × Answer) :
    s.runOrder code n effect = (effect params s).1.replied i o (effect params s).2 := by
  have hl : s.loading = false := by simp [State.loading, h.loaded]
  unfold State.runOrder
  rw [h.onOrder (by simp) h20]
  simp [State.carryOut, hl, h.carries, hn, State.answer_eq_replied]

/-! ## Fields of an order -/

theorem instanceOf_eq_some {n b : Nat} {c : Fin n} (h : c.val = b) : instanceOf n b = some c := by
  subst h
  simp [instanceOf]

theorem instanceOf_eq_none {n b : Nat} (h : n ≤ b) : instanceOf n b = none := by
  simp [instanceOf]
  omega

/-- A clamped field: the nearest value of the range, and whether it is another than the one given (spec 00 section 1.4.5). -/
theorem clamp_spec {low high : Nat} (h : low ≤ high) (n : Nat) :
    (clamp low high n).value = min high (max low n) ∧ (clamp low high n).flag = decide (n < low ∨ high < n) := by
  unfold clamp
  constructor
  · split_ifs <;> (dsimp only; omega)
  · split_ifs <;> simp <;> omega

end Sys2Proof.Machine
end

