-- ==== Sys2Proof/Laws/Select.lean ====
section
/-! SUPPORT. What the view selector does at a recomputation, at a change of the line vector, and at a door line (R100 to R113). -/

namespace Sys2Proof.Machine

/-! ## Recomputation (R112) -/

/-- The selector after the recomputation of one screen. -/
theorem State.recompute_selector (s : State) (sc : Fin 2) :
    (s.recompute sc).selector =
      { s.selector with
        chosen := Tab.upd s.selector.chosen sc (fun _ =>
          chooseView s.selector.triggers sc (Tab.get s.selector.pins sc) (s.screen sc).defaultView) } := by
  simp [State.recompute, State.screen]

/-- The order unit after the recomputation of one screen: a VIEW notice for a changed view (R113). -/
theorem State.recompute_orders (s : State) (sc : Fin 2) :
    (s.recompute sc).orders =
      (let old := Tab.get s.selector.chosen sc
      let new := chooseView s.selector.triggers sc (Tab.get s.selector.pins sc) (s.screen sc).defaultView
      if old.view ≠ new.view then s.orders.offer (.view sc old.view new.view new.source) else s.orders) := by
  simp only [State.recompute, State.offerIf, State.screen]
  split <;> simp_all

/-- A recomputation of both screens leaves the rest of the selector, and makes both chosen views current. -/
theorem State.recomputeBoth_spec (s : State) :
    s.recomputeBoth.selector.doors = s.selector.doors ∧ s.recomputeBoth.selector.virtual = s.selector.virtual ∧
    s.recomputeBoth.selector.triggers = s.selector.triggers ∧ s.recomputeBoth.selector.pins = s.selector.pins ∧
    s.recomputeBoth.ChosenViewsCurrent := by
  have h : s.recomputeBoth.selector = { s.selector with chosen := s.recomputeBoth.selector.chosen } := by
    simp [State.recomputeBoth, State.recompute_selector]
  have hs : ∀ sc, s.recomputeBoth.screen sc = s.screen sc := fun sc => by simp [State.screen]
  refine ⟨by rw [h], by rw [h], by rw [h], by rw [h], ?_⟩
  intro sc
  rw [hs, h]
  have h0 : (s.recompute 0).screen 1 = s.screen 1 := by simp [State.screen]
  have : sc = 0 ∨ sc = 1 := by omega
  rcases this with rfl | rfl
  · simp [State.recomputeBoth, State.recompute_selector]
  · simp [State.recomputeBoth, State.recompute_selector, h0]

/-- The chosen views depend only on the triggers, the pins and the default views. -/
theorem State.ChosenViewsCurrent.congr {s t : State} (h : s.ChosenViewsCurrent) (hs : t.selector = s.selector)
    (hd : ∀ sc, (t.screen sc).defaultView = (s.screen sc).defaultView) : t.ChosenViewsCurrent := by
  intro sc
  rw [hs, hd]
  exact h sc

/-! ## The line vector (R103, R106) -/

/-- The move of an entry: its settings stay, and an enabled entry is ACTIVE exactly when its condition holds (R106). -/
theorem Trigger.evaluate_spec (v : BitVec 16) (t : Trigger) :
    t.evaluate v = { t with state := (t.evaluate v).state } ∧ (t.enable = false → t.evaluate v = t) ∧
    (t.enable = true → ((t.evaluate v).state = .active ↔ t.holds v = true)) ∧
    (t.state = .active → (t.evaluate v).state ≠ .active →
      (t.evaluate v).state = if t.linger = 0 then .idle else .linger (t.linger * 1000)) ∧
    ((t.evaluate v).state ≠ .active → t.state ≠ .active → t.evaluate v = t) := by
  obtain ⟨enable, mask, value, screens, view, priority, linger, state⟩ := t
  unfold Trigger.evaluate
  cases enable <;> cases state <;> dsimp only <;>
    by_cases hh : (v &&& mask) = (value &&& mask) <;> simp [Trigger.holds, hh]
  split <;> simp

/-- A change of the line vector leaves the door lines, the virtual lines and the pins, and moves every entry (R106). -/
theorem State.vectorChanged_spec (s : State) :
    s.vectorChanged.selector.doors = s.selector.doors ∧ s.vectorChanged.selector.virtual = s.selector.virtual ∧
    s.vectorChanged.selector.pins = s.selector.pins ∧
    (∀ t, s.vectorChanged.trigger t = (s.trigger t).evaluate s.selector.lineVector) ∧
    (s.ChosenViewsCurrent → s.vectorChanged.ChosenViewsCurrent) := by
  unfold State.vectorChanged
  dsimp only
  split
  · next h =>
    refine ⟨rfl, rfl, rfl, fun t => ?_, id⟩
    simp only [State.trigger]
    conv_lhs => rw [← h]
    simp
  · obtain ⟨h1, h2, h3, h4, h5⟩ := State.recomputeBoth_spec
      { s with selector := { s.selector with triggers := s.selector.triggers.map (Trigger.evaluate s.selector.lineVector) } }
    exact ⟨h1, h2, h4, fun t => by simp [State.trigger, h3], fun _ => h5⟩

/-- The line vector follows from the door lines' filtered levels and the virtual lines (R103). -/
theorem Selector.lineVector_congr {v w : Selector} (hv : w.virtual = v.virtual)
    (hd : ∀ d : Fin 8, (Tab.get w.doors d).filtered = (Tab.get v.doors d).filtered) : w.lineVector = v.lineVector := by
  unfold Selector.lineVector
  rw [hv, funext hd]

/-- After a change of the line vector every entry is as the vector has it (R104, R106). -/
theorem State.vectorChanged_follows (s : State) (h : ∀ t, (s.trigger t).enable = false → (s.trigger t).state = .idle) :
    s.vectorChanged.TriggersFollowVector := by
  obtain ⟨h1, h2, h3, h4, -⟩ := s.vectorChanged_spec
  have hv : s.vectorChanged.selector.lineVector = s.selector.lineVector := Selector.lineVector_congr h2 (fun d => by rw [h1])
  intro t
  obtain ⟨e1, e2, e3, -⟩ := Trigger.evaluate_spec s.selector.lineVector (s.trigger t)
  have hen : ((s.trigger t).evaluate s.selector.lineVector).enable = (s.trigger t).enable := by rw [e1]
  have hho : ((s.trigger t).evaluate s.selector.lineVector).holds s.selector.lineVector =
      (s.trigger t).holds s.selector.lineVector := by rw [e1]; rfl
  rw [h4, hv, hen, hho]
  exact ⟨e3, fun he => by rw [e2 he]; exact h t he⟩

/-- Entries follow the vector after changes that leave the entries and the vector. -/
theorem State.TriggersFollowVector.congr {s t : State} (h : s.TriggersFollowVector) (ht : ∀ n, t.trigger n = s.trigger n)
    (hv : t.selector.lineVector = s.selector.lineVector) : t.TriggersFollowVector := by
  intro n
  rw [ht, hv]
  exact h n

/-! ## Door lines (R100) -/

@[simp] theorem State.door_updDoor_self (s : State) (d : Fin 8) (f : DoorLine → DoorLine) : (s.updDoor d f).door d = f (s.door d) := by
  simp [State.door]

@[simp] theorem State.door_updDoor_of_ne (s : State) {d e : Fin 8} (f : DoorLine → DoorLine) (h : e ≠ d) :
    (s.updDoor d f).door e = s.door e := by
  simp [State.door, h]

/-- A door line takes a filtered level (R100, R103): its wait stops, the rest of the lines stays, and every entry follows. -/
theorem State.setFiltered_spec (s : State) (d : Fin 8) (level : Bool) (stop : Nat) :
    (s.setFiltered d level stop).door d = { s.door d with filtered := level, wait := none, stoppedAt := stop } ∧
    (∀ e, e ≠ d → (s.setFiltered d level stop).door e = s.door e) ∧
    (s.setFiltered d level stop).selector.virtual = s.selector.virtual ∧ (s.setFiltered d level stop).selector.pins = s.selector.pins ∧
    (s.TriggersFollowVector → (s.setFiltered d level stop).TriggersFollowVector) ∧
    (s.ChosenViewsCurrent → (s.setFiltered d level stop).ChosenViewsCurrent) ∧
    (∀ n, (s.setFiltered d level stop).trigger n = s.trigger n ∨
      (s.setFiltered d level stop).trigger n = (s.trigger n).evaluate (s.setFiltered d level stop).selector.lineVector) := by
  unfold State.setFiltered
  dsimp only
  by_cases hc : (s.door d).filtered = level
  · simp only [hc, ne_eq, not_true_eq_false, if_false]
    have hv : (s.updDoor d (fun l => { l with filtered := level, wait := none, stoppedAt := stop })).selector.lineVector =
        s.selector.lineVector := by
      refine Selector.lineVector_congr rfl (fun e => ?_)
      by_cases he : e = d
      · subst he
        simp only [State.door] at hc
        simp [hc]
      · simp [he]
    exact ⟨by simp, fun e he => by simp [he], rfl, rfl, fun h => h.congr (fun _ => rfl) hv,
      fun h => fun sc => h sc, fun n => .inl rfl⟩
  · simp only [hc, ne_eq, not_false_eq_true, if_true]
    obtain ⟨h1, h2, h3, h4, h5⟩ :=
      (s.updDoor d (fun l => { l with filtered := level, wait := none, stoppedAt := stop })).vectorChanged_spec
    refine ⟨by simp [State.door, h1], fun e he => by simp [State.door, h1, he], h2, h3, fun h => ?_, fun h => h5 (fun sc => h sc), ?_⟩
    · exact State.vectorChanged_follows _ (fun t ht => (h t).2 ht)
    · intro n
      right
      rw [h4, Selector.lineVector_congr h2 (fun d => by rw [h1])]
      rfl

/-! ## What moves with the line vector (R106, R112, R113) -/

/-- The order unit after both recomputations: the VIEW notices of R113, SC0's first. -/
theorem State.recomputeBoth_orders (s : State) :
    s.recomputeBoth.orders = s.viewNotice s.recomputeBoth 1 (s.viewNotice s.recomputeBoth 0 s.orders) := by
  have h0 : (s.recompute 0).screen 1 = s.screen 1 := by simp [State.screen]
  simp only [State.recomputeBoth, State.recompute_orders, State.viewNotice, State.recompute_selector, h0]
  simp

/-- The move of an entry, as R106 lists it. -/
theorem Trigger.evaluate_eq (v : BitVec 16) (t : Trigger) :
    t.evaluate v = { t with
      state :=
        if t.enable = false then t.state
        else if v &&& t.mask = t.value &&& t.mask then .active
        else match t.state with
          | .active => if t.linger = 0 then .idle else .linger (1000 * t.linger)
          | .idle => .idle
          | .linger ms => .linger ms } := by
  obtain ⟨enable, mask, value, screens, view, priority, linger, state⟩ := t
  unfold Trigger.evaluate Trigger.holds
  cases enable
  · rfl
  · by_cases hh : (v &&& mask) = (value &&& mask) <;> cases state <;> simp [hh, Nat.mul_comm]

/-- A change of the line vector moves every trigger by R106, and the chosen views and their notices follow (R112, R113). -/
theorem State.vectorChanged_moves (s : State) : s.VectorMoves s.vectorChanged := by
  obtain ⟨h1, h2, h3, h4, h5⟩ := s.vectorChanged_spec
  have hv : s.vectorChanged.selector.lineVector = s.selector.lineVector := Selector.lineVector_congr h2 (fun d => by rw [h1])
  refine ⟨fun n => by rw [h4, hv]; exact Trigger.evaluate_eq _ _, h5, fun h => ?_, ?_, h3, by simp⟩
  · have hs : s.selector.triggers.map (Trigger.evaluate s.selector.lineVector) = s.selector.triggers :=
      Tab.ext_get fun n => by rw [Tab.get_map]; exact (h4 n).symm.trans (h n)
    simp [State.vectorChanged, hs]
  · unfold State.vectorChanged
    dsimp only
    split
    · simp [State.viewNotice]
    · exact State.recomputeBoth_orders _

/-- Without a change of the line vector, nothing moves. -/
theorem State.VectorMoves.of_same {s t : State} (hf : s.TriggersFollowVector) (ht : ∀ n, t.trigger n = s.trigger n)
    (hv : t.selector.lineVector = s.selector.lineVector) (hc : t.selector.chosen = s.selector.chosen)
    (hp : t.selector.pins = s.selector.pins) (ho : t.orders = s.orders)
    (hg : s.ChosenViewsCurrent → t.ChosenViewsCurrent)
    (hr : t.cams = s.cams ∧ t.trunks = s.trunks ∧ t.streams = s.streams ∧ t.channels = s.channels ∧ t.lenses = s.lenses ∧
      t.profiles = s.profiles ∧ t.screens = s.screens ∧ t.views = s.views ∧ t.alerts = s.alerts ∧ t.loader = s.loader ∧
      t.flash = s.flash ∧ t.straps = s.straps ∧ t.held = s.held ∧ t.pending = s.pending) : s.VectorMoves t := by
  refine ⟨fun n => ?_, hg, fun _ => hc, by simp [State.viewNotice, hc, ho], hp, hr⟩
  rw [ht, hv]
  refine Eq.trans ?_ (Trigger.evaluate_eq _ _)
  obtain ⟨e1, e2, e3, -, e5⟩ := Trigger.evaluate_spec s.selector.lineVector (s.trigger n)
  obtain ⟨f1, -⟩ := hf n
  cases he : (s.trigger n).enable
  · exact (e2 he).symm
  · by_cases ha : (s.trigger n).state = .active
    · rw [e1, (e3 he).2 ((f1 he).1 ha), ← ha]
    · exact (e5 (fun h => ha ((f1 he).2 ((e3 he).1 h))) ha).symm

/-- A door line takes a filtered level (R100, R103): the triggers, the chosen views and their notices follow (R106, R112, R113). -/
theorem State.setFiltered_moves (s : State) (d : Fin 8) (level : Bool) (stop : Nat) (hf : s.TriggersFollowVector) :
    s.VectorMoves (s.setFiltered d level stop) := by
  unfold State.setFiltered
  dsimp only
  by_cases hc : (s.door d).filtered = level
  · rw [if_neg (by simp [hc])]
    refine .of_same hf (fun _ => rfl) (Selector.lineVector_congr rfl fun e => ?_) rfl rfl rfl (fun h sc => h sc) (by simp)
    by_cases he : e = d
    · subst he
      simp only [State.door] at hc
      simp [hc]
    · simp [he]
  · rw [if_pos (by simp [hc])]
    have h := (s.updDoor d (fun l => { l with filtered := level, wait := none, stoppedAt := stop })).vectorChanged_moves
    exact ⟨h.triggers, fun c => h.chosen (fun sc => c sc), h.unmoved, h.notices, h.pins, by simp⟩

end Sys2Proof.Machine
end

