-- ==== Sys2Proof/WellFormed.lean ====
section
/-! DEFINITION. Which commands can be given at all. Most operands are bounded by their types; what remains is how many bytes a
packet in arrival can hold (R1). -/

namespace Sys2Proof

/-- Bytes a packet may hold when it meets this framing fault (R1): the over-long packet is one byte beyond the longest. -/
def FramingCause.admits (cause : FramingCause) (n : Nat) : Bool :=
  match cause with
  | .startInside | .idleOrInvalid => n ≤ Config.longestPacket
  | .overLong => n = Config.longestPacket + 1

/-- A command is well formed when the packet it speaks of is one a port can form (R1). -/
def Instr.wellFormed : Instr → Bool
  | .framingFault _ cause bytes => cause.admits bytes.length
  | .packetEnd _ bytes => bytes.length ≤ Config.longestPacket
  | .poisonedArrival _ bytes => bytes.length ≤ Config.longestPacket
  | .linkDown _ (some bytes) => bytes.length ≤ Config.longestPacket
  | .linkDown _ none => true
  | .powerOn _ | .resetLineAsserted | .resetLineReleased _ | .lineHeader _ _ _ _ | .linkUp _ | .restartHoldEnd _ => true
  | .transmissionStart _ | .transmissionEnd _ | .frameAgeStale _ | .frameAgeLost _ => true
  | .doorLineChange _ _ | .filterWaitExpiry _ | .lingerExpiry _ | .silenceExpiry => true
  | .outputFrameStart _ | .pulseBoundary _ | .noticeMove => true
  | .presence | .setHub | .setPort | .restartPort | .loadStream | .setChannel | .loadView | .setScreen | .loadTrigger => true
  | .setLines | .pinView | .releaseView | .loadProfile | .learn | .setAlert | .query | .queryZones | .clearCounts => true
  | .saveSettings | .resetHub | .badCode => true
  | .eraseDone | .eraseTimeout | .pageDone | .pageTimeout | .imageJudged _ | .imageEntryApply => true

end Sys2Proof
end

