-- ==== Sys2Proof/Tests/Slice0.lean ====
section
/-! SUPPORT. Tests: the well-formedness check refuses what no port can form; worked figures of the spec; one small step for most
commands; and for every obligation with hypotheses a named witness that meets them, clause by clause. Expected values come from the
spec's tables and worked sequences. -/

namespace Sys2Proof.Tests

set_option Elab.async false

open Sys2Proof Sys2Proof.Machine

/-! ## Small states -/

/-- The hub after its load, with nothing loaded. -/
def ready : State := { State.reset with loader := { phase := .ready, job := none, resetTag := none } }

def orderOf (code : Byte) (params : List Byte) : HeldOrder :=
  { code := code, tag := 7, params := params, arrival := .ta, seq := 0, broadcast := false }

/-- A state with an order PENDING in slot 0. -/
def withOrder (s : State) (code : Byte) (params : List Byte) : State :=
  { s with orders := { s.orders with slots := #v[.pending (orderOf code params), .free] } }

/-- The hub after its load, about to execute an order. -/
def ordered (code : Byte) (params : List Byte) : State := withOrder ready code params

theorem ordered_executes (code : Byte) (params : List Byte) : (ordered code params).Executes 0 (orderOf code params) code params :=
  ⟨rfl, rfl, rfl, rfl, rfl, rfl⟩

/-- A trunk's link UP. -/
def trunkUpOn (u : Trunk) (s : State) : State := s.updTrunk u (fun p => { p with rx := { p.rx with link := .up } })

/-- A camera port enabled with its link UP. -/
def cameraOn (i : Fin 8) (s : State) : State := s.updCam i (fun c => { c with enable := true, rx := { c.rx with link := .up } })

/-- What a command answers, as a state. -/
def after (c : Instr) (s : State) : State :=
  match exec c s with
  | .next t => t
  | _ => s

/-! ## Which commands can be given (R1) -/

theorem test_longest_packet_is_well_formed : (Instr.packetEnd (.cam 0) (List.replicate 2568 0)).wellFormed = true := by decide +kernel
theorem test_longer_packet_is_refused : (Instr.packetEnd (.cam 0) (List.replicate 2569 0)).wellFormed = false := by decide +kernel
theorem test_longer_poisoned_is_refused : (Instr.poisonedArrival (.trunk .ta) (List.replicate 2569 0)).wellFormed = false := by
  decide +kernel
theorem test_overlong_needs_one_byte_more :
    (Instr.framingFault (.cam 1) .overLong (List.replicate 2569 0)).wellFormed = true ∧
    (Instr.framingFault (.cam 1) .overLong (List.replicate 2568 0)).wellFormed = false := by decide +kernel
theorem test_longer_open_packet_is_refused :
    (Instr.framingFault (.cam 1) .startInside (List.replicate 2569 0)).wellFormed = false ∧
    (Instr.framingFault (.cam 1) .idleOrInvalid (List.replicate 2569 0)).wellFormed = false := by decide +kernel
theorem test_longer_packet_at_link_down_is_refused :
    (Instr.linkDown (.cam 1) (some (List.replicate 2569 0))).wellFormed = false ∧
    (Instr.linkDown (.cam 1) none).wellFormed = true := by decide +kernel

/-! ## Worked figures of the spec -/

/-- R4: the check of no bytes, and of the characters 1 to 9. -/
theorem test_packet_check : packetCheck [] = 65535 ∧ packetCheck [49, 50, 51, 52, 53, 54, 55, 56, 57] = 10673 := by decide +kernel

/-- R5: the bytes of a FRAME-OPEN, a FRAME-CLOSE, an ORDER and a NOTICE, laid out by hand. -/
theorem test_packet_layouts :
    (Packet.frameOpen 17 500 .clean 2).body = [1, 17, 1, 244, 1, 2] ∧ (Packet.frameClose 17 500 .cut).body = [3, 17, 1, 244, 1] ∧
    (Packet.order 2 11 9 [0, 5, 3]).body = [8, 2, 11, 9, 3, 0, 5, 3] ∧ (Packet.notice 2 7 8 0 [0, 1]).body = [9, 2, 7, 8, 0, 2, 0, 1] := by
  decide +kernel

/-- R5: the same packets read back from hand-laid bytes. -/
theorem test_packets_read :
    judgePacket true (withCheck [1, 17, 1, 244, 1, 2]) = .ok (.frameOpen 17 500 .clean 2) ∧
    judgePacket true (withCheck [8, 2, 11, 9, 3, 0, 5, 3]) = .ok (.order 2 11 9 [0, 5, 3]) ∧
    judgePacket true (withCheck [1, 17, 1, 244, 5, 2]) = .error .shape ∧ judgePacket false (withCheck [8, 2, 11, 9, 0]) = .error .shape ∧
    judgePacket true [1, 2] = .error .shape ∧ judgePacket true [1, 17, 1, 244, 1, 2, 0, 0] = .error .check := by
  decide +kernel

/-- R54: the rows yielded. -/
theorem test_yielded_rows :
    yieldedRow [150] 150 = 149 ∧ yieldedRow [300, 301] 301 = 299 ∧ yieldedRow [0, 1, 2] 0 = 3 ∧ yieldedRow [0, 1, 2] 2 = 3 := by
  decide +kernel

/-- R68: the terms with F = 8. -/
theorem test_pair_terms : pairTerm 8 112 131 = 11 ∧ pairTerm 8 40 190 = 63 ∧ pairTerm 8 200 195 = 0 ∧ pairTerm 8 77 85 = 0 := by decide

/-- R75: verdicts at the default limits. -/
theorem test_verdicts :
    Profile.reset.verdict 24 = .judged ∧ Profile.reset.verdict 23 = .dark ∧ Profile.reset.verdict 235 = .judged ∧
      Profile.reset.verdict 236 = .glare := by decide

/-- R78: with J = 48, D = 8 is HAZE and D = 7 is CLEAN. -/
theorem test_candidates : Profile.reset.candidate (8 * 100 / 48) = .haze ∧ Profile.reset.candidate (7 * 100 / 48) = .clean := by decide

/-- R81: drift with S = 6, and the floor of 64 with S = 4. -/
theorem test_drift :
    driftBaseline 6 1000 1190 = 1002 ∧ driftBaseline 6 1000 900 = 999 ∧ driftBaseline 6 1000 1040 = 1000 ∧ driftBaseline 4 64 40 = 64 ∧
      clarityOf 40 64 = 62 := by decide

/-- R94: H1 = 0, H2 = 40, H3 = 120 become 1, 40, 100; H2 = 100 with H3 = 150 is refused. -/
theorem test_profile_clamps :
    (readLoadProfile [2, 8, 60, 0, 40, 120, 3, 10, 24, 235, 8, 6, 0]).map (fun x => (x.2.1.h1, x.2.1.h2, x.2.1.h3, x.2.2)) =
      some (1, 40, 100, true) ∧ readLoadProfile [2, 8, 60, 1, 100, 150, 3, 10, 24, 235, 8, 6, 0] = none := by decide +kernel

/-- A tile of IC0 without alternate, with this window and destination width. -/
def windowOf (left right w : Nat) : List Byte :=
  [0, 12, 0] ++ byte2 left ++ byte2 0 ++ byte2 right ++ byte2 719 ++ byte2 440 ++ byte2 200 ++ byte2 w ++ byte2 400 ++ [0]

/-- R123: the fitted windows. -/
theorem test_window_fitting :
    (readTile (windowOf 320 955 400)).map (fun t => (t.1.left, t.1.right, t.2)) = some (320, 959, false) ∧
    (readTile (windowOf 325 330 64)).map (fun t => (t.1.left, t.1.right, t.2)) = some (320, 335, false) ∧
    (readTile (windowOf 1000 1500 280)).map (fun t => (t.1.left, t.1.right, t.2)) = some (1000, 1279, true) ∧
    readTile (windowOf 1290 1400 400) = none := by decide +kernel

def workedTile (mirror : Bool) : Tile :=
  { primary := 0, alternate := none, level := .never, left := 320, top := 0, right := 959, bottom := 719, x := 440, y := 200, w := 400
    h := 400, mirror := mirror }

/-- R126, worked figures. -/
theorem test_source_pixels :
    (workedTile false).sourceColumn 0 = 320 ∧ (workedTile false).sourceColumn 1 = 321 ∧ (workedTile false).sourceColumn 399 = 958 ∧
    (workedTile false).sourceRow 399 = 718 ∧ (workedTile true).sourceColumn 0 = 959 ∧ (workedTile true).sourceColumn 399 = 321 ∧
    (workedTile false).sourceColumn 279 = 766 := by decide

/-- R127: an even screen column takes the Cb of the pair of column 481, an odd one its Cr. -/
theorem test_chroma_pairs :
    rowPixel ((List.range 2560).map (fun i => BitVec.ofNat 8 i)) 481 700 = ⟨194, 193⟩ ∧
    rowPixel ((List.range 2560).map (fun i => BitVec.ofNat 8 i)) 481 701 = ⟨194, 195⟩ := by decide +kernel

/-- R136, R135: a blinking border is drawn in the first half of each 50 positions of 25. -/
theorem test_blink : blinkShown 0 = true ∧ blinkShown 24 = true ∧ blinkShown 25 = false ∧ blinkShown 49 = false := by decide

/-- R180: the snapshot of an empty setup is 3,798 bytes. -/
theorem test_snapshot_length : ready.snapshot.length = 3798 := by decide +kernel

/-! ## States that the invariants hold of -/

/-- A bound channel that fills slot 1 with frame 9 and shows slot 0 on SC0. -/
def liveChannel : Channel :=
  { Channel.reset with
    stream := some 5, state := .live, grade := .clean, home := some 2, age := ⟨40, true⟩, intake := .filling 1 9
    slots := #v[{ Slot.reset with state := .stored, newest := true, readers := 1, missing := [3], frame := 8 },
      { Slot.reset with state := .filling, frame := 9, good := [0, 1] }, .reset] }

/-- Stream 5 from CP0 to TA and IC0. -/
def routed : StreamRecord :=
  { entry := { valid := true, origin := .cam 0, sendTo := ⟨true, false⟩, channel := some 0, cutThrough := ⟨false, false⟩ }
    flow := { isOpen := true, frame := 9, cut := ⟨false, false⟩, epoch := 1 } }

/-- The hub with CP0 on stream 5, IC0 live, SC0 holding its newest slot, TA and CP0 UP. -/
def running : State :=
  { cameraOn 0 (trunkUpOn .ta ready) with
    streams := Tab.upd ready.streams 5 (fun _ => routed), channels := Tab.upd ready.channels 0 (fun _ => liveChannel)
    screens := Tab.upd ready.screens 0 (fun x => { x with held := Tab.upd x.held 0 (fun _ => some 0) }) }

theorem reset_channel_consistent : Channel.reset.Consistent :=
  ⟨by decide, by decide, fun _ => ⟨rfl, rfl, rfl, by decide⟩, fun i => ⟨fun h => absurd h (by revert i; decide), nofun⟩, nofun, by decide,
    by decide, by decide, by decide, by decide, by decide, by decide, by decide⟩

theorem live_channel_consistent : liveChannel.Consistent := by
  refine ⟨by decide, by decide, nofun, ?_, ?_, by decide, by decide, by decide, by decide, by decide, by decide, by decide, by decide⟩
  · intro i
    constructor
    · intro h
      have : i = 1 := by revert i; decide
      exact ⟨9, by rw [this]; rfl⟩
    · rintro ⟨f, h⟩
      cases h
      rfl
  · intro i f h
    cases h
    rfl

theorem ready_channel (c : Fin 12) : ready.channel c = .reset := Tab.get_replicate _ _
theorem ready_stream (k : Fin 256) : ready.streamRec k = .reset := Tab.get_replicate _ _

theorem running_channel_of_ne {c : Fin 12} (h : c ≠ 0) : running.channel c = .reset :=
  (Tab.get_upd_of_ne _ _ h).trans (ready_channel c)
theorem running_stream_of_ne {k : Fin 256} (h : k ≠ 5) : running.streamRec k = .reset :=
  (Tab.get_upd_of_ne _ _ h).trans (ready_stream k)
theorem running_channel : running.channel 0 = liveChannel := Tab.get_upd_self _ _ _
theorem running_stream : running.streamRec 5 = routed := Tab.get_upd_self _ _ _

theorem running_channels_consistent : running.ChannelsConsistent := by
  refine ⟨fun c => ?_, fun k c => ?_, fun k => ?_⟩
  · by_cases h : c = 0
    · rw [h, running_channel]; exact live_channel_consistent
    · rw [running_channel_of_ne h]; exact reset_channel_consistent
  · by_cases hk : k = 5
    · by_cases hc : c = 0
      · rw [hk, hc, running_stream, running_channel]; exact ⟨fun _ => rfl, fun _ => rfl⟩
      · rw [hk, running_stream, running_channel_of_ne hc]
        exact ⟨fun h => absurd (Option.some.inj h).symm hc, nofun⟩
    · by_cases hc : c = 0
      · rw [hc, running_stream_of_ne hk, running_channel]
        exact ⟨nofun, fun h => absurd (Option.some.inj h).symm hk⟩
      · rw [running_stream_of_ne hk, running_channel_of_ne hc]; exact ⟨nofun, nofun⟩
  · by_cases hk : k = 5
    · rw [hk, running_stream]; exact nofun
    · rw [running_stream_of_ne hk]; exact fun _ => rfl

theorem ready_channels_consistent : ready.ChannelsConsistent := by
  refine ⟨fun c => ?_, fun k c => ?_, fun k => ?_⟩
  · rw [ready_channel]; exact reset_channel_consistent
  · rw [ready_stream, ready_channel]; exact ⟨nofun, nofun⟩
  · rw [ready_stream]; exact fun _ => rfl

/-- The hub held in reset by the reset line. -/
def heldHub : State := .resetWith .line none true 5 (Vector.replicate 8 true) .erased 0 []

theorem held_hub_at_reset : heldHub.AtReset .line := by
  constructor
  case doors => decide +kernel
  case triggers => decide +kernel
  case pins => decide +kernel
  case chosen => decide +kernel
  case trunks => intro t; cases t <;> rfl
  case virtualLines => rfl
  case slots => decide +kernel
  case queue => rfl
  case side => rfl
  case silence => exact ⟨rfl, rfl, rfl⟩
  case counts => exact ⟨rfl, rfl⟩
  case cause => rfl
  case number => rfl
  case image => exact ⟨rfl, rfl⟩
  case loader => exact ⟨rfl, rfl⟩
  all_goals
    intro i
    exact Tab.get_replicate _ _

theorem ready_triggers_follow : ready.TriggersFollowVector := by unfold State.TriggersFollowVector; decide +kernel
theorem ready_alerts_follow : ready.AlertsFollowMembers := by unfold State.AlertsFollowMembers; decide +kernel
theorem ready_screens_consistent : ready.ScreensConsistent := by unfold State.ScreensConsistent; decide +kernel
theorem ready_memory_canonical : ready.MemoryCanonical := by unfold State.MemoryCanonical; decide +kernel

/-! ## Witnesses: for each obligation, states and operands that meet its hypotheses, clause by clause -/

theorem witness_EmptyQueueTakesDueEventOrTime :
    (ready.pending = [] ∧ ready.held = false ∧ ready.due = [.outputFrameStart 0, .outputFrameStart 1]) ∧
    (let s := { ready with screens := ready.screens.map (fun x : Screen => ({ x with frameTimer := 1 } : Screen)) }
    s.pending = [] ∧ s.held = false ∧ s.due = []) ∧ (heldHub.pending = [] ∧ heldHub.held = true) := by decide +kernel

theorem witness_ResetLineHoldsAndReleases : ready.held = false ∧ heldHub.held = true ∧ heldHub.AtReset .line :=
  ⟨rfl, rfl, held_hub_at_reset⟩

theorem witness_HeldHubStandsStill :
    heldHub.held = true ∧ (∀ straps, Instr.noticeMove ≠ .powerOn straps) ∧ (∀ straps, Instr.noticeMove ≠ .resetLineReleased straps) ∧
      ∀ d l, Instr.noticeMove ≠ .doorLineChange d l := ⟨rfl, nofun, nofun, nofun⟩

/-- A broadcast RESET-HUB whose copy stands in TB's management queue. -/
def broadcastReset : State :=
  { ready with
    orders := { ready.orders with slots := #v[.pending { orderOf 20 [] with broadcast := true }, .free] }
    trunks := ready.trunks.upd .tb (fun p => { p with out := { p.out with mgmt := [⟨.order 0 20 7 [], some 0⟩] } }) }

theorem witness_ResetHubResetsAndKeepsTag :
    (let s := ordered 20 []
    s.held = false ∧ s.loader.phase = .ready ∧ s.orders.firstPending = some (0, orderOf 20 []) ∧ (orderOf 20 []).broadcast = false) ∧
    (let o := { orderOf 20 [] with broadcast := true }
    broadcastReset.held = false ∧ broadcastReset.loader.phase = .ready ∧ broadcastReset.orders.firstPending = some (0, o) ∧
      o.broadcast = true ∧ (∃ e ∈ (broadcastReset.out o.arrival.other).mgmt, e.copyOf = some o.seq) ∧
      ((after (.transmissionStart .tb) (trunkUpOn .tb broadcastReset)).out o.arrival.other).sending =
        .sending (.order 0 20 7 []) (some o.seq)) := by decide +kernel

theorem witness_WirePacketsRoundTrip :
    (Packet.frameOpen 255 65535 .blocked 15).WellFormed ∧ (Packet.line 0 0 719 (List.replicate 2560 0)).WellFormed ∧
    (Packet.frameClose 1 65535 .cut).WellFormed ∧ (Packet.order 0 1 2 (List.replicate 192 0)).WellFormed ∧
    (Packet.notice 0 1 2 3 (List.replicate 192 0)).WellFormed := by
  exact ⟨⟨by decide, by decide⟩, ⟨by decide, by decide, List.length_replicate⟩, (by decide : 65535 < 65536),
    Nat.le_of_eq List.length_replicate, Nat.le_of_eq List.length_replicate⟩

theorem between_packets_of {s : State} {p : Port} (h : s.held = false ∧ s.receives p = true ∧ (s.rx p).arrival = none ∧
    (s.rx p).ignoring = false ∧ (s.rx p).unformed = none) : s.BetweenPackets p :=
  ⟨h.1, h.2.1, h.2.2.1, h.2.2.2.1, h.2.2.2.2⟩

theorem in_line_of {s : State} {p : Port} {a : LineArrival} (h : s.held = false ∧ s.receives p = true ∧ (s.rx p).arrival = some a ∧
    (s.rx p).ignoring = false ∧ (s.rx p).unformed = none) : s.InLine p a :=
  ⟨h.1, h.2.1, h.2.2.1, h.2.2.2.1, h.2.2.2.2⟩

theorem held_at_camera {i : Fin 8} {k : Fin 256} {frame line : Nat} {bytes : List Byte}
    (h : hasLineHeader bytes = true ∧ wordAt bytes 2 = frame ∧ wordAt bytes 4 = line) : HoldsLine (.cam i) k frame line bytes :=
  ⟨h.1, h.2.1, h.2.2, nofun⟩

theorem held_at_trunk {u : Trunk} {k : Fin 256} {frame line : Nat} {bytes : List Byte}
    (h : hasLineHeader bytes = true ∧ wordAt bytes 2 = frame ∧ wordAt bytes 4 = line ∧ (bytes.getD 1 0).toFin = k) :
    HoldsLine (.trunk u) k frame line bytes :=
  ⟨h.1, h.2.1, h.2.2.1, fun _ _ => h.2.2.2⟩

theorem running_between_packets : running.BetweenPackets (.cam 0) ∧ running.BetweenPackets (.trunk .ta) :=
  ⟨between_packets_of (by decide +kernel), between_packets_of (by decide +kernel)⟩

theorem running_memory_canonical : running.MemoryCanonical := by
  unfold State.MemoryCanonical
  refine ⟨rfl, fun c i => ?_⟩
  by_cases h : c = 0
  · subst h; revert i; decide +kernel
  · rw [running_channel_of_ne h]; revert i; decide

/-- Line 3 of the open frame of stream 5, cut through to TA. -/
def arriving : LineArrival := ⟨5, 9, 3, .belongs 1, ⟨.cutThrough, .offRoute⟩⟩

/-- The line arrives at CP0 and TA is CUTTING it. -/
def cuttingThrough : State :=
  (running.updRx (.cam 0) (fun x => { x with arrival := some arriving })).updOut .ta (fun o => { o with sending := .cutting (.cam 0) })

theorem cutting_in_line : cuttingThrough.InLine (.cam 0) arriving := in_line_of (by decide +kernel)

theorem cutting_has_arrival : cuttingThrough.CuttingHasArrival := by
  intro u p hu
  cases u
  · cases hu
    exact ⟨_, rfl, rfl⟩
  · cases hu

/-- The same while CP0 has frame 9 open. -/
def recording : State := cuttingThrough.updCam 0 (fun c => { c with openFrame := some ⟨9, [0, 1]⟩ })

theorem recording_cutting_has_arrival : recording.CuttingHasArrival := by
  intro u p hu
  cases u
  · cases hu
    exact ⟨arriving, by decide +kernel, rfl⟩
  · cases hu

/-- The line arrives at TA and no output is CUTTING it. -/
def lineAtTrunk : State := running.updRx (.trunk .ta) (fun x => { x with arrival := some arriving })

theorem trunk_in_line : lineAtTrunk.InLine (.trunk .ta) arriving := in_line_of (by decide +kernel)

theorem trunk_cutting_has_arrival : lineAtTrunk.CuttingHasArrival := by
  intro u p hu
  cases u <;> cases hu

/-- The running hub with CP0 sending stream 5, its frame 9 open. -/
def onStream5 : State := running.updCam 0 (fun c => { c with stream := 5, openFrame := some ⟨9, [0, 1]⟩ })

/-- A poisoned or failed LINE of the open frame, of 10 bytes. -/
def shortLine : List Byte := [2, 0, 0, 9, 0, 3, 7, 7, 7, 7]

/-- The same of stream 5, and a line 720. -/
def shortLine5 : List Byte := withCheck [2, 5, 0, 9, 0, 3, 7]
def highLine : List Byte := [2, 5, 0, 9, 2, 208]

/-- TA after an over-long packet. -/
def ignoringAtTrunk : State := running.setIgnoring (.trunk .ta) true

theorem witness_FaultyPacketsAreCounted :
    (ignoringAtTrunk.held = false ∧ ignoringAtTrunk.receives (.trunk .ta) = true ∧ (ignoringAtTrunk.rx (.trunk .ta)).arrival = none ∧
      (ignoringAtTrunk.rx (.trunk .ta)).unformed = none ∧ (ignoringAtTrunk.rx (.trunk .ta)).ignoring = true) ∧
    (cuttingThrough.InLine (.cam 0) arriving ∧ cuttingThrough.CuttingHasArrival ∧ cuttingThrough.MemoryCanonical ∧
      HoldsLine (.cam 0) arriving.stream arriving.frame arriving.line shortLine) ∧
    (lineAtTrunk.InLine (.trunk .ta) arriving ∧ lineAtTrunk.CuttingHasArrival ∧ lineAtTrunk.MemoryCanonical ∧
      HoldsLine (.trunk .ta) arriving.stream arriving.frame arriving.line shortLine5) ∧
    ¬HoldsLine (.trunk .ta) arriving.stream arriving.frame arriving.line [2, 5, 0, 9, 0, 4] ∧
    (running.held = false ∧ running.receives (.cam 0) = true ∧ (running.rx (.cam 0)).unformed = none ∧
      (running.rx (.cam 0)).ignoring = false ∧ (running.rx (.cam 0)).arrival = none ∧
      (after (.lineHeader (.cam 0) 0 9 3) running).held = false) ∧
    ([1, 2] : List Byte).length < 3 ∧
    (let b : List Byte := [0, 0, 1]
    3 ≤ b.length ∧ b.length ≤ 2568 ∧ hasLineHeader b = false ∧ passesCheck b = false) ∧
    (let b := withCheck [7]
    3 ≤ b.length ∧ b.length ≤ 2568 ∧ hasLineHeader b = false ∧ passesCheck b = true ∧ readPacket (isTrunkPort (.trunk .ta)) b = none) ∧
    (shortLine.length ≤ 2568 ∧ hasLineHeader shortLine = true ∧ wordAt shortLine 4 ≤ 719 ∧ passesCheck shortLine = false) ∧
    (highLine.length ≤ 2568 ∧ hasLineHeader highLine = true ∧ 719 < wordAt highLine 4) ∧
    (passesCheck shortLine5 = true ∧ shortLine5.length ≠ 2568 ∧ arriving.line ≤ 719) :=
  ⟨by decide +kernel, ⟨cutting_in_line, cutting_has_arrival, running_memory_canonical, held_at_camera (by decide)⟩,
    ⟨trunk_in_line, trunk_cutting_has_arrival, running_memory_canonical, held_at_trunk (by decide +kernel)⟩,
    fun h => absurd h.2.2.1 (by decide), by decide +kernel⟩

/-- R1: a packet that a START opens after an over-long one, and that is over-long too, is a second framing fault. -/
theorem test_second_overlong_packet_is_counted :
    let c : Instr := .framingFault (.trunk .ta) .overLong (List.replicate 2569 9)
    (after c (after c running)).rx (.trunk .ta) = { running.rx (.trunk .ta) with
      ignoring := true, counters := { (running.rx (.trunk .ta)).counters with framing := 2 } } := by decide +kernel

/-- CP0 sends stream 5, which is cut through to TA. -/
def cutThrough5 : State :=
  (running.updCam 0 (fun c => { c with stream := 5 })).updStream 5 (fun r => { r with entry := { r.entry with cutThrough := ⟨true, false⟩ } })

/-- R9: a LINE that FRAMING_FAULT alone brings hands its header on and ends FAILED. -/
theorem test_line_cut_without_a_header_command :
    let t := after (.framingFault (.cam 0) .idleOrInvalid shortLine) cutThrough5
    (t.out .ta).lastTx.map Transmission.poisoned = some true := by decide +kernel

/-- R10: a LINE whose header comes while CP0 is disabled is not formed when its end comes after CP0 is enabled; the same
bytes once more are a packet with a bad check. -/
theorem test_packet_in_arrival_at_enabling :
    let off := running.updCam 0 (fun c => { c with enable := false })
    let on := (after (.lineHeader (.cam 0) 0 9 3) off).updCam 0 (fun c => { c with enable := true })
    let t := after (.packetEnd (.cam 0) shortLine) on
    (t.rx (.cam 0)).counters = (running.rx (.cam 0)).counters ∧
      ((after (.packetEnd (.cam 0) shortLine) t).rx (.cam 0)).counters.check = 1 := by decide +kernel

/-- A disabled port whose link is UP, while line 3 of a frame 9 comes in; and the same port enabled before the end of that line. -/
def unforming : State :=
  running.updCam 0 (fun c => { c with enable := false, rx := { c.rx with unformed := some ⟨0, 9, 3⟩ } })
def enabledMeanwhile : State := unforming.updCam 0 (fun c => { c with enable := true })

/-- Line 3 at CP0, discarded for TA at its header, and its stream closed since. -/
def arrivingCut : LineArrival := { arriving with decisions := ⟨.discardedCut, .offRoute⟩ }
def closedMeanwhile : State :=
  (running.updRx (.cam 0) (fun x => { x with arrival := some arrivingCut })).updFlow 5 (fun f => { f with isOpen := false })

theorem witness_LineHeaderIsDecided :
    running.BetweenPackets (.cam 0) ∧
    (lineAtTrunk.InLine (.trunk .ta) arriving ∧ lineAtTrunk.CuttingHasArrival ∧ lineAtTrunk.MemoryCanonical) ∧
    (cuttingThrough.InLine (.cam 0) arriving ∧ cuttingThrough.CuttingHasArrival ∧ cuttingThrough.MemoryCanonical ∧
      cuttingThrough.StillOpen arriving) ∧
    (recording.InLine (.cam 0) arriving ∧ recording.CuttingHasArrival) ∧
    HoldsLine (.cam 0) 0 9 3 shortLine ∧ ¬HoldsLine (.cam 0) 0 9 3 highLine ∧ (List.replicate 2560 (7 : Byte)).length = 2560 ∧
    (719 < (720 : BitVec 16).toNat ∧ (719 : BitVec 16).toNat ≤ 719) ∧
    (let r := running.streamRec 5
    r.entry.valid = true ∧ r.entry.origin = .cam 0 ∧ r.flow.isOpen = true ∧ r.flow.frame = (9 : BitVec 16).toNat ∧
      r.entry.sendTo.get .ta = true ∧ running.trunkUp .ta = true ∧ (running.streamRec 6).entry.valid = false) ∧
    (arriving.frame < 65536 ∧ arriving.line ≤ 719 ∧ (Tab.get cuttingThrough.cams 0).openFrame = none ∧
      (Tab.get recording.cams 0).openFrame = some ⟨9, [0, 1]⟩ ∧ arriving.line ∉ [0, 1]) ∧
    (unforming.held = false ∧ unforming.receives (.cam 0) = false ∧ enabledMeanwhile.held = false ∧
      enabledMeanwhile.receives (.cam 0) = true ∧ (enabledMeanwhile.rx (.cam 0)).unformed = some ⟨0, 9, 3⟩) ∧
    (closedMeanwhile.InLine (.cam 0) arrivingCut ∧ closedMeanwhile.CuttingHasArrival ∧ (∃ n, arrivingCut.fate = .belongs n) ∧
      ¬closedMeanwhile.StillOpen arrivingCut ∧ arrivingCut.decisions.get .ta = .discardedCut) :=
  ⟨running_between_packets.1, ⟨trunk_in_line, trunk_cutting_has_arrival, running_memory_canonical⟩,
    ⟨cutting_in_line, cutting_has_arrival, running_memory_canonical, by unfold State.StillOpen; decide +kernel⟩,
    ⟨in_line_of (by decide +kernel), recording_cutting_has_arrival⟩, held_at_camera (by decide),
    fun h => absurd h.2.2.1 (by decide), List.length_replicate, by decide +kernel, by decide +kernel, by decide +kernel,
    by decide +kernel, in_line_of (by decide +kernel), (fun u p hu => by cases u <;> cases hu), ⟨1, rfl⟩,
    fun h => absurd h.1 (by decide +kernel), rfl⟩

/-- The running hub with number 3. -/
def numbered : State := running.updHub (fun h => { h with number := 3 })

theorem numbered_between_packets (u : Trunk) (h : u = .ta) : numbered.BetweenPackets (.trunk u) := by
  subst h; exact between_packets_of (by decide +kernel)

theorem witness_OrderForThisHubIsConsumed :
    numbered.BetweenPackets (.trunk .ta) ∧ (List.replicate 192 (0 : Byte)).length ≤ 192 ∧ (3 : Byte).toNat = numbered.orders.hub.number ∧
      (3 : Byte).toNat ≠ 0 ∧ numbered.orders.freeSlot = some 0 ∧
      ({ numbered.orders with slots := #v[.saving (orderOf 19 []), .pending (orderOf 1 [])] } : OrderUnit).freeSlot = none :=
  ⟨numbered_between_packets _ rfl, by decide +kernel⟩

theorem witness_ManagementPacketsTravel :
    numbered.BetweenPackets (.trunk .ta) ∧ running.BetweenPackets (.trunk .ta) ∧ (Packet.order 2 1 0 []).WellFormed ∧
      (Packet.notice 2 1 0 0 []).WellFormed ∧ running.orders.hub.number = 0 ∧ (2 : Byte).toNat < numbered.orders.hub.number ∧
      numbered.orders.hub.number < (4 : Byte).toNat ∧ numbered.trunkUp .ta = true ∧ numbered.trunkUp .tb = false ∧
      (numbered.out .ta).mgmt.length < 8 :=
  ⟨numbered_between_packets _ rfl, running_between_packets.2, Nat.zero_le _, Nat.zero_le _, by decide +kernel⟩

theorem witness_FrameOpenArrivalIsRouted :
    running.BetweenPackets (.cam 0) ∧ running.BetweenPackets (.trunk .ta) ∧
    (let r := { running with streams := Tab.upd running.streams 5 (fun r => { r with flow := { r.flow with isOpen := false } }) }
    (Tab.get r.cams 0).stream = 0 ∧ (r.streamRec 5).entry.valid = true ∧ (r.streamRec 5).entry.origin = .cam 0 ∧
      (r.streamRec 5).entry.origin ≠ .trunk .ta ∧ (r.streamRec 0).entry.valid = false ∧ (r.streamRec 5).flow.isOpen = false ∧
      (r.streamRec 5).entry.sendTo.get .ta = true ∧ r.trunkUp .ta = true ∧ (r.out .ta).video.length < 24 ∧
      (∀ q ∈ (r.out .ta).waiting, q.stream ≠ some 5) ∧ (r.streamRec 5).entry.channel = some 0 ∧
      (r.channel 0).stream.isSome = true) ∧
    ((onStream5.streamRec 5).flow.isOpen = true ∧ (onStream5.out .ta).video.length < 23 ∧
      (onStream5.channel 0).intake = .filling 1 9 ∧ ((onStream5.channel 0).slot 0).state ≠ .free) ∧
    (let c := { liveChannel with intake := .none, slots := liveChannel.slots.map (fun (sl : Slot) => ({ sl with state := .stored } : Slot)) }
    ∀ i, ¬((c.slot i).state = .free ∨ ∃ f, c.intake = .filling i f)) :=
  ⟨running_between_packets.1, running_between_packets.2, by decide +kernel, by decide +kernel, fun i h => by
    obtain h | ⟨f, h⟩ := h
    · revert i; decide +kernel
    · cases h⟩

/-- A full line 3 of frame 9 of stream 5. -/
def fullLine : List Byte := [2, 5, 0, 9, 0, 3] ++ List.replicate 2562 7

/-- R26, R34: its end counts one stray, and the queue cut all the same. -/
theorem test_queue_cut_of_a_closed_stream :
    let t := after (.poisonedArrival (.cam 0) fullLine) closedMeanwhile
    (t.trunks.get .ta).counters.queueCuts = 1 ∧ (t.rx (.cam 0)).counters.stray = 1 := by decide +kernel

theorem witness_PoisonedArrivalIsCounted :
    running.BetweenPackets (.cam 0) ∧ running.MemoryCanonical ∧
    (cuttingThrough.InLine (.cam 0) arriving ∧ cuttingThrough.CuttingHasArrival ∧ cuttingThrough.MemoryCanonical ∧
      HoldsLine (.cam 0) arriving.stream arriving.frame arriving.line shortLine) ∧
    (lineAtTrunk.InLine (.trunk .ta) arriving ∧ lineAtTrunk.CuttingHasArrival ∧
      HoldsLine (.trunk .ta) arriving.stream arriving.frame arriving.line fullLine) ∧
    hasLineHeader [1, 2, 3] = false ∧ (hasLineHeader highLine = true ∧ 719 < wordAt highLine 4) ∧
    (hasLineHeader shortLine = true ∧ wordAt shortLine 4 ≤ 719 ∧ shortLine.length < 2568) ∧
    (hasLineHeader fullLine = true ∧ wordAt fullLine 4 ≤ 719 ∧ fullLine.length = 2568 ∧ wordAt fullLine 2 = 9) ∧
    (running.streamRec (running.arrivalStream (.cam 0) 5)).entry.valid = false ∧
    (let s := running.updCam 0 (fun c => { c with stream := 5 })
    (s.streamRec (s.arrivalStream (.cam 0) 5)).entry.valid = true ∧ (s.streamRec 5).entry.origin = .cam 0 ∧
      (s.streamRec 5).flow.isOpen = true ∧ (s.streamRec 5).flow.frame = 9 ∧ (s.streamRec 5).entry.channel = some 0 ∧
      (s.channel 0).intake = .filling 1 9 ∧ 3 ∉ ((s.channel 0).slot 1).good) :=
  ⟨running_between_packets.1, running_memory_canonical,
    ⟨cutting_in_line, cutting_has_arrival, running_memory_canonical, held_at_camera (by decide)⟩,
    ⟨trunk_in_line, trunk_cutting_has_arrival, held_at_trunk (by decide +kernel)⟩, by decide +kernel⟩

theorem witness_LinksComeUp :
    (ready.held = false ∧ (ready.rx (.cam 7)).link = .down ∧ (ready.rx (.cam 7)).hold = none) ∧
      (running.held = false ∧ (running.rx (.trunk .ta)).link = .up) ∧
      ((ready.updRx (.cam 7) (fun x => { x with hold := some 2 })).rx (.cam 7)).hold.isSome = true := by decide +kernel

/-- CP0 of the running hub, its frame 9 open, in a learning that one more frame without a judgement ends. -/
def lastChance : State := onStream5.updLens 0 (fun l => { l with state := .learning, nonJudged := 254 })

/-- Line 3 at CP0, stored for TA. -/
def arrivingStored : LineArrival := { arriving with decisions := ⟨.stored, .offRoute⟩ }
def storedAtCamera : State := running.updRx (.cam 0) (fun x => { x with arrival := some arrivingStored })

theorem stored_still_open : storedAtCamera.StillOpen arrivingStored := by unfold State.StillOpen; decide +kernel

/-- What a lost port meets: an open stream on its route and of its origin, its channel, and the LINE in arrival. -/
theorem lost_port_meets :
    running.ChannelsConsistent ∧ (running.channel 0).stream = some 5 ∧ (running.streamRec 5).entry.origin = .cam 0 ∧
      ((running.streamRec 5).entry.valid = true ∧ (running.streamRec 5).flow.isOpen = true ∧
        (running.streamRec 5).entry.sendTo.get .ta = true ∧ (running.streamRec 6).entry.valid = false ∧
        (running.channel 1).stream = none ∧ (storedAtCamera.rx (.cam 0)).arrival = some arrivingStored) ∧
      storedAtCamera.StillOpen arrivingStored ∧ arrivingStored.decisions.get .ta = .stored ∧ cuttingThrough.CuttingHasArrival ∧
      storedAtCamera.arrivesAt (.cam 0) 5 ∧ ¬storedAtCamera.arrivesAt (.cam 0) 6 :=
  ⟨running_channels_consistent, by decide +kernel, by decide +kernel, by decide +kernel, stored_still_open, rfl, cutting_has_arrival,
    ⟨arrivingStored, by decide +kernel, rfl⟩, fun ⟨a, h, e⟩ => by
      have : a = arrivingStored := (Option.some.inj ((by decide +kernel : (storedAtCamera.rx (.cam 0)).arrival = some arrivingStored).symm.trans h)).symm
      subst this; revert e; decide⟩

/-- R37, R40: a trunk port that is lost sets the cut flag of the stream on its route, and a camera port that is lost that of its stored
line. -/
theorem test_lost_port_sets_cut_flags :
    let cut : State → Bool := fun t => (t.streamRec 5).flow.cut.get .ta
    cut (after (.linkDown (.trunk .ta) none) running) = true ∧ cut (after .restartPort (withOrder running 4 [8])) = true ∧
      cut (after (.linkDown (.cam 0) none) storedAtCamera) = true ∧ cut (after (.linkDown (.cam 0) none) running) = false := by
  decide +kernel

theorem witness_LinkDownLosesThePort :
    running.held = false ∧ (running.rx (.cam 0)).link = .up ∧ (running.rx (.trunk .ta)).link = .up ∧ running.counts (.cam 0) = true ∧
      (running.streamRec 5).entry.valid = true ∧ (running.streamRec 5).entry.origin = .cam 0 ∧ (ready.rx (.cam 0)).link = .down ∧
      (running.rx (.cam 0)).unformed = none ∧ (running.rx (.cam 0)).ignoring = false ∧ ¬(hasLineHeader [] = true) ∧
      (hasLineHeader highLine = true ∧ 719 < wordAt highLine 4) ∧ (Tab.get running.cams 0).openFrame = none ∧
      ((lastChance.rx (.cam 0)).link = .up ∧ (Tab.get lastChance.cams 0).openFrame.isSome ∧ (lastChance.lens 0).state = .learning ∧
        254 ≤ (lastChance.lens 0).nonJudged) := by decide +kernel

/-- R16, R76: the LINK notice of a link that goes DOWN, before the end of the learning that its frame ends (entry 10); no notice of a link
that is DOWN. -/
theorem test_link_down_offers_its_notices :
    (after (.linkDown (.cam 0) none) lastChance).orders.queue = [.link (.cam 0) .up .down, .learnEnd 0 .tooDark] ∧
      (after (.linkDown (.cam 1) none) lastChance).orders.queue = [] := by decide +kernel

theorem witness_RestartPortHoldsTheLinkDown :
    ((ordered 4 [7]).Executes 0 (orderOf 4 [7]) 4 [7] ∧ (7 : Byte).toNat = (7 : Fin 8).val) ∧
      (ordered 4 [8]).Executes 0 (orderOf 4 [8]) 4 [8] ∧ (ordered 4 [9]).Executes 0 (orderOf 4 [9]) 4 [9] ∧
      ((ordered 4 [10]).Executes 0 (orderOf 4 [10]) 4 [10] ∧ 10 ≤ (10 : Byte).toNat) ∧
      ((withOrder cuttingThrough 4 [0]).Executes 0 (orderOf 4 [0]) 4 [0] ∧
        ((withOrder cuttingThrough 4 [0]).rx (.cam 0)).arrival = some arriving ∧ (lastChance.lens 0).state = .learning) :=
  ⟨⟨ordered_executes _ _, rfl⟩, ordered_executes _ _, ordered_executes _ _, ⟨ordered_executes _ _, by decide⟩,
    ⟨rfl, rfl, rfl, rfl, rfl, rfl⟩, by decide +kernel⟩

/-- R15, R16, R98: the notices of a RESTART-PORT of a port that is UP and learning, and of one that is DOWN. -/
theorem test_restart_port_offers_its_notices :
    (after .restartPort (withOrder lastChance 4 [0])).orders.queue =
        [.link (.cam 0) .up .down, .learnEnd 0 .portRestart, .reply 7 4 (.done false)] ∧
      (after .restartPort (ordered 4 [9])).orders.queue = [.reply 7 4 (.done false)] := by decide +kernel

/-- CP2 enabled on stream 17, and a SET-PORT of CP3 waiting. -/
def clashing : State := withOrder (ready.updCam 2 (fun c => { c with enable := true, stream := 17 })) 3 [3, 1, 17, 3]

theorem witness_SetPortStoresFields :
    (clashing.Executes 0 (orderOf 3 [3, 1, 17, 3]) 3 [BitVec.ofNat 8 (3 : Fin 8).val, if true then 1 else 0, BitVec.ofFin (17 : Fin 256),
      BitVec.ofNat 8 (3 : Fin 4).val] ∧ ∃ j, j ≠ 3 ∧ (Tab.get clashing.cams j).enable = true ∧ (Tab.get clashing.cams j).stream = 17) ∧
    ((ordered 3 [7, 1, 255, 1]).Executes 0 (orderOf 3 [7, 1, 255, 1]) 3 [BitVec.ofNat 8 (7 : Fin 8).val, if true then 1 else 0,
      BitVec.ofFin (255 : Fin 256), BitVec.ofNat 8 (1 : Fin 4).val] ∧
      ∀ j, j ≠ 7 → (Tab.get (ordered 3 [7, 1, 255, 1]).cams j).enable = true → (Tab.get (ordered 3 [7, 1, 255, 1]).cams j).stream ≠ 255) ∧
    ((ordered 3 [8, 2, 0, 4]).Executes 0 (orderOf 3 [8, 2, 0, 4]) 3 [8, 2, 0, 4] ∧ 8 ≤ (8 : Byte).toNat) ∧
    ((withOrder running 3 [0, 0, 0, 0]).Executes 0 (orderOf 3 [0, 0, 0, 0]) 3 [0, 0, 0, 0] ∧
      (Tab.get running.cams 0).enable = true ∧ running.ChannelsConsistent ∧ (running.channel 0).stream = some 5 ∧
      (running.streamRec 5).entry.valid = true ∧ (running.streamRec 5).entry.origin = .cam 0 ∧
      (running.streamRec 5).flow.isOpen = true) ∧
    ((withOrder cuttingThrough 3 [0, 0, 0, 0]).Executes 0 (orderOf 3 [0, 0, 0, 0]) 3 [0, 0, 0, 0] ∧
      (Tab.get cuttingThrough.cams 0).enable = true ∧ (Tab.get cuttingThrough.cams 0).rx.arrival = some arriving) ∧
    ((lastChance.lens 0).state = .learning ∧ (onStream5.lens 0).state = .unlearned ∧ running.AlertsFollowMembers) :=
  ⟨⟨⟨rfl, rfl, rfl, rfl, rfl, rfl⟩, by decide +kernel⟩, ⟨ordered_executes _ _, by decide +kernel⟩, ⟨ordered_executes _ _, by decide⟩,
    ⟨⟨rfl, rfl, rfl, rfl, rfl, rfl⟩, by decide +kernel, running_channels_consistent, by decide +kernel⟩,
    ⟨⟨rfl, rfl, rfl, rfl, rfl, rfl⟩, by decide +kernel⟩, by decide +kernel, by decide +kernel,
    by unfold State.AlertsFollowMembers; decide +kernel⟩

/-- CP0 of the running hub under a lens that assesses, its stated grade HAZE. -/
def hazy : State := onStream5.updLens 0 (fun l => { l with state := .assessing, stated := .haze })

/-- R97, R98: the notices of a changed profile and of a disabling, and of both at once. -/
theorem test_set_port_offers_its_notices :
    let queue : List Byte → State → List Notice := fun ps s => (after .setPort (withOrder s 3 ps)).orders.queue
    let reply : Notice := .reply 7 3 (.done false)
    queue [0, 1, 5, 2] hazy = [.grade 0 .haze .unjudged 0, reply] ∧ queue [0, 0, 5, 0] hazy = [reply] ∧
      queue [0, 1, 5, 2] lastChance = [.learnEnd 0 .profileChanged, reply] ∧
      queue [0, 0, 5, 2] lastChance = [.learnEnd 0 .portRestart, reply] := by decide +kernel

/-- The running hub with TA's output holding these. -/
def outputHolding (o : Output) : State := running.updOut .ta (fun _ => o)

def opening (k : Fin 256) : Packet := .frameOpen k 1 .clean 2
def closing (k : Fin 256) : Packet := .frameClose k 1 .whole

theorem witness_TransmissionsStartAndEnd :
    let a := outputHolding { Output.reset with mgmt := [⟨opening 1, none⟩] }
    let b := outputHolding { Output.reset with video := List.replicate 24 (opening 1), waiting := [closing 2] }
    let c := outputHolding { Output.reset with sending := .sending (closing 2) none }
    a.held = false ∧ a.trunkUp .ta = true ∧ (a.out .ta).sending = .idle ∧ (a.out .ta).mgmt ≠ [] ∧
    b.trunkUp .ta = true ∧ (b.out .ta).sending = .idle ∧ (b.out .ta).mgmt = [] ∧ (b.out .ta).video.length = 24 ∧
    c.trunkUp .ta = true ∧ (c.out .ta).sending = .sending (closing 2) none ∧ c.held = false ∧
    (c.rx (.trunk .ta)).hold = none ∧ heldHub.held = true ∧ (cuttingThrough.out .ta).sending = .cutting (.cam 0) := by decide +kernel

theorem witness_OutputTakesPicturePackets :
    (opening 5).stream = some 5 ∧ running.trunkUp .tb = false ∧
    (let full := outputHolding { Output.reset with video := List.replicate 24 (opening 1), waiting := [opening 5, closing 2] }
    full.trunkUp .ta = true ∧ (full.streamRec 5).flow.cut.get .ta = false ∧ 24 ≤ (full.out .ta).video.length ∧
      (full.out .ta).waiting = [] ++ opening 5 :: [closing 2] ∧ (∀ x ∈ ([] : List Packet) ++ [closing 2], x.stream ≠ some 5) ∧
      (opening 5).isFrameOpen = true ∧ (closing 5).isFrameClose = true ∧ ∀ w ∈ (full.out .ta).waiting, w.stream ≠ some 7) ∧
    (let empty := outputHolding Output.reset
    empty.trunkUp .ta = true ∧ (empty.out .ta).video.length < 24 ∧ ∀ w ∈ (empty.out .ta).waiting, w.stream ≠ some 5) ∧
    ((running.setCut .ta 5).streamRec 5).flow.cut.get .ta = true := by decide +kernel

/-- TA's video queue is full and a FRAME-OPEN of stream 5 waits behind it. -/
def fullOutput : State := outputHolding { Output.reset with video := List.replicate 24 (opening 1), waiting := [opening 5] }

theorem witness_OriginLossClosesStreams :
    running.ChannelsConsistent ∧ fullOutput.ChannelsConsistent ∧
    ((running.streamRec 5).entry.valid = true ∧ (running.streamRec 5).entry.origin = .cam 0 ∧
      (running.channel 0).stream = some 5 ∧ (running.streamRec 5).flow.isOpen = true ∧ (running.streamRec 6).entry.valid = false ∧
      (running.channel 1).stream = none ∧ (running.streamRec 5).entry.sendTo.get .ta = true ∧ running.trunkUp .ta = true ∧
      (∀ w ∈ (running.out .ta).waiting, w.stream ≠ some 5) ∧ running.trunkUp .tb = false ∧
      (∃ w ∈ (fullOutput.out .ta).waiting, w.stream = some 5) ∧
      ∀ w ∈ (fullOutput.out .ta).waiting, w.stream = some 5 → w.isFrameOpen = true) :=
  ⟨running_channels_consistent, running_channels_consistent, by decide +kernel⟩

def loadStream5 : List Byte := [6, 1, 0, 1, 0, 0, 0, 0]

/-- Stream 5 from CP0 to IC1 alone. -/
def reroute5 : List Byte := [5, 1, 0, 0, 0, 1, 0, 0]

theorem witness_LoadStreamRoutesAndBinds :
    ((withOrder running 5 loadStream5).Executes 0 (orderOf 5 loadStream5) 5 loadStream5 ∧ loadStream5.length = 8 ∧
      (withOrder running 5 loadStream5).ChannelsConsistent ∧
      (readLoadStream loadStream5).map (fun x => (x.1, x.2.channel)) = some (6, some 0) ∧ (running.streamRec 5).entry.channel = some 0) ∧
    ((ordered 5 loadStream5).Executes 0 (orderOf 5 loadStream5) 5 loadStream5 ∧ (ordered 5 loadStream5).ChannelsConsistent ∧
      ∀ j, (ready.streamRec j).entry.valid = false) ∧
    ((withOrder running 5 reroute5).Executes 0 (orderOf 5 reroute5) 5 reroute5 ∧
      (readLoadStream reroute5).map (fun x => (x.1, x.2.channel)) = some (5, some 1) ∧
      (readLoadStream (5 :: loadStream5.drop 1)).map (fun x => (x.1, x.2.channel)) = some (5, some 0) ∧
      running.AlertsFollowMembers ∧ (running.streamRec 5).flow.isOpen = true ∧ (running.streamRec 5).entry.sendTo.get .ta = true ∧
      running.trunkUp .ta = true ∧ (∀ q ∈ (running.out .ta).waiting, q.stream ≠ some 5)) ∧
    ((ordered 5 [6, 1, 10, 0, 0, 0, 0, 0]).Executes 0 (orderOf 5 [6, 1, 10, 0, 0, 0, 0, 0]) 5 [6, 1, 10, 0, 0, 0, 0, 0] ∧
      readLoadStream [6, 1, 10, 0, 0, 0, 0, 0] = none) :=
  ⟨⟨⟨rfl, rfl, rfl, rfl, rfl, rfl⟩, rfl, running_channels_consistent, by decide +kernel⟩,
    ⟨ordered_executes _ _, ready_channels_consistent, fun j => by rw [ready_stream]; rfl⟩,
    ⟨⟨rfl, rfl, rfl, rfl, rfl, rfl⟩, by decide +kernel, by decide +kernel, by unfold State.AlertsFollowMembers; decide +kernel,
      by decide +kernel⟩, ordered_executes _ _, by decide +kernel⟩

theorem witness_FrameAgeExpiriesChangeState :
    running.held = false ∧ (running.channel 0).state = .live ∧ (running.channel 1).state ≠ .live ∧
      ((running.updChannel 0 (fun c => { c with state := .stale })).channel 0).state = .stale ∧
      ((running.updChannel 0 (fun c => { c with state := .waiting })).channel 0).state = .waiting := by decide +kernel

theorem witness_SetChannelStoresSettings :
    ((ordered 6 [12, 0, 0, 0, 0, 0]).Executes 0 (orderOf 6 [12, 0, 0, 0, 0, 0]) 6 [12, 0, 0, 0, 0, 0] ∧ 12 ≤ (12 : Byte).toNat) ∧
    ((ordered 6 [11, 16, 0, 39, 255, 255]).Executes 0 (orderOf 6 [11, 16, 0, 39, 255, 255]) 6 [11, 16, 0, 39, 255, 255] ∧
      (11 : Fin 12).val = (11 : Byte).toNat ∧ (ordered 6 [11, 16, 0, 39, 255, 255]).AlertsFollowMembers) :=
  ⟨⟨ordered_executes _ _, by decide⟩, ordered_executes _ _, rfl, ready_alerts_follow⟩

/-- R163: the record of a LIVE, CLEAN channel up to its intake, its running age of 40 ms in two bytes; whole it is 48 bytes. -/
theorem test_channel_record :
    (channelBytes liveChannel).take 18 = [1, 5, 2, 1, 1, 2, 4, 0, 200, 7, 208, 1, 0, 40, 1, 1, 0, 9] ∧
      (channelBytes liveChannel).length = 48 := by decide +kernel

/-- R61, R62, R145: both comparisons at once. IC0 LIVE with an age of 150 ms becomes STALE at 40 ms and LOST at 100 ms, and AL0 with it. -/
theorem test_set_channel_offers_source :
    let s := (withOrder running 6 [0, 4, 0, 40, 0, 100]).updChannel 0 (fun c => { c with age := ⟨150, true⟩ })
    let s := s.updAlert 0 (fun e => { e with settings := { e.settings with mode := .auto, channels := 1, stateCondition := .lost } })
    (after .setChannel s).orders.queue = [.source 0 .live .lost, .reply 7 6 (.done false)] ∧
      (Tab.get (after .setChannel s).alerts 0).demand = true := by decide +kernel

theorem four_lines_missing : ((List.range 720).filter (fun k => !(List.range 716).contains k)).length = 4 := by
  have h : (fun k => !(List.range 716).contains k) = fun k => decide (716 ≤ k) := by
    funext k
    rw [Bool.eq_iff_iff]
    simp
  rw [h]
  decide +kernel

/-- The same channel with all lines but four received good. -/
def filledChannel : Channel := liveChannel.updSlot 1 (fun sl => { sl with good := List.range 716 })

theorem filled_slot : filledChannel.slot 1 = { liveChannel.slot 1 with good := List.range 716 } := Tab.get_upd_self _ _ _

theorem witness_FrameCloseJudgesTheFrame :
    liveChannel.Consistent ∧ liveChannel.intake = .filling 1 9 ∧
    liveChannel.patch < ((List.range 720).filter (fun k => !(liveChannel.slot 1).good.contains k)).length ∧
    filledChannel.intake = .filling 1 9 ∧
    ((List.range 720).filter (fun k => !(filledChannel.slot 1).good.contains k)).length ≤ filledChannel.patch ∧
    running.BetweenPackets (.trunk .ta) ∧ onStream5.BetweenPackets (.cam 0) ∧
    (let r := onStream5.streamRec 5
    (Tab.get onStream5.cams 0).stream = 5 ∧ r.entry.valid = true ∧ r.entry.origin = .cam 0 ∧ r.entry.origin ≠ .trunk .ta ∧
      r.flow.isOpen = true ∧ r.flow.frame = 9 ∧ r.flow.frame ≠ 10 ∧ r.entry.channel = some 0 ∧ r.entry.sendTo.get .ta = true ∧
      onStream5.trunkUp .ta = true ∧ (∀ q ∈ (onStream5.out .ta).waiting, q.stream ≠ some 5) ∧ (onStream5.out .ta).video.length < 24 ∧
      (Tab.get onStream5.cams 0).openFrame = some ⟨9, [0, 1]⟩ ∧ (running.streamRec 0).entry.valid = false) :=
  ⟨live_channel_consistent, rfl, by decide +kernel, rfl, by
    rw [filled_slot, four_lines_missing]; exact Nat.le_refl 4, running_between_packets.2,
    between_packets_of (by decide +kernel), by decide +kernel⟩

theorem witness_TakesAndReleasesMoveReaders :
    liveChannel.Consistent ∧ (∀ i j, hasMember (liveChannel.slot i).readers (0 : Fin 2).val = true →
      hasMember (liveChannel.slot j).readers (0 : Fin 2).val = true → i = j) ∧ (liveChannel.slot 0).newest = true ∧
    Channel.reset.Consistent ∧ ∀ i, (Channel.reset.slot i).newest = false :=
  ⟨live_channel_consistent, by decide, rfl, reset_channel_consistent, by decide⟩

theorem witness_LensFiguresFollowTheRules :
    Profile.reset.dark < Profile.reset.glare ∧ Profile.reset.h1 < Profile.reset.h2 ∧ Profile.reset.h2 < Profile.reset.h3 ∧ 64 ≤ 64 ∧
      (64 : Nat) ≤ 64 ∧ 40 < 64 ∧ (List.replicate 2560 (0 : Byte)).length = 2560 ∧
      ((Measure.start 501 8).odd = true ∧ 2 % 4 = 2) ∧ ((Measure.start 500 8).odd = false ∧ 716 % 4 = 0) := by decide +kernel

/-- R67 to R70: of a line whose luma rises by 20 from the first column of zone column 3 to the next, with F = 8, one pair counts. -/
theorem test_line_is_measured :
    let m := (Measure.start 500 8).addLine 240 ((List.range 1280).flatMap (fun x => [if x < 482 then 10 else 30, 128]))
    m.sums[19] = 12 ∧ m.sums[18] = 0 ∧ m.luma = (79 * 3 + 1) * 10 + (79 * 5 - 1) * 30 ∧
      (Measure.start 501 8).addLine 240 (List.replicate 2560 1) = Measure.start 501 8 := by decide +kernel

theorem witness_PersistenceStepFollowsTheRule :
    let l := { Lens.reset with stated := .clean, pending := some .haze, run := 1 }
    Grade.clean = l.stated ∧ Grade.haze ≠ l.stated ∧ l.pending = some .haze ∧ l.run + 1 < Profile.reset.kWorse ∧
      ¬{ l with run := 2 }.run + 1 < Profile.reset.kWorse ∧ l.pending ≠ some .smear ∧ 1 < Profile.reset.kWorse ∧
      { Profile.reset with kWorse := 1 }.kWorse ≤ 1 := by decide

theorem witness_LearnStartsALearning :
    ((ordered 14 [8]).Executes 0 (orderOf 14 [8]) 14 [8] ∧ 8 ≤ (8 : Byte).toNat) ∧
    ((ordered 14 [7]).Executes 0 (orderOf 14 [7]) 14 [7] ∧ (7 : Fin 8).val = (7 : Byte).toNat ∧ (ordered 14 [7]).AlertsFollowMembers) ∧
    (let m := Measure.start 1 8
    m.void = false ∧ { m with void := true }.void = true ∧ { Lens.reset with measure := some m }.measure = some m ∧
      Lens.reset.measure = none ∧ Profile.reset.pair = false ∧ { Profile.reset with pair := true }.pair = true ∧
      Lens.reset.half = none) ∧
    (Lens.reset.state ≠ .learning ∧ { Lens.reset with nonJudged := 253 }.nonJudged < 254 ∧
      254 ≤ { Lens.reset with nonJudged := 254 }.nonJudged) ∧
    (23 < Profile.reset.dark ∧ Profile.reset.dark ≤ 236 ∧ Profile.reset.glare < 236 ∧ Profile.reset.dark ≤ 24 ∧ 24 ≤ Profile.reset.glare) ∧
    (let l := { Lens.reset with state := .learning, target := 4, count := 3 }
    l.count + 1 = l.target ∧ { l with count := 0 }.count + 1 ≠ l.target ∧
      12 ≤ ((List.finRange 48).filter (fun z => (formBaselines (Vector.replicate 48 256) 4)[z] ≠ 0)).length ∧
      ((List.finRange 48).filter (fun z => (formBaselines (Vector.replicate 48 255) 4)[z] ≠ 0)).length < 12) ∧
    (Profile.reset.drift ≠ 0 ∧ { Profile.reset with drift := 0 }.drift = 0) :=
  ⟨⟨ordered_executes _ _, by decide⟩, ⟨ordered_executes _ _, rfl, ready_alerts_follow⟩, by decide, by decide, by decide,
    by decide +kernel, by decide⟩

theorem witness_LoadProfileStoresFields :
    ((ordered 13 [3, 63, 95, 1, 2, 100, 15, 63, 0, 255, 16, 8, 1]).Executes 0 (orderOf 13 [3, 63, 95, 1, 2, 100, 15, 63, 0, 255, 16, 8, 1]) 13
      [3, 63, 95, 1, 2, 100, 15, 63, 0, 255, 16, 8, 1] ∧ (3 : Fin 4).val = (3 : Byte).toNat ∧ ready.AlertsFollowMembers ∧
      (∀ j, (ready.lens j).state = .unlearned) ∧ (hazy.lens 0).state = .assessing ∧ (hazy.lens 0).stated = .haze) ∧
    ((ordered 13 [4, 0, 0, 0, 0, 0, 0, 0, 0, 0, 5, 0, 2]).Executes 0 (orderOf 13 [4, 0, 0, 0, 0, 0, 0, 0, 0, 0, 5, 0, 2]) 13
      [4, 0, 0, 0, 0, 0, 0, 0, 0, 0, 5, 0, 2] ∧ 4 ≤ (4 : Byte).toNat) :=
  ⟨⟨ordered_executes _ _, rfl, ready_alerts_follow, fun j => by revert j; decide +kernel, by decide +kernel⟩, ordered_executes _ _,
    by decide⟩

/-- R95: a changed F unlearns CP0, which assesses, and CP1, which learns, each with its notice, from CP0 on (entry 46). -/
theorem test_load_profile_offers_its_notices :
    let s := hazy.updLens 1 (fun l => { l with state := .learning })
    (after .loadProfile (withOrder s 13 [0, 9, 60, 15, 35, 70, 3, 10, 24, 235, 8, 6, 0])).orders.queue =
      [.grade 0 .haze .unjudged 0, .learnEnd 1 .profileChanged, .reply 7 13 (.done false)] := by decide +kernel

/-- DL3 high against its filtered level, its wait at 4 ms. -/
def doorWaiting : State := ready.updDoor 3 (fun d => { d with raw := true, wait := some 4 })

theorem witness_DoorLinesAreFiltered :
    (ready.held = false ∧ ready.TriggersFollowVector ∧ false = (ready.door 3).raw ∧ true ≠ (ready.door 3).raw ∧
      (ready.door 3).filterTime ≠ 0 ∧ (ready.door 3).wait = none) ∧
    ((ready.updDoor 3 (fun d => { d with filterTime := 0 })).TriggersFollowVector ∧
      ((ready.updDoor 3 (fun d => { d with filterTime := 0 })).door 3).filterTime = 0) ∧
    (doorWaiting.TriggersFollowVector ∧ (doorWaiting.door 3).wait = some 4) ∧ ready.ChosenViewsCurrent := by
  unfold State.TriggersFollowVector State.ChosenViewsCurrent
  decide +kernel

/-- R103, R106, R112, R113: DL3 rises and SC0's view 4 is chosen; DL3 falls and the entry lingers for its 2 s. -/
theorem test_door_line_claims_a_view :
    let s := ready.updTrigger 15 (fun t => { t with enable := true, mask := 8, value := 8, screens := 1, view := 4, linger := 2 })
    let s := after (.doorLineChange 3 true) (s.updDoor 3 (fun d => { d with filterTime := 0 }))
    s.orders.queue = [.view 0 0 4 (.trigger 15)] ∧ ((after (.doorLineChange 3 false) s).trigger 15).state = .linger 2000 := by
  decide +kernel

theorem witness_SelectorTimersExpire :
    (ready.held = false ∧ (∀ ms, (ready.trigger 15).state ≠ .linger ms) ∧ ready.orders.hub.silenceTimer = none) ∧
    ((ready.updTrigger 15 (fun t => { t with state := .linger 0 })).trigger 15).state = .linger 0 ∧
    (ready.updHub (fun h => { h with silenceTimer := some 0 })).orders.hub.silenceTimer.isSome = true :=
  ⟨⟨rfl, nofun, rfl⟩, by decide +kernel, rfl⟩

theorem witness_SetLinesStoresLines :
    let times : List Byte := [0, 250, 251, 255, 10, 10, 10, 10]
    times.length = 8 ∧ (withOrder doorWaiting 10 (255 :: 1 :: 15 :: times)).Executes 0 (orderOf 10 (255 :: 1 :: 15 :: times)) 10
      (255 :: 1 :: 15 :: times) ∧ (withOrder doorWaiting 10 (255 :: 1 :: 15 :: times)).TriggersFollowVector ∧
      (withOrder doorWaiting 10 (255 :: 1 :: 15 :: times)).ChosenViewsCurrent ∧ (15 : Byte).getLsbD 3 = true ∧
      (15 : Byte).getLsbD 4 = false ∧ (doorWaiting.door 3).wait = some 4 ∧ (doorWaiting.door 0).wait = none :=
  ⟨rfl, ⟨rfl, rfl, rfl, rfl, rfl, rfl⟩, by unfold State.TriggersFollowVector; decide +kernel,
    by unfold State.ChosenViewsCurrent; decide +kernel, by decide +kernel⟩

theorem witness_LoadTriggerWritesTheEntry :
    (ordered 9 [15, 1, 255, 255, 0, 1, 3, 31, 15, 60]).Executes 0 (orderOf 9 [15, 1, 255, 255, 0, 1, 3, 31, 15, 60]) 9
      [15, 1, 255, 255, 0, 1, 3, 31, 15, 60] ∧ (15 : Fin 16).val = (15 : Byte).toNat ∧ (31 : Fin 32).val = (31 : Byte).toNat ∧
    (ordered 9 [16, 2, 0, 0, 0, 0, 4, 32, 0, 61]).Executes 0 (orderOf 9 [16, 2, 0, 0, 0, 0, 4, 32, 0, 61]) 9
      [16, 2, 0, 0, 0, 0, 4, 32, 0, 61] ∧ 16 ≤ (16 : Byte).toNat :=
  ⟨ordered_executes _ _, rfl, rfl, ordered_executes _ _, by decide⟩

theorem witness_PinsAreSetAndReleased :
    (ordered 11 [1, 31, 16]).Executes 0 (orderOf 11 [1, 31, 16]) 11 [BitVec.ofNat 8 (1 : Fin 2).val, BitVec.ofNat 8 (31 : Fin 32).val, 16] ∧
    (ordered 12 [1]).Executes 0 (orderOf 12 [1]) 12 [BitVec.ofNat 8 (1 : Fin 2).val] ∧
    ((ordered 11 [2, 0, 1]).Executes 0 (orderOf 11 [2, 0, 1]) 11 [2, 0, 1] ∧ 2 ≤ (2 : Byte).toNat) ∧
    ((ordered 12 [2]).Executes 0 (orderOf 12 [2]) 12 [2] ∧ 2 ≤ (2 : Byte).toNat) :=
  ⟨ordered_executes _ _, ordered_executes _ _, ⟨ordered_executes _ _, by decide⟩, ordered_executes _ _, by decide⟩

/-- Entries 3 and 4 ACTIVE for both screens with equal priorities. -/
def claiming : Vector Trigger 16 :=
  (Vector.replicate 16 Trigger.reset).set 3 { Trigger.reset with state := .active, screens := 3, priority := 7 } |>.set 4
    { Trigger.reset with state := .linger 1, screens := 3, priority := 7 }

theorem witness_ChosenViewFollowsTheTable :
    (∀ t : Fin 16, ¬((Tab.get (Vector.replicate 16 Trigger.reset) t).state ≠ .idle ∧
      hasMember (Tab.get (Vector.replicate 16 Trigger.reset) t).screens (0 : Fin 2).val = true)) ∧
    (let claims : Fin 16 → Prop := fun t => (Tab.get claiming t).state ≠ .idle ∧ hasMember (Tab.get claiming t).screens (0 : Fin 2).val = true
    claims 3 ∧ ∀ u, claims u → (Tab.get claiming u).priority < (Tab.get claiming 3).priority ∨
      ((Tab.get claiming u).priority = (Tab.get claiming 3).priority ∧ (3 : Fin 16).val ≤ u.val)) := by decide +kernel

/-- The running hub with a tile of IC0 in view 0; row 0 of its newest slot holds Y 9, Cb 7, Cr 8. -/
def tiled : State :=
  { running.updChannel 0 (fun c => c.updSlot 0 (fun sl => { sl with
      rows := [(0, (List.range 640).flatMap (fun _ => [9, 7, 9, 8]))] })) with
    views := Tab.upd running.views 0 (fun v => { v with tiles := [workedTile false] }) }

theorem witness_OutputFrameStartComposes :
    (running.held = false ∧ (running.screen 0).enable = true ∧ (running.screen 0).reading = none ∧
      ((running.updScreen 1 (fun x => { x with enable := false })).screen 1).enable = false) ∧
    (let s := tiled.updScreen 0 (fun x => { x with frameTimer := 1 })
    let view := (Tab.get s.selector.chosen 0).view
    (s.screen 0).enable = true ∧ (s.screen 0).frameTimer = 1 ∧ (s.tick.screen 0).reading.isSome = true ∧
      (∀ x ∈ (s.tick.screen 0).reading, x.view = view ∧ x.copy = Tab.get s.tick.views view) ∧
      ∀ x ∈ (({ s.tick with views := running.views } : State).screen 0).reading, x.copy ≠ Tab.get running.views view) ∧
    (let s := after (.outputFrameStart 0) tiled
    s.held = false ∧ (s.screen 0).composing = true ∧ (s.screen 0).copy.tiles[0]? = some (workedTile false) ∧
      (s.screen 0).record[0]? = some ⟨0, false, .clear⟩ ∧ Tab.get (s.screen 0).held 0 = some 0 ∧ (tiled.screen 0).composing = false) := by
  decide +kernel

/-- R54, R127, R136, R137: in the tile, a source row that is not missing; the tile's own row 3 is missing and shows row 2; a haze border. -/
theorem test_pixels_of_a_tile :
    let s := after (.outputFrameStart 0) tiled
    s.screenPixel 0 440 200 = some ⟨9, 7⟩ ∧ s.screenPixel 0 441 200 = some ⟨9, 8⟩ ∧ s.screenPixel 0 439 200 = some ⟨96, 128⟩ ∧
      (after (.outputFrameStart 0) (tiled.updChannel 0 (fun c => { c with grade := .haze }))).screenPixel 0 441 200 = some ⟨162, 182⟩ ∧
      s.screenPixel 0 1279 799 = some ⟨96, 128⟩ ∧ s.screenPixel 0 1280 799 = none := by decide +kernel

/-- R125, R128: a LOAD-VIEW, or a changed default view, that comes between the tick and the start is drawn by that frame. -/
theorem test_view_order_between_tick_and_start :
    let s := (tiled.updScreen 0 (fun x => { x with frameTimer := 1 })).tick
    ((after (.outputFrameStart 0) (after .loadView (withOrder s 7 [0, 1, 2, 3, 0]))).screen 0).copy = ⟨⟨1, 2, 3⟩, []⟩ ∧
      ((after (.outputFrameStart 0) (after .setScreen (withOrder s 8 [0, 1, 5]))).screen 0).activeView = 5 := by decide +kernel

/-- R131: a publication between the reading and the take gives the take the newer slot. -/
theorem test_event_between_reading_and_take :
    let s := (tiled.updScreen 0 (fun x => { x with frameTimer := 1 })).tick
    let published := s.updChannel 0 (fun c => (c.publish 1 []).unbind)
    (Tab.get ((after (.outputFrameStart 0) s).screen 0).held 0 = some 0) ∧
      ((after (.outputFrameStart 0) published).screen 0).record = [⟨0, false, .placeholder⟩] ∧
      Tab.get ((after (.outputFrameStart 0) (s.updChannel 0 (Channel.publish 1 []))).screen 0).held 0 = some 1 := by decide +kernel

theorem witness_SetScreenWritesTheScreen :
    ((withOrder running 8 [0, 0, 31]).Executes 0 (orderOf 8 [0, 0, 31]) 8 [0, 0, 31] ∧ (0 : Fin 2).val = (0 : Byte).toNat ∧
      (31 : Fin 32).val = (31 : Byte).toNat ∧ ((0 : Byte) = 0 ∨ (0 : Byte) = 1)) ∧
    ((ordered 8 [1, 2, 32]).Executes 0 (orderOf 8 [1, 2, 32]) 8 [1, 2, 32] ∧ 32 ≤ (32 : Byte).toNat) :=
  ⟨⟨⟨rfl, rfl, rfl, rfl, rfl, rfl⟩, rfl, rfl, .inl rfl⟩, ordered_executes _ _, by decide⟩

theorem witness_LoadViewReplacesTheView :
    (ordered 7 [0, 0]).Executes 0 (orderOf 7 [0, 0]) 7 [0, 0] ∧
    ((ordered 7 ([31, 1, 2, 3, 1] ++ windowOf 320 955 400)).Executes 0 (orderOf 7 ([31, 1, 2, 3, 1] ++ windowOf 320 955 400)) 7
      ([31, 1, 2, 3, 1] ++ windowOf 320 955 400) ∧ (windowOf 320 955 400).length = 20 * (1 : Byte).toNat ∧
      (readTiles 1 (windowOf 320 955 400)).isSome = true ∧ (31 : Fin 32).val = (31 : Byte).toNat) ∧
    ((ordered 7 [32, 1, 2, 3, 9]).Executes 0 (orderOf 7 [32, 1, 2, 3, 9]) 7 [32, 1, 2, 3, 9] ∧ 32 ≤ (32 : Byte).toNat) :=
  ⟨ordered_executes _ _, ⟨ordered_executes _ _, by decide +kernel⟩, ordered_executes _ _, by decide⟩

/-- R148: an inactive line is high with polarity active-low, and low while the hub is held in reset. -/
theorem test_alert_level :
    let s := ready.updAlert 0 (fun e => { e with settings := { e.settings with polarity := .activeLow } })
    s.alertHigh 0 = true ∧ { s with held := true }.alertHigh 0 = false ∧ ready.alertHigh 0 = false := by decide +kernel

/-- AL1 called for, in its active half. -/
def pulsing : State :=
  ready.updAlert 1 (fun e => { e with settings := { e.settings with mode := .forcedOn, style := .pulsing }, demand := true
                                      pulse := some ⟨true, 500⟩, line := true })

theorem witness_AlertsPulseAndTakeSettings :
    (pulsing.held = false ∧ (Tab.get pulsing.alerts 1).pulse = some ⟨true, 500⟩ ∧ (Tab.get pulsing.alerts 0).pulse = none) ∧
    ((withOrder pulsing 15 [1, 1, 15, 255, 255, 2, 3, 1, 1]).Executes 0 (orderOf 15 [1, 1, 15, 255, 255, 2, 3, 1, 1]) 15
      [1, 1, 15, 255, 255, 2, 3, 1, 1] ∧ (withOrder pulsing 15 [1, 1, 15, 255, 255, 2, 3, 1, 1]).AlertsFollowMembers ∧
      (1 : Fin 4).val = (1 : Byte).toNat) ∧
    ((ordered 15 [3, 2, 16, 0, 0, 0, 0, 0, 0]).Executes 0 (orderOf 15 [3, 2, 16, 0, 0, 0, 0, 0, 0]) 15 [3, 2, 16, 0, 0, 0, 0, 0, 0] ∧
      (ordered 15 [3, 2, 16, 0, 0, 0, 0, 0, 0]).AlertsFollowMembers ∧ 4096 ≤ 256 * (16 : Byte).toNat + (0 : Byte).toNat) :=
  ⟨by decide +kernel, ⟨⟨rfl, rfl, rfl, rfl, rfl, rfl⟩, by unfold State.AlertsFollowMembers; decide +kernel, rfl⟩,
    ordered_executes _ _, ready_alerts_follow, by decide⟩

/-- A notice waiting, with this controller side. -/
def noticeWaiting (side : Side) (s : State) : State :=
  s.updOrders (fun u => { u with queue := [.silence 3], hub := { u.hub with side := side } })

theorem witness_NoticesMoveBySide :
    (let s := noticeWaiting .ta running
    s.held = false ∧ s.orders.queue = [.silence 3] ∧ s.orders.hub.side = .ta ∧ s.trunkUp .ta = true ∧ (s.out .ta).mgmt.length < 8) ∧
    (let s := noticeWaiting .both (trunkUpOn .tb running)
    s.orders.hub.side = .both ∧ s.trunkUp .ta = true ∧ s.trunkUp .tb = true ∧ (s.out .tb).mgmt.length < 8) ∧
    (let s := noticeWaiting .both running
    s.orders.hub.side = .both ∧ s.trunkUp .ta = true ∧ s.trunkUp .tb = false) ∧
    (let s := noticeWaiting .both ready
    s.trunkUp .ta = false ∧ s.trunkUp .tb = false) ∧ (running.held = false ∧ running.orders.queue = []) := by decide +kernel

theorem witness_OffersJoinCoalesceOrAreLost :
    (Notice.link (.cam 0) .down .up).isReply = false ∧ (∀ w ∈ ready.orders.queue, (Notice.link (.cam 0) .down .up).sameKey w = false) ∧
    (ready.orders.queue.filter (fun w => !w.isReply)).length < 30 ∧
    (let q := List.replicate 30 (Notice.silence 0)
    30 ≤ (q.filter (fun w => !w.isReply)).length ∧ ∀ w ∈ q, (Notice.silence 1).sameKey w = false) ∧
    (let w := Notice.source 3 .live .stale
    [Notice.silence 0, w, .source 4 .live .stale] = [Notice.silence 0] ++ w :: [.source 4 .live .stale] ∧
      ∀ x ∈ [Notice.silence 0] ++ [Notice.source 4 .live .stale], w.sameKey x = false) := by decide +kernel

theorem witness_PlainOrdersAreAnswered :
    (ordered 1 []).Executes 0 (orderOf 1 []) 1 [] ∧ (ordered 2 [1, 0]).Executes 0 (orderOf 2 [1, 0]) 2 [1, 0] ∧
    (ordered 18 [0, 0]).Executes 0 (orderOf 18 [0, 0]) 18 [0, 0] ∧ (ordered 18 [1, 7]).Executes 0 (orderOf 18 [1, 7]) 18 [1, 7] ∧
    (ordered 18 [1, 9]).Executes 0 (orderOf 18 [1, 9]) 18 [1, 9] ∧ (ordered 18 [3, 11]).Executes 0 (orderOf 18 [3, 11]) 18 [3, 11] ∧
    (ordered 18 [1, 10]).Executes 0 (orderOf 18 [1, 10]) 18 [1, 10] ∧ (ordered 21 [5]).Executes 0 (orderOf 21 [5]) 21 [5] ∧
    21 ≤ (21 : Byte).toNat :=
  ⟨ordered_executes _ _, ordered_executes _ _, ordered_executes _ _, ordered_executes _ _, ordered_executes _ _, ordered_executes _ _,
    ordered_executes _ _, ordered_executes _ _, by decide⟩

theorem witness_QueriesReturnRecords :
    ((ordered 16 [0, 0, 0]).Executes 0 (orderOf 16 [0, 0, 0]) 16 [0, 0, 0] ∧ readSubject [0, 0, 0] = some .hub ∧
      186 * (0 : Byte).toNat < (ready.recordBytes .hub).length ∧ (ready.recordBytes .hub).length ≤ 186 * (1 : Byte).toNat) ∧
    ((ordered 16 [10, 0, 0]).Executes 0 (orderOf 16 [10, 0, 0]) 16 [10, 0, 0] ∧ readSubject [10, 0, 0] = none) ∧
    ((ordered 17 [7]).Executes 0 (orderOf 17 [7]) 17 [7] ∧ (7 : Fin 8).val = (7 : Byte).toNat) ∧
    ((ordered 17 [8]).Executes 0 (orderOf 17 [8]) 17 [8] ∧ 8 ≤ (8 : Byte).toNat) :=
  ⟨⟨ordered_executes _ _, by decide +kernel⟩, ⟨ordered_executes _ _, rfl⟩, ⟨ordered_executes _ _, rfl⟩, ordered_executes _ _, by decide⟩

theorem witness_RefusedOrdersOnlyReply :
    (let s := { ordered 20 [] with loader := State.reset.loader }
    s.held = false ∧ s.orders.firstPending = some (0, orderOf 20 []) ∧ s.orders.replyPlaceFree = true ∧ s.loader.phase ≠ .ready) ∧
    (let s := ordered 14 [1, 2]
    s.held = false ∧ s.orders.firstPending = some (0, orderOf 14 [1, 2]) ∧ s.orders.replyPlaceFree = true ∧ s.loader.phase = .ready ∧
      (orderOf 14 [1, 2]).params.length ≠ 1) ∧
    (let s := ordered 20 [1]
    s.orders.firstPending = some (0, orderOf 20 [1]) ∧ (orderOf 20 [1]).broadcast = false) := by decide +kernel

theorem test_refused_learn_only_replies :
    (after .learn (ordered 14 [8])).orders.queue = [.reply 7 14 (.refused .badField)] ∧
      Tab.get (after .learn (ordered 14 [8])).orders.slots 0 = .free := by decide +kernel

/-- A SAVE job in slot 1, at this phase. -/
def saving (phase : SavePhase) : State :=
  { ready with
    orders := { ready.orders with slots := #v[.free, .saving (orderOf 19 [])] }
    loader := { phase := .ready, job := some { snapshot := List.replicate 300 1, phase := phase, elapsed := 0, slot := 1 }, resetTag := none } }

theorem saving_consistent (phase : SavePhase) : (saving phase).SaveJobConsistent := by
  refine ⟨fun i => ?_, fun _ => ⟨rfl, fun a _ => rfl⟩⟩
  constructor
  · intro h
    have : ∀ i : Fin 2, (Tab.get #v[OrderSlot.free, .saving (orderOf 19 [])] i).isSaving = true → 1 = i := by decide
    exact ⟨_, rfl, this i h⟩
  · rintro ⟨j, h, hi⟩
    cases h
    subst hi
    rfl

theorem witness_SaveRunsToItsEnd :
    (ordered 19 []).Executes 0 (orderOf 19 []) 19 [] ∧ (ordered 19 []).loader.job = none ∧
    (let s := { saving .erasing with orders := { ready.orders with slots := #v[.pending (orderOf 19 []), .saving (orderOf 19 [])] } }
    s.Executes 0 (orderOf 19 []) 19 [] ∧ s.loader.job.isSome = true) ∧
    ((saving .erasing).held = false ∧ (saving .erasing).loader.job.isSome = true ∧
      Tab.get (saving (.programming 0)).orders.slots 1 = .saving (orderOf 19 [])) :=
  ⟨ordered_executes _ _, rfl, ⟨⟨rfl, rfl, rfl, rfl, rfl, rfl⟩, rfl⟩, rfl, rfl, rfl⟩

theorem witness_FailedSaveLeavesNoValidImage :
    (saving .erasing).held = false ∧ (saving .erasing).loader.job.isSome = true ∧ (saving .erasing).SaveJobConsistent ∧
      (saving (.programming 0)).SaveJobConsistent ∧ (saving (.programming 1)).SaveJobConsistent ∧
      Tab.get (saving .erasing).orders.slots 1 = .saving (orderOf 19 []) :=
  ⟨rfl, rfl, saving_consistent _, saving_consistent _, saving_consistent _, rfl⟩

/-- A flash that reads as a list of bytes. -/
theorem flash_reading (bytes : List Byte) : ∃ f : Flash, f.torn = false ∧ ∀ a, a < bytes.length → f.read a = bytes.getD a 255 := by
  refine ⟨⟨Mem.overwrite erasedByte [] 0 bytes.length (fun a => bytes.getD a 255), false⟩, rfl, fun a ha => ?_⟩
  show Mem.read erasedByte (Mem.overwrite erasedByte [] 0 bytes.length _) a = _
  rw [Mem.read_overwrite, if_pos (by omega)]

theorem witness_SnapshotIsJudgedValid :
    ready.ScreensConsistent ∧ ∃ f : Flash, f.torn = false ∧ ∀ a, a < ready.snapshot.length → f.read a = ready.snapshot.getD a 255 :=
  ⟨ready_screens_consistent, flash_reading _⟩

/-- The load under way with two entries to go. -/
def applying : State :=
  { ready with loader := { ready.loader with phase := .applying [⟨.hub, [0, 9]⟩, ⟨.alert, [4, 0, 0, 0, 0, 0, 0, 0, 0]⟩] } }

/-- A flash that holds these bytes. -/
def flashOf (bytes : List Byte) : Flash := ⟨Mem.overwrite erasedByte [] 0 bytes.length (fun a => bytes.getD a 255), false⟩

/-- An image with silence time 9, every filter time 0, and no other entry. -/
def smallParts : List (List ImageEntry) :=
  [[⟨.hub, [0, 9]⟩], [], [], [], [], [], [], [⟨.filterTimes, [0, 0, 0, 0, 0, 0, 0, 0]⟩], [], []]

def smallImage : List Byte :=
  [79, 72, 0, 48, 0, 129, 15, 83] ++ ([0, 0, 2, 0, 9] ++ [1, 0, 0, 2, 0, 0, 3, 0, 0, 4, 0, 0, 5, 0, 0, 6, 0, 0] ++ [7, 0, 8, 0, 0, 0, 0, 0, 0, 0, 0] ++
    [8, 0, 0, 9, 0, 0])

theorem small_sections : Sections ((flashOf smallImage).readRange 8 40) smallParts := by
  refine ⟨rfl, fun n es h => ?_, by decide +kernel⟩
  obtain ⟨hn, he⟩ := List.getElem?_eq_some_iff.mp h
  have hn : n < 10 := hn
  subst he
  interval_cases n
  all_goals first | exact ⟨[], _, rfl, rfl, nofun⟩ | simp [smallParts, SectionHolds]

theorem empty_is_no_image (parts : List (List ImageEntry)) : ¬Sections ((flashOf (imageOf 1023 [])).readRange 8 0) parts := by
  intro h
  have hj : ([] : List Byte) = _ := h.joined
  have hl := h.ten
  match parts with
  | p :: ps => simp [byte1] at hj

theorem witness_LoadJudgesAndAppliesEntries :
    (∀ parts, ¬Sections ((flashOf (imageOf 1023 [])).readRange 8 0) parts) ∧
    Sections ((flashOf smallImage).readRange 8 40) smallParts ∧
    ((ordered 3 [7, 1, 255, 1]).Executes 0 (orderOf 3 [7, 1, 255, 1]) 3 [7, 1, 255, 1] ∧
      (ordered 7 [0, 1, 2, 3, 0]).Executes 0 (orderOf 7 [0, 1, 2, 3, 0]) 7 [0, 1, 2, 3, 0]) ∧
    ¬(Flash.erased.read 0 = 79 ∧ Flash.erased.read 1 = 72) ∧
    (let f : Flash := ⟨[(0, 79), (1, 72), (2, 0), (3, 7)], false⟩
    f.read 0 = 79 ∧ f.read 1 = 72 ∧ 256 * (f.read 2).toNat + (f.read 3).toNat < 8) ∧
    (let f : Flash := ⟨[(0, 79), (1, 72), (2, 0), (3, 8)], false⟩
    f.read 0 = 79 ∧ f.read 1 = 72 ∧ 256 * (f.read 2).toNat + (f.read 3).toNat = 8 ∧
      (packetCheck (f.readRange 0 6 ++ f.readRange 8 0)).toNat ≠ 256 * (f.read 6).toNat + (f.read 7).toNat) ∧
    (let f := flashOf (imageOf 1023 [])
    f.read 0 = 79 ∧ f.read 1 = 72 ∧ 256 * (f.read 2).toNat + (f.read 3).toNat = 8 ∧ f.torn = false ∧
      (packetCheck (f.readRange 0 6 ++ f.readRange 8 0)).toNat = 256 * (f.read 6).toNat + (f.read 7).toNat) ∧
    (let f := flashOf smallImage
    f.read 0 = 79 ∧ f.read 1 = 72 ∧ 256 * (f.read 2).toNat + (f.read 3).toNat = 48 ∧ f.torn = false ∧
      (packetCheck (f.readRange 0 6 ++ f.readRange 8 40)).toNat = 256 * (f.read 6).toNat + (f.read 7).toNat) ∧
    (let figures := (List.range 48).flatMap (fun _ => [0, 0, 64])
    figures.length = 144 ∧ (ready.lens 7).state ≠ .assessing ∧ ((ready.updLens 7 (Lens.restore .zero)).lens 7).state = .assessing ∧
      (Tab.get ready.profiles 0).noise = 8 ∧ (Tab.get ready.profiles 0).pair = false) ∧
    (State.reset.held = false ∧ State.reset.loader.phase = .reading) ∧
    (applying.held = false ∧ applying.loader.phase = .applying [⟨.hub, [0, 9]⟩, ⟨.alert, [4, 0, 0, 0, 0, 0, 0, 0, 0]⟩] ∧
      (hubSectionEffect [0, 9] applying).2 = .done false ∧
      (setAlertEffect [4, 0, 0, 0, 0, 0, 0, 0, 0] applying).2 = .refused .badField) ∧
    ready.loader.phase ≠ .reading :=
  ⟨empty_is_no_image, small_sections, ⟨ordered_executes _ _, ordered_executes _ _⟩, by decide +kernel⟩

/-- A state with a command waiting. -/
def waiting (s : State) : State := { s with pending := [.noticeMove] }

theorem waiting_steps (s : State) : ∃ t, step (waiting s) = .next t := ⟨_, rfl⟩

theorem ready_counters_within_limits : ready.CountersWithinLimits := by
  refine ⟨fun p => ?_, fun t => ?_, fun c => ?_, by decide, by decide, by decide⟩
  · cases p with
    | cam i =>
      rw [show ready.rx (.cam i) = Receiver.reset from congrArg CameraPort.rx (Tab.get_replicate _ _)]
      unfold ArrivalCounters.WithinLimits
      decide
    | trunk t => cases t <;> unfold ArrivalCounters.WithinLimits <;> decide
  · cases t <;> unfold TrunkCounters.WithinLimits <;> decide
  · rw [ready_channel]
    unfold ChannelCounters.WithinLimits
    decide

theorem witness_EveryStepKeepsCountersWithinLimits : ∃ s t, s.CountersWithinLimits ∧ step s = .next t :=
  have ⟨t, h⟩ := waiting_steps (ready.updHub (fun h => { h with overflow := 255, lost := 255, refused := 65535 }))
  ⟨waiting (ready.updHub _), t, ⟨ready_counters_within_limits.1, ready_counters_within_limits.2.1, ready_counters_within_limits.2.2.1, by decide, by decide,
    by decide⟩, h⟩

theorem witness_EveryStepKeepsNoticesBounded : ∃ s t, s.NoticesBounded ∧ step s = .next t :=
  have ⟨t, h⟩ := waiting_steps
    (ready.updOrders (fun u => { u with queue := List.replicate 30 (.silence 1) ++ List.replicate 2 (.reply 7 1 (.done false)) }))
  ⟨_, t, by unfold State.NoticesBounded; decide +kernel, h⟩

theorem witness_EveryStepKeepsOutputsBounded : ∃ s t, s.OutputsBounded ∧ step s = .next t :=
  have ⟨t, h⟩ := waiting_steps
    (outputHolding { Output.reset with video := List.replicate 24 (opening 1), waiting := [opening 5, closing 2] })
  ⟨_, t, fun u => by cases u <;> unfold Output.Bounded Output.Quiet <;> decide +kernel, h⟩

theorem witness_EveryStepKeepsArrivalsConsistent : ∃ s t, s.PortsConsistent ∧ s.CuttingHasArrival ∧ step s = .next t := by
  obtain ⟨t, h⟩ := waiting_steps cuttingThrough
  refine ⟨_, t, fun p => ?_, fun u p hu => ?_, h⟩
  · cases p with
    | cam i => revert i; decide +kernel
    | trunk u => cases u <;> decide +kernel
  · cases u
    · cases hu
      exact ⟨_, rfl, rfl⟩
    · cases hu

theorem witness_EveryStepKeepsChannelsConsistent : ∃ s t, s.ChannelsConsistent ∧ step s = .next t :=
  have ⟨t, h⟩ := waiting_steps running
  ⟨waiting running, t, running_channels_consistent, h⟩

theorem witness_EveryStepKeepsHeldSlotsRead :
    ∃ s t, s.ChannelsConsistent ∧ s.HeldSlotsAreRead ∧ s.ScreensConsistent ∧ step s = .next t :=
  have ⟨t, h⟩ := waiting_steps running
  ⟨waiting running, t, running_channels_consistent, by unfold State.HeldSlotsAreRead; decide +kernel,
    by unfold State.ScreensConsistent; decide +kernel, h⟩

theorem witness_EveryStepKeepsLensesConsistent : ∃ s t, s.LensesConsistent ∧ step s = .next t :=
  have ⟨t, h⟩ := waiting_steps
    ((ready.updLens 1 (fun l => { l with state := .learning, count := 7, nonJudged := 254 })).updLens 2
      (fun l => l.restore (Vector.ofFn (fun z : Fin 48 => if z.val < 36 then 0 else 64))))
  ⟨_, t, by unfold State.LensesConsistent Lens.Consistent Profile.Consistent; decide +kernel, h⟩

theorem witness_EveryStepKeepsSelectorCurrent :
    ∃ s t, s.HeldAtReset ∧ s.TriggersFollowVector ∧ s.ChosenViewsCurrent ∧ s.FilterWaitsRun ∧ step s = .next t :=
  have ⟨t, h⟩ := waiting_steps doorWaiting
  ⟨_, t, fun h => absurd h (by decide), by unfold State.TriggersFollowVector; decide +kernel, by unfold State.ChosenViewsCurrent; decide +kernel,
    by unfold State.FilterWaitsRun; decide +kernel, h⟩

theorem witness_EveryStepKeepsAlertsFollowingMembers : ∃ s t, s.AlertsFollowMembers ∧ step s = .next t :=
  have ⟨t, h⟩ := waiting_steps pulsing
  ⟨_, t, by unfold State.AlertsFollowMembers; decide +kernel, h⟩

theorem witness_EveryStepKeepsSaveJobAndMemory : ∃ s t, s.SaveJobConsistent ∧ s.MemoryCanonical ∧ step s = .next t :=
  have ⟨t, h⟩ := waiting_steps (saving (.programming 1))
  ⟨waiting (saving _), t, saving_consistent _, ready_memory_canonical, h⟩

/-! ## One small step for the commands -/

theorem test_link_up_offers_its_notice :
    (after (.linkUp (.trunk .tb)) ready).orders.queue = [.link (.trunk .tb) .down .up] ∧
      ((after (.linkUp (.trunk .tb)) ready).rx (.trunk .tb)).link = .up := by decide +kernel

theorem test_link_down_closes_its_stream :
    ((after (.linkDown (.cam 0) none) running).streamRec 5).flow.isOpen = false ∧
      ((after (.linkDown (.cam 0) none) running).channel 0).counters.incomplete = 1 ∧
      ((after (.linkDown (.cam 0) none) running).out .ta).video = [.frameClose 5 9 .cut] := by decide +kernel

theorem test_framing_fault_saturates :
    let s := running.updArrivals (.cam 0) (fun c => { c with framing := 255 })
    ((after (.framingFault (.cam 0) .startInside [1]) s).rx (.cam 0)).counters.framing = 255 ∧
      ((after (.framingFault (.cam 0) .startInside highLine) s).rx (.cam 0)).counters.shape = 1 := by decide +kernel

/-- R9: a line 720 is a shape fault at its header, its end is ignored, and the next one is a shape fault of its own. -/
theorem test_ignored_after_line_720 :
    let t := after (.lineHeader (.cam 0) 5 9 720) running
    let u := after (.packetEnd (.cam 0) highLine) t
    (t.rx (.cam 0)).ignoring = true ∧ (t.rx (.cam 0)).counters.shape = 1 ∧ (u.rx (.cam 0)).counters.shape = 1 ∧
      ((after (.packetEnd (.cam 0) highLine) u).rx (.cam 0)).counters.shape = 2 := by decide +kernel

theorem test_broadcast_order_is_consumed_and_forwarded :
    let s := trunkUpOn .tb numbered
    let t := after (.packetEnd (.trunk .ta) (Packet.order 0 1 7 []).wire) s
    t.orders.firstPending = some (0, { orderOf 1 [] with broadcast := true }) ∧ (t.out .tb).mgmt = [⟨.order 0 1 7 [], some 0⟩] ∧
      t.orders.hub.side = .ta := by decide +kernel

theorem test_unroutable_order :
    ((after (.packetEnd (.trunk .ta) (Packet.order 2 1 7 []).wire) numbered).trunks.get .ta).counters.unroutable = 1 := by decide +kernel

theorem test_poisoned_order_is_counted :
    ((after (.poisonedArrival (.trunk .ta) (Packet.order 3 1 7 []).wire) numbered).trunks.get .ta).counters.poisoned = 1 := by
  decide +kernel

theorem test_stale_offers_a_source_notice :
    (after (.frameAgeStale 0) running).orders.queue = [.source 0 .live .stale] ∧
      ((after (.frameAgeStale 0) running).channel 0).state = .stale := by decide +kernel

theorem test_presence_is_answered : (after .presence (ordered 1 [])).orders.queue = [.reply 7 1 (.done false)] := by decide +kernel

theorem test_set_hub_starts_the_silence_timer :
    (after .setHub (ordered 2 [1, 0])).orders.hub.silenceTimer = some 255000 ∧
      (after .setHub (ordered 2 [1, 0])).orders.queue = [.reply 7 2 (.done true)] := by decide +kernel

theorem test_restart_port_takes_the_link_down :
    (after .restartPort (withOrder running 4 [8])).orders.queue = [.link (.trunk .ta) .up .down, .reply 7 4 (.done false)] := by
  decide +kernel

/-- R22, R45, R46, R62, R145: stream 5, its frame 9 open, goes from IC0 and TA to IC1, which AL0 watches. -/
theorem test_load_stream_reroutes :
    let s := (withOrder running 5 reroute5).updAlert 0 (fun e => { e with
      demand := true, pulse := some ⟨true, 0⟩, line := true
      settings := { e.settings with mode := .auto, channels := 1, stateCondition := .lost } })
    let t := after .loadStream s
    t.orders.queue = [.source 0 .live .unbound, .source 1 .unbound .waiting, .reply 7 5 (.done false)] ∧
      (t.out .ta).video = [.frameClose 5 9 .cut] ∧ (t.channel 0).counters.incomplete = 1 ∧ (t.channel 1).state = .waiting ∧
      (Tab.get t.alerts 0).demand = false := by decide +kernel

theorem test_load_stream_in_use :
    (after .loadStream (withOrder running 5 loadStream5)).orders.queue = [.reply 7 5 (.refused .inUse)] := by decide +kernel

theorem test_pin_is_chosen :
    Tab.get (after .pinView (ordered 11 [1, 31, 16])).selector.chosen 1 = ⟨31, .pin⟩ ∧
      (after .pinView (ordered 11 [1, 31, 16])).orders.queue = [.view 1 0 31 .pin, .reply 7 11 (.done true)] := by decide +kernel

theorem test_trigger_claims_at_once :
    Tab.get (after .loadTrigger (ordered 9 [15, 1, 0, 1, 0, 0, 1, 4, 0, 0])).selector.chosen 0 = ⟨4, .trigger 15⟩ := by decide +kernel

theorem test_filter_wait_ends :
    ((after (.filterWaitExpiry 3) doorWaiting).door 3).filtered = true ∧ ((after (.filterWaitExpiry 3) doorWaiting).door 3).wait = none := by
  decide +kernel

theorem test_frame_start_of_an_empty_view_releases :
    Tab.get ((after (.outputFrameStart 0) running).screen 0).held 0 = none ∧
      (((after (.outputFrameStart 0) running).channel 0).slot 0).readers = 0 ∧
      (after (.outputFrameStart 0) running).framePixel 0 700 400 = some ⟨96, 128⟩ ∧
      (after (.outputFrameStart 0) running).framePixel 0 1280 400 = none := by decide +kernel

theorem test_disabled_screen_is_black :
    let s := running.updScreen 0 (fun x => { x with enable := false })
    (after (.outputFrameStart 0) s).framePixel 0 0 0 = some ⟨16, 128⟩ := by decide +kernel

theorem test_pulse_turns_the_line :
    (Tab.get (after (.pulseBoundary 1) pulsing).alerts 1).line = false ∧ (after (.pulseBoundary 1) pulsing).alertHigh 1 = false := by
  decide +kernel

theorem test_learn_starts : ((after .learn (ordered 14 [7])).lens 7).state = .learning ∧ ((after .learn (ordered 14 [7])).lens 7).target = 8 := by
  decide +kernel

theorem test_notice_moves_with_its_lost_count :
    let s := (noticeWaiting .ta running).updHub (fun h => { h with number := 3, lost := 9 })
    ((after .noticeMove s).out .ta).mgmt = [⟨.notice 3 3 0 9 [3], none⟩] ∧ (after .noticeMove s).orders.queue = [] := by decide +kernel

theorem test_unknown_code : (after .badCode (ordered 21 [5])).orders.queue = [.reply 7 21 (.refused .badCode)] := by decide +kernel

theorem test_reset_hub_keeps_its_tag :
    (after .resetHub (ordered 20 [])).orders.hub.cause = .order ∧ (after .resetHub (ordered 20 [])).loader.resetTag = some 7 := by
  decide +kernel

theorem test_erased_flash_is_absent :
    (after (.imageJudged true) State.reset).orders.queue = [.start none .power .absent 0 0] ∧
      (after (.imageJudged true) State.reset).loader.phase = .ready := by decide +kernel

theorem test_refused_entry_is_counted :
    let s := { applying with loader := { ready.loader with phase := .applying [⟨.alert, [4, 0, 0, 0, 0, 0, 0, 0, 0]⟩] } }
    (after .imageEntryApply s).orders.hub.refused = 1 ∧
      (after .imageEntryApply s).orders.queue = [.start none .power .absent 0 1] := by decide +kernel

theorem test_last_page_ends_the_save :
    (after .pageDone (saving (.programming 0))).orders.queue = [.reply 7 19 (.done false)] ∧
      (after .pageDone (saving (.programming 0))).flash.read 255 = 1 := by decide +kernel

theorem test_erase_timeout_fails_the_save :
    (after .eraseTimeout (saving .erasing)).orders.queue = [.reply 7 19 .flashTimeout] := by decide +kernel

end Sys2Proof.Tests
end

/-! # Proofs: commands

What a command makes of the hub, and how an invariant is carried over a step. -/

namespace Sys2Proof.Machine

/-- A camera port changed in all but its receiver leaves every receiver as it is. -/
theorem State.rx_updCam_of_eq {s : State} {i : Fin 8} {f : CameraPort → CameraPort}
    (hf : (f (Tab.get s.cams i)).rx = (Tab.get s.cams i).rx) (q : Port) : (s.updCam i f).rx q = s.rx q := by
  cases q with
  | cam j =>
    simp only [State.rx, State.updCam_cams, Tab.get_upd]
    split
    · next e => rw [hf, e]
    · rfl
  | trunk u => rfl

/-- What each command makes of a hub that is not held in reset. -/
def State.onCommand (s : State) : Instr → State
  | .powerOn straps => s.takeReset .power none false straps
  | .resetLineAsserted => s.takeReset .line none true s.straps
  | .resetLineReleased _ => s
  | .framingFault p cause bytes => s.packetOver p bytes (cause ≠ .startInside) (fun s => s.framingFault p cause bytes)
  | .lineHeader p stream frame line =>
    if s.receives p then (s.clearUnformed p).takeHeader p stream frame.toNat line.toNat
    else (s.setIgnoring p false).markUnformed p ⟨s.arrivalStream p stream, frame.toNat, line.toNat⟩
  | .packetEnd p bytes => s.packetOver p bytes false (fun s => s.packetEnd p bytes)
  | .poisonedArrival p bytes => s.packetOver p bytes false (fun s => s.poisonedArrival p bytes)
  | .linkUp p => s.linkUp p
  | .linkDown p arrived => s.linkDown p arrived
  | .restartHoldEnd p => s.updRx p (fun x => { x with hold := none })
  | .transmissionStart u => if s.canStart u then s.updOut u Output.startNext else s
  | .transmissionEnd u => s.transmissionEnd u
  | .frameAgeStale c => s.channelEvent c Channel.ageStale
  | .frameAgeLost c => s.channelEvent c Channel.ageLost
  | .doorLineChange d level => s.doorChange d level
  | .filterWaitExpiry d => s.filterExpiry d
  | .lingerExpiry n => s.lingerExpiry n
  | .silenceExpiry => s.silenceExpiry
  | .outputFrameStart sc => s.frameStart sc
  | .pulseBoundary a => s.updAlert a Alert.atBoundary
  | .noticeMove => s.moveNotice
  | .presence => s.runOrder 1 0 (fun _ s => (s, .done false))
  | .setHub => s.runOrder 2 2 setHubEffect
  | .setPort => s.runOrder 3 4 setPortEffect
  | .restartPort => s.runOrder 4 1 restartPortEffect
  | .loadStream => s.runOrder 5 8 loadStreamEffect
  | .setChannel => s.runOrder 6 6 setChannelEffect
  | .loadView => s.onOrder (fun c => c = 7) (fun i o s =>
      (s.carryOut true (loadViewEffect o.params)).1.answer i o (s.carryOut true (loadViewEffect o.params)).2)
  | .setScreen => s.runOrder 8 3 setScreenEffect
  | .loadTrigger => s.runOrder 9 10 loadTriggerEffect
  | .setLines => s.runOrder 10 11 setLinesEffect
  | .pinView => s.runOrder 11 3 pinViewEffect
  | .releaseView => s.runOrder 12 1 releaseViewEffect
  | .loadProfile => s.runOrder 13 13 loadProfileEffect
  | .learn => s.runOrder 14 1 learnEffect
  | .setAlert => s.runOrder 15 9 setAlertEffect
  | .query => s.runOrder 16 3 queryEffect
  | .queryZones => s.runOrder 17 1 queryZonesEffect
  | .clearCounts => s.runOrder 18 2 clearCountsEffect
  | .saveSettings => s.onOrder (fun c => c = 19) (fun i o s => s.saveSettings i o)
  | .resetHub => s.onOrder (fun c => c = resetHubCode) (fun i o s => s.resetHub i o)
  | .badCode => s.onOrder (fun c => !knownCode c) (fun i o s =>
      (s.carryOut true (fun s => (s, .refused .badCode))).1.answer i o
        (s.carryOut true (fun s => (s, .refused .badCode))).2)
  | .eraseDone => s.eraseDone
  | .eraseTimeout => s.eraseTimeout
  | .pageDone => s.pageDone
  | .pageTimeout => s.pageTimeout
  | .imageJudged answers => s.judgeLoad answers
  | .imageEntryApply => s.applyNext

/-- What each command makes of a hub that is held in reset (R171, entry 3). -/
def State.onCommandHeld (s : State) : Instr → State
  | .powerOn straps => s.takeReset .power none false straps
  | .resetLineReleased straps => s.exitReset straps
  | .doorLineChange d level => s.updDoor d (fun l => { l with raw := level, filtered := level })
  | _ => s

/-- Every command has a next state. -/
theorem exec_eq (c : Instr) (s : State) : exec c s = .next (if s.held then s.onCommandHeld c else s.onCommand c) := by
  cases c with
  | powerOn straps => cases h : s.held <;> rfl
  | resetLineReleased straps => cases h : s.held <;> simp only [exec, execResetLineReleased, h] <;> rfl
  | resetLineAsserted => cases h : s.held <;> simp only [exec, execResetLineAsserted, h] <;> rfl
  | doorLineChange d level => cases h : s.held <;> simp only [exec, execDoorLineChange, h] <;> rfl
  | _ => rfl

theorem exec_of_running {s : State} (h : s.held = false) (c : Instr) : exec c s = .next (s.onCommand c) := by
  rw [exec_eq, h]
  rfl

/-- An invariant that every command and 1 ms of time keep, whatever commands wait, is kept by every step. -/
theorem step_keeps {P : State → Prop} (hpending : ∀ (s : State) l, P s → P { s with pending := l })
    (hrun : ∀ (s : State) (c : Instr), s.held = false → P s → P (s.onCommand c))
    (hheld : ∀ (s : State) (c : Instr), s.held = true → P s → P (s.onCommandHeld c)) (htick : ∀ s : State, P s → P s.tick)
    {s t : State} (h : P s) (e : step s = .next t) : P t := by
  have hexec : ∀ (c : Instr) (s : State), P s → exec c s = .next t → P t := fun c s hs he => by
    rw [exec_eq] at he
    injection he with he
    subst he
    split
    · next hd => exact hheld s c hd hs
    · next hd => exact hrun s c (Bool.eq_false_iff.mpr hd) hs
  unfold step at e
  split at e
  · exact hexec _ _ (hpending s _ h) e
  · split at e
    · exact hexec _ s h e
    · injection e with e
      subst e
      unfold State.idle
      split
      · exact h
      · exact htick s h

end Sys2Proof.Machine

/-! # Proofs: counters

Counters stay within their limits (spec 00 section 1.4.4): every operation keeps the limits, and so does every step. -/

namespace Sys2Proof.Machine

@[simp] theorem bumpError_le (n k : Nat) : bumpError n k ≤ 255 := Nat.min_le_right _ _

@[simp] theorem bumpTraffic_le (n k : Nat) : bumpTraffic n k ≤ 65535 := Nat.min_le_right _ _

/-- The counters of the hub record keep their limits. -/
def HubRecord.WithinLimits (h : HubRecord) : Prop := h.overflow ≤ 255 ∧ h.lost ≤ 255 ∧ h.refused ≤ 65535

theorem State.countersWithinLimits_iff (s : State) :
    s.CountersWithinLimits ↔ (∀ p, (s.rx p).counters.WithinLimits) ∧ (∀ t, (s.trunks.get t).counters.WithinLimits) ∧
      (∀ c, (s.channel c).counters.WithinLimits) ∧ s.orders.hub.WithinLimits := Iff.rfl

/-! ## Records -/

theorem HubRecord.WithinLimits.stopSilence {h : HubRecord} (hh : h.WithinLimits) : h.stopSilence.WithinLimits := hh

theorem HubRecord.WithinLimits.restartSilence {h : HubRecord} (hh : h.WithinLimits) : h.restartSilence.WithinLimits := by
  unfold HubRecord.restartSilence
  split
  · exact hh.stopSilence
  · exact hh

theorem OrderUnit.offer_withinLimits {u : OrderUnit} (h : u.hub.WithinLimits) (n : Notice) : (u.offer n).hub.WithinLimits := by
  unfold OrderUnit.offer
  split
  · exact h
  · exact ⟨h.1, bumpError_le _ _, h.2.2⟩

theorem OrderUnit.offerOrder_withinLimits {u : OrderUnit} (h : u.hub.WithinLimits) (o : HeldOrder) :
    (u.offerOrder o).hub.WithinLimits := by
  unfold OrderUnit.offerOrder
  split
  · exact h
  · exact ⟨bumpError_le _ _, h.2⟩

theorem OrderUnit.consume_withinLimits {u : OrderUnit} (h : u.hub.WithinLimits) (a : Trunk) (b : Bool) (code tag : Byte)
    (params : List Byte) : (u.consume a b code tag params).hub.WithinLimits := by
  have hside : { u.hub with side := .ofTrunk a }.WithinLimits := h
  exact OrderUnit.offerOrder_withinLimits hside.restartSilence _

/-- A channel operation keeps the channel's counters within their limits. -/
def Channel.KeepsLimits (f : Channel → Channel) : Prop := ∀ c : Channel, c.counters.WithinLimits → (f c).counters.WithinLimits

/-- An operation that leaves the counters of a channel as they are keeps their limits. -/
theorem Channel.KeepsLimits.of_eq {f : Channel → Channel} (h : ∀ c, (f c).counters = c.counters) : Channel.KeepsLimits f :=
  fun c hc => (h c).symm ▸ hc

theorem Channel.keepsLimits_strayPacket : Channel.KeepsLimits Channel.strayPacket :=
  fun _ ⟨hp, hi, hd, ha, ho, _⟩ => ⟨hp, hi, hd, ha, ho, bumpTraffic_le _ _⟩

theorem Channel.keepsLimits_abandonIntake : Channel.KeepsLimits Channel.abandonIntake := by
  intro c hc
  unfold Channel.abandonIntake
  split
  · exact hc
  · obtain ⟨hp, _, hd, ha, ho, hs⟩ := hc
    exact ⟨hp, bumpTraffic_le _ _, hd, ha, ho, hs⟩
  · exact hc

theorem Channel.keepsLimits_bind (k : Fin 256) : Channel.KeepsLimits (Channel.bind k) := .of_eq fun _ => rfl

theorem Channel.keepsLimits_unbind : Channel.KeepsLimits Channel.unbind := fun c hc => keepsLimits_abandonIntake c hc

theorem Channel.keepsLimits_frameOpen (frame : Nat) (grade : Grade) (home : Nat) :
    Channel.KeepsLimits (Channel.frameOpen frame grade home) := by
  intro c hc
  unfold Channel.frameOpen
  split
  · exact hc
  · have ha : c.abandonIntake.counters.WithinLimits := keepsLimits_abandonIntake c hc
    dsimp only
    split
    · exact ha
    · obtain ⟨hp, hi, _, ha, ho, hs⟩ := ha
      exact ⟨hp, hi, bumpTraffic_le _ _, ha, ho, hs⟩

theorem Channel.keepsLimits_line (frame line : Nat) (pixels : List Byte) (poisoned : Bool) :
    Channel.KeepsLimits (Channel.line frame line pixels poisoned) := by
  intro c hc
  have hstray := keepsLimits_strayPacket c hc
  unfold Channel.line
  split
  · exact hstray
  · split
    · exact hc
    · exact hstray
  · split
    · split
      · obtain ⟨hp, hi, hd, ha, _, hs⟩ := hc
        exact ⟨hp, hi, hd, ha, bumpTraffic_le _ _, hs⟩
      · exact hc
    · exact hstray

theorem Channel.keepsLimits_publish (i : Fin 3) (missing : List Nat) : Channel.KeepsLimits (Channel.publish i missing) :=
  fun _ ⟨_, hi, hd, _, ho, hs⟩ => ⟨bumpTraffic_le _ _, hi, hd, bumpTraffic_le _ _, ho, hs⟩

theorem Channel.keepsLimits_frameClose (frame : Nat) (status : CloseStatus) :
    Channel.KeepsLimits (Channel.frameClose frame status) := by
  intro c hc
  have hstray := keepsLimits_strayPacket c hc
  unfold Channel.frameClose
  split
  · exact hstray
  · split
    · exact hc
    · exact hstray
  · split
    · dsimp only
      split
      · exact keepsLimits_abandonIntake c hc
      · exact keepsLimits_publish _ _ c hc
    · exact hstray

theorem Channel.keepsLimits_release (sc : Fin 2) : Channel.KeepsLimits (Channel.release sc) := .of_eq fun _ => rfl

theorem Channel.keepsLimits_take (sc : Fin 2) : Channel.KeepsLimits (Channel.take sc) := by
  refine .of_eq fun c => ?_
  unfold Channel.take
  (repeat' split) <;> rfl

theorem Channel.keepsLimits_ageStale : Channel.KeepsLimits Channel.ageStale :=
  .of_eq fun c => by unfold Channel.ageStale; split <;> rfl

theorem Channel.keepsLimits_ageLost : Channel.KeepsLimits Channel.ageLost :=
  .of_eq fun c => by unfold Channel.ageLost; split <;> rfl

theorem Channel.keepsLimits_compareStale : Channel.KeepsLimits Channel.compareStale :=
  .of_eq fun c => by unfold Channel.compareStale; split <;> rfl

theorem Channel.keepsLimits_compareLost : Channel.KeepsLimits Channel.compareLost :=
  .of_eq fun c => by unfold Channel.compareLost; split <;> rfl

namespace State.CountersWithinLimits

/-! ## Updates of one record -/

variable {s : State}

/-- The limits depend on the ports, the channels and the hub record alone. -/
theorem congr {t : State} (h : s.CountersWithinLimits) (hc : t.cams = s.cams) (ht : t.trunks = s.trunks)
    (hch : t.channels = s.channels) (ho : t.orders.hub = s.orders.hub) : t.CountersWithinLimits := by
  obtain ⟨hrx, htr, hcn, hub⟩ := h
  refine ⟨fun p => ?_, fun u => ?_, fun c => ?_, ?_⟩
  · rw [rx_congr hc ht]; exact hrx p
  · rw [ht]; exact htr u
  · rw [channel_congr hch]; exact hcn c
  · rw [ho]; exact hub

/-- The order unit may change as long as the counters of its hub record keep their limits. -/
theorem withOrders {t : State} (h : s.CountersWithinLimits) (hc : t.cams = s.cams) (ht : t.trunks = s.trunks)
    (hch : t.channels = s.channels) (ho : t.orders.hub.WithinLimits) : t.CountersWithinLimits := by
  obtain ⟨hrx, htr, hcn, -⟩ := h
  refine ⟨fun p => ?_, fun u => ?_, fun c => ?_, ho⟩
  · rw [rx_congr hc ht]; exact hrx p
  · rw [ht]; exact htr u
  · rw [channel_congr hch]; exact hcn c

theorem hub (h : s.CountersWithinLimits) : s.orders.hub.WithinLimits := h.2.2.2

theorem updRx (h : s.CountersWithinLimits) (p : Port) (f : Receiver → Receiver)
    (hf : (f (s.rx p)).counters.WithinLimits) : (s.updRx p f).CountersWithinLimits := by
  obtain ⟨hrx, htr, hcn, hub⟩ := h
  refine ⟨fun q => ?_, fun u => ?_, fun c => ?_, ?_⟩
  · rw [rx_updRx]
    split
    · exact hf
    · exact hrx q
  · rw [trunkCounters_updRx]; exact htr u
  · rw [channel_congr (updRx_channels s p f)]; exact hcn c
  · rw [updRx_orders]; exact hub

theorem updArrivals (h : s.CountersWithinLimits) (p : Port) (f : ArrivalCounters → ArrivalCounters)
    (hf : ∀ c : ArrivalCounters, c.WithinLimits → (f c).WithinLimits) : (s.updArrivals p f).CountersWithinLimits :=
  h.updRx p _ (hf _ (h.1 p))

theorem updTrunkCounters (h : s.CountersWithinLimits) (t : Trunk) (f : TrunkCounters → TrunkCounters)
    (hf : ∀ c : TrunkCounters, c.WithinLimits → (f c).WithinLimits) : (s.updTrunkCounters t f).CountersWithinLimits := by
  obtain ⟨hrx, htr, hcn, hub⟩ := h
  refine ⟨fun q => ?_, fun u => ?_, hcn, hub⟩
  · rw [rx_updTrunkCounters]; exact hrx q
  · rw [State.updTrunkCounters_trunks, Duo.get_upd]
    split
    · exact hf _ (htr t)
    · exact htr u

theorem updOut (h : s.CountersWithinLimits) (t : Trunk) (f : Output → Output) : (s.updOut t f).CountersWithinLimits := by
  obtain ⟨hrx, htr, hcn, hub⟩ := h
  refine ⟨fun q => ?_, fun u => ?_, hcn, hub⟩
  · rw [rx_updOut]; exact hrx q
  · rw [trunkCounters_updOut]; exact htr u

/-- A camera port may change in all but its receiver. -/
theorem updCam (h : s.CountersWithinLimits) {i : Fin 8} {f : CameraPort → CameraPort}
    (hf : (f (Tab.get s.cams i)).rx = (Tab.get s.cams i).rx) : (s.updCam i f).CountersWithinLimits := by
  obtain ⟨hrx, htr, hcn, hub⟩ := h
  refine ⟨fun q => ?_, htr, hcn, hub⟩
  rw [rx_updCam_of_eq hf]
  exact hrx q

theorem setOpenFrame (h : s.CountersWithinLimits) (i : Fin 8) (o : Option OpenFrame) :
    (s.updCam i (fun c => { c with openFrame := o })).CountersWithinLimits := h.updCam rfl

theorem updChannel (h : s.CountersWithinLimits) (c : Fin 12) {f : Channel → Channel} (hf : Channel.KeepsLimits f) :
    (s.updChannel c f).CountersWithinLimits := by
  obtain ⟨hrx, htr, hcn, hub⟩ := h
  refine ⟨fun q => ?_, htr, fun d => ?_, hub⟩
  · rw [rx_updChannel]; exact hrx q
  · simp only [State.channel, updChannel_channels, Tab.get_upd]
    split
    · exact hf _ (hcn c)
    · exact hcn d

theorem updStream (h : s.CountersWithinLimits) (k : Fin 256) (f : StreamRecord → StreamRecord) :
    (s.updStream k f).CountersWithinLimits := h.congr rfl rfl rfl rfl

theorem updFlow (h : s.CountersWithinLimits) (k : Fin 256) (f : StreamFlow → StreamFlow) : (s.updFlow k f).CountersWithinLimits :=
  h.congr rfl rfl rfl rfl

theorem updLens (h : s.CountersWithinLimits) (i : Fin 8) (f : Lens → Lens) : (s.updLens i f).CountersWithinLimits :=
  h.congr rfl rfl rfl rfl

theorem updScreen (h : s.CountersWithinLimits) (sc : Fin 2) (f : Screen → Screen) : (s.updScreen sc f).CountersWithinLimits :=
  h.congr rfl rfl rfl rfl

theorem updHub (h : s.CountersWithinLimits) (f : HubRecord → HubRecord) (hf : (f s.orders.hub).WithinLimits) :
    (s.updHub f).CountersWithinLimits := h.withOrders rfl rfl rfl hf

theorem offer (h : s.CountersWithinLimits) (n : Notice) : (s.offer n).CountersWithinLimits :=
  h.withOrders rfl rfl rfl (OrderUnit.offer_withinLimits h.hub n)

theorem offerIf (h : s.CountersWithinLimits) (b : Bool) (n : Notice) : (s.offerIf b n).CountersWithinLimits := by
  cases b
  · exact h
  · exact h.offer n

/-- A fold keeps the limits that each of its steps keeps. -/
theorem foldl {β : Type} {f : State → β → State} (hf : ∀ (s : State) b, s.CountersWithinLimits → (f s b).CountersWithinLimits)
    (l : List β) (h : s.CountersWithinLimits) : (l.foldl f s).CountersWithinLimits := by
  induction l generalizing s with
  | nil => exact h
  | cons b rest ih => exact ih (hf s b h)

/-- Whichever of two states a condition chooses keeps the limits when both do. -/
theorem ite {b : Prop} [Decidable b] {x y : State} (hx : x.CountersWithinLimits) (hy : y.CountersWithinLimits) :
    (if b then x else y).CountersWithinLimits := by
  split
  · exact hx
  · exact hy

/-! ## Channels and lens records -/

theorem evalAlertsWhere (h : s.CountersWithinLimits) (m : AlertSettings → Bool) :
    (s.evalAlertsWhere m).CountersWithinLimits := h.congr rfl rfl rfl rfl

theorem channelEvent (h : s.CountersWithinLimits) (c : Fin 12) {f : Channel → Channel} (hf : Channel.KeepsLimits f) :
    (s.channelEvent c f).CountersWithinLimits := by
  have hn := fun b n => (h.updChannel c hf).offerIf b n
  unfold State.channelEvent
  dsimp only
  split
  · exact (hn _ _).evalAlertsWhere _
  · exact hn _ _

theorem lensEvent (h : s.CountersWithinLimits) (i : Fin 8) (f : Lens → Lens × Option LearnEnd) :
    (s.lensEvent i f).CountersWithinLimits := by
  have hn := fun g b n => (h.updLens i g).offerIf b n
  unfold State.lensEvent
  dsimp only
  split
  · exact (ite ((hn _ _ _).evalAlertsWhere _) (hn _ _ _)).offer _
  · exact ite ((hn _ _ _).evalAlertsWhere _) (hn _ _ _)

theorem endOpenFrame (h : s.CountersWithinLimits) (i : Fin 8) (complete : Bool) : (s.endOpenFrame i complete).CountersWithinLimits := by
  unfold State.endOpenFrame
  split
  · exact h
  · exact (h.setOpenFrame i _).lensEvent i _

theorem openCameraFrame (h : s.CountersWithinLimits) (i : Fin 8) (frame : Nat) : (s.openCameraFrame i frame).CountersWithinLimits :=
  ((h.endOpenFrame i false).setOpenFrame i _).updLens i _

theorem cameraLine (h : s.CountersWithinLimits) (i : Fin 8) (frame line : Nat) (pixels : List Byte) :
    (s.cameraLine i frame line pixels).CountersWithinLimits := by
  unfold State.cameraLine
  (repeat' split)
  · exact h
  · exact (h.setOpenFrame i _).updLens i _
  · exact h

theorem closeCameraFrame (h : s.CountersWithinLimits) (i : Fin 8) (frame : Nat) (status : CloseStatus) :
    (s.closeCameraFrame i frame status).CountersWithinLimits := by
  unfold State.closeCameraFrame
  (repeat' split)
  · exact h
  · exact h.endOpenFrame i _
  · exact h

theorem loseCameraFrame (h : s.CountersWithinLimits) (i : Fin 8) : (s.loseCameraFrame i).CountersWithinLimits :=
  (h.endOpenFrame i false).updLens i _

theorem lensEventsOfProfile (h : s.CountersWithinLimits) (lp : Fin 4) (f : Lens → Lens × Option LearnEnd) :
    (s.lensEventsOfProfile lp f).CountersWithinLimits := by
  refine foldl (fun s i hs => ?_) _ h
  split
  · exact hs.lensEvent i f
  · exact hs

/-! ## Trunk outputs -/

theorem countQueueCuts (h : s.CountersWithinLimits) (t : Trunk) (k : Nat) : (s.countQueueCuts t k).CountersWithinLimits :=
  h.updTrunkCounters t _ fun _ ⟨hp, hu, hs, _, hd⟩ => ⟨hp, hu, hs, bumpTraffic_le _ _, hd⟩

theorem setCut (h : s.CountersWithinLimits) (t : Trunk) (k : Fin 256) : (s.setCut t k).CountersWithinLimits := h.updFlow k _

theorem offerMgmt (h : s.CountersWithinLimits) (t : Trunk) (e : MgmtEntry) : (s.offerMgmt t e).CountersWithinLimits := by
  unfold State.offerMgmt
  (repeat' split)
  · exact h
  · exact h.updOut t _
  · exact h.updTrunkCounters t _ fun _ ⟨hp, hu, hs, hq, _⟩ => ⟨hp, hu, hs, hq, bumpTraffic_le _ _⟩

theorem forward (h : s.CountersWithinLimits) (a t : Trunk) (e : MgmtEntry) : (s.forward a t e).CountersWithinLimits := by
  unfold State.forward
  split
  · exact h.updTrunkCounters a _ fun _ ⟨hp, _, hs, hq, hd⟩ => ⟨hp, bumpTraffic_le _ _, hs, hq, hd⟩
  · exact h.offerMgmt t e

theorem sendControl (h : s.CountersWithinLimits) (t : Trunk) (k : Fin 256) (p : Packet) : (s.sendControl t k p).CountersWithinLimits := by
  unfold State.sendControl
  dsimp only
  (repeat' split)
  · exact h
  · exact h.updOut t _
  · exact (h.updOut t _).countQueueCuts t _

theorem offerLine (h : s.CountersWithinLimits) (t : Trunk) (k : Fin 256) (p : Packet) : (s.offerLine t k p).CountersWithinLimits := by
  unfold State.offerLine
  (repeat' split)
  · exact h.setCut t k
  · exact h.countQueueCuts t 1
  · exact (h.setCut t k).countQueueCuts t 1
  · exact h.updOut t _

theorem endTransmission (h : s.CountersWithinLimits) (t : Trunk) (tx : Transmission) : (s.endTransmission t tx).CountersWithinLimits :=
  (h.updOut t _).updTrunkCounters t _ fun _ ⟨hp, hu, _, hq, hd⟩ => ⟨hp, hu, bumpTraffic_le _ _, hq, hd⟩

theorem transmissionEnd (h : s.CountersWithinLimits) (t : Trunk) : (s.transmissionEnd t).CountersWithinLimits := by
  unfold State.transmissionEnd
  split
  · exact h.endTransmission t _
  · exact h
  · exact h

theorem outputLinkDown (h : s.CountersWithinLimits) (t : Trunk) : (s.outputLinkDown t).CountersWithinLimits :=
  (h.updOut t (fun o => { o with mgmt := [], video := [], waiting := [], sending := .idle })).congr rfl rfl rfl rfl

/-! ## The switch -/

theorem sendIfRouted (h : s.CountersWithinLimits) (e : StreamEntry) (t : Trunk) (k : Fin 256) (p : Packet) :
    (s.sendIfRouted e t k p).CountersWithinLimits := by
  unfold State.sendIfRouted
  split
  · exact h.sendControl t k p
  · exact h

theorem deliver (h : s.CountersWithinLimits) (e : StreamEntry) {f : Channel → Channel} (hf : Channel.KeepsLimits f) :
    (s.deliver e f).CountersWithinLimits := by
  unfold State.deliver
  split
  · exact h.channelEvent _ hf
  · exact h

theorem closeCut (h : s.CountersWithinLimits) (k : Fin 256) : (s.closeCut k).CountersWithinLimits :=
  (((h.sendIfRouted _ .ta k _).sendIfRouted _ .tb k _).deliver _ (Channel.keepsLimits_frameClose _ _)).updFlow k _

theorem closeIfOpen (h : s.CountersWithinLimits) (k : Fin 256) : (s.closeIfOpen k).CountersWithinLimits := by
  unfold State.closeIfOpen
  split
  · exact h.closeCut k
  · exact h

theorem originLoss (h : s.CountersWithinLimits) (p : Port) : (s.originLoss p).CountersWithinLimits := by
  refine foldl (fun s k hs => ?_) _ h
  dsimp only
  split
  · exact hs.closeCut k
  · exact hs

theorem countUnrouted (h : s.CountersWithinLimits) (p : Port) : (s.countUnrouted p).CountersWithinLimits :=
  h.updArrivals p _ fun _ ⟨hf, hc, hs, hr, _, hm, hy⟩ => ⟨hf, hc, hs, hr, bumpTraffic_le _ _, hm, hy⟩

theorem countMisrouted (h : s.CountersWithinLimits) (p : Port) : (s.countMisrouted p).CountersWithinLimits :=
  h.updArrivals p _ fun _ ⟨hf, hc, hs, hr, hu, _, hy⟩ => ⟨hf, hc, hs, hr, hu, bumpTraffic_le _ _, hy⟩

theorem countStray (h : s.CountersWithinLimits) (p : Port) : (s.countStray p).CountersWithinLimits :=
  h.updArrivals p _ fun _ ⟨hf, hc, hs, hr, hu, hm, _⟩ => ⟨hf, hc, hs, hr, hu, hm, bumpTraffic_le _ _⟩

theorem switchFrameOpen (h : s.CountersWithinLimits) (p : Port) (k : Fin 256) (frame : Nat) (grade : Grade) (home : Nat) :
    (s.switchFrameOpen p k frame grade home).CountersWithinLimits := by
  unfold State.switchFrameOpen
  split
  · exact h.countUnrouted p
  · exact h.countMisrouted p
  · exact ((((h.closeIfOpen k).updFlow k _).sendIfRouted _ .ta k _).sendIfRouted _ .tb k _).deliver _
      (Channel.keepsLimits_frameOpen frame grade home)

theorem switchFrameClose (h : s.CountersWithinLimits) (p : Port) (k : Fin 256) (frame : Nat) (status : CloseStatus) :
    (s.switchFrameClose p k frame status).CountersWithinLimits := by
  unfold State.switchFrameClose
  dsimp only
  (repeat' split)
  · exact h.countUnrouted p
  · exact h.countMisrouted p
  · exact (((h.updFlow k _).sendIfRouted _ .ta k _).sendIfRouted _ .tb k _).deliver _
      (Channel.keepsLimits_frameClose frame status)
  · exact h.countStray p

theorem applyDecision (h : s.CountersWithinLimits) (p : Port) (k : Fin 256) (t : Trunk) (d : LineDecision) :
    (s.applyDecision p k t d).CountersWithinLimits := by
  cases d with
  | discardedDown => exact h.setCut t k
  | cutThrough => exact h.updOut t _
  | offRoute => exact h
  | discardedCut => exact h
  | stored => exact h

theorem switchLineHeader (h : s.CountersWithinLimits) (p : Port) (k : Fin 256) (frame line : Nat) :
    (s.switchLineHeader p k frame line).CountersWithinLimits :=
  ((h.updRx p _ (h.1 p)).applyDecision p k .ta _).applyDecision p k .tb _

theorem endCutThrough (h : s.CountersWithinLimits) (p : Port) (t : Trunk) (tx : Transmission) :
    (s.endCutThrough p t tx).CountersWithinLimits := by
  unfold State.endCutThrough
  split
  · exact h.endTransmission t tx
  · exact h

theorem settleCopy (h : s.CountersWithinLimits) (a : LineArrival) (report : EndReport) (pixels : List Byte) (t : Trunk) :
    (s.settleCopy a report pixels t).CountersWithinLimits := by
  unfold State.settleCopy
  split
  · exact h.offerLine t _ _
  · exact h.setCut t _
  · exact h
  · exact h.countQueueCuts t 1
  · exact h

theorem countHeaderCut (h : s.CountersWithinLimits) (a : LineArrival) (t : Trunk) : (s.countHeaderCut a t).CountersWithinLimits := by
  unfold State.countHeaderCut
  split
  · exact h.countQueueCuts t 1
  · exact h

theorem settleLine (h : s.CountersWithinLimits) (p : Port) (a : LineArrival) (report : EndReport) (bytes : List Byte) :
    (s.settleLine p a report bytes).CountersWithinLimits := by
  by_cases ho : s.StillOpen a
  · have hy := fun pixels => (h.settleCopy a report pixels .ta).settleCopy a report pixels .tb
    rw [settleLine_open ho]
    cases report with
    | good => exact (hy _).deliver _ (Channel.keepsLimits_line _ _ _ _)
    | poisoned => exact (hy _).deliver _ (Channel.keepsLimits_line _ _ _ _)
    | failed => exact hy _
  · rw [settleLine_closed ho]
    split
    · exact h
    · split
      · exact h.countUnrouted p
      · exact h.countMisrouted p
      · exact h.countStray p
      · exact ((h.countHeaderCut a .ta).countHeaderCut a .tb).countStray p

theorem reportLineEnd (h : s.CountersWithinLimits) (p : Port) (report : EndReport) (bytes : List Byte) :
    (s.reportLineEnd p report bytes).CountersWithinLimits := by
  unfold State.reportLineEnd
  split
  · exact h
  · exact (((h.updRx p _ (h.1 p)).endCutThrough p .ta _).endCutThrough p .tb _).settleLine p _ report bytes

theorem abandonArrival (h : s.CountersWithinLimits) (p : Port) : (s.abandonArrival p).CountersWithinLimits := by
  unfold State.abandonArrival
  split
  · exact h
  · have hr := reportLineEnd (h.congr (t := { s with freeUsed := s.freeUsed + 1 }) rfl rfl rfl rfl) p .failed
      (List.replicate 6 0 ++ Config.arrivedTail s.freeUsed)
    exact hr.updRx p _ (hr.1 p)

/-! ## Ports -/

theorem countReceived (h : s.CountersWithinLimits) (p : Port) : (s.countReceived p).CountersWithinLimits :=
  h.updArrivals p _ fun _ ⟨hf, hc, hs, _, hu, hm, hy⟩ => ⟨hf, hc, hs, bumpTraffic_le _ _, hu, hm, hy⟩

theorem countFraming (h : s.CountersWithinLimits) (p : Port) : (s.countFraming p).CountersWithinLimits :=
  h.updArrivals p _ fun _ ⟨_, hc, hs, hr, hu, hm, hy⟩ => ⟨bumpError_le _ _, hc, hs, hr, hu, hm, hy⟩

theorem countShape (h : s.CountersWithinLimits) (p : Port) : (s.countShape p).CountersWithinLimits :=
  h.updArrivals p _ fun _ ⟨hf, hc, _, hr, hu, hm, hy⟩ => ⟨hf, hc, bumpError_le _ _, hr, hu, hm, hy⟩

theorem countFault (h : s.CountersWithinLimits) (p : Port) (fault : PacketFault) : (s.countFault p fault).CountersWithinLimits := by
  cases fault with
  | check => exact h.updArrivals p _ fun _ ⟨hf, _, hs, hr, hu, hm, hy⟩ => ⟨hf, bumpError_le _ _, hs, hr, hu, hm, hy⟩
  | shape => exact h.countShape p

theorem countPoisoned (h : s.CountersWithinLimits) (p : Port) : (s.countPoisoned p).CountersWithinLimits := by
  cases p with
  | cam i => exact h
  | trunk t => exact h.updTrunkCounters t _ fun _ ⟨_, hu, hs, hq, hd⟩ => ⟨bumpError_le _ _, hu, hs, hq, hd⟩

theorem setIgnoring (h : s.CountersWithinLimits) (p : Port) (b : Bool) : (s.setIgnoring p b).CountersWithinLimits :=
  h.updRx p _ (h.1 p)

theorem clearUnformed (h : s.CountersWithinLimits) (p : Port) : (s.clearUnformed p).CountersWithinLimits := h.updRx p _ (h.1 p)

theorem markUnformed (h : s.CountersWithinLimits) (p : Port) (u : UnformedLine) : (s.markUnformed p u).CountersWithinLimits :=
  h.updRx p _ (h.1 p)

theorem judgeHighLine (h : s.CountersWithinLimits) (p : Port) : (s.judgeHighLine p).CountersWithinLimits :=
  (h.reportLineEnd p .failed []).countShape p

theorem takeHeader (h : s.CountersWithinLimits) (p : Port) (stream : Byte) (frame line : Nat) :
    (s.takeHeader p stream frame line).CountersWithinLimits := by
  unfold State.takeHeader
  split
  · exact ((h.judgeHighLine p).setIgnoring p true).markUnformed p _
  · exact ((h.reportLineEnd p .failed []).setIgnoring p false).switchLineHeader p _ frame line

theorem ensureHeader (h : s.CountersWithinLimits) (p : Port) (bytes : List Byte) : (s.ensureHeader p bytes).CountersWithinLimits := by
  unfold State.ensureHeader
  split
  · exact h
  · exact h.takeHeader p _ _ _

theorem framingFault (h : s.CountersWithinLimits) (p : Port) (cause : FramingCause) (bytes : List Byte) :
    (s.framingFault p cause bytes).CountersWithinLimits := by
  unfold State.framingFault
  dsimp only
  split
  · exact (h.judgeHighLine p).setIgnoring p _
  · split
    · exact (((((h.setIgnoring p false).ensureHeader p bytes).countFraming p).reportLineEnd p .failed bytes).setIgnoring p _)
    · exact ((h.countFraming p).reportLineEnd p .failed bytes).setIgnoring p _

theorem overLongEnd (h : s.CountersWithinLimits) (p : Port) (bytes : List Byte) : (s.overLongEnd p bytes).CountersWithinLimits := by
  unfold State.overLongEnd
  split
  · exact h.setIgnoring p false
  · exact (h.framingFault p .overLong bytes).setIgnoring p false

/-- A packet that is over keeps the limits when what the port does with it does. -/
theorem packetOver (h : s.CountersWithinLimits) (p : Port) (bytes : List Byte) (goesOn : Bool) (f : State → State)
    (hf : ∀ s : State, s.CountersWithinLimits → (f s).CountersWithinLimits) :
    (s.packetOver p bytes goesOn f).CountersWithinLimits := by
  unfold State.packetOver
  split
  · exact hf _ (h.clearUnformed p)
  · exact (h.clearUnformed p).setIgnoring p goesOn

theorem takeOrder (h : s.CountersWithinLimits) (a : Trunk) (dest code tag : Byte) (params : List Byte) :
    (s.takeOrder a dest code tag params).CountersWithinLimits := by
  have hc : ∀ b, (s.updOrders (fun u => u.consume a b code tag params)).CountersWithinLimits :=
    fun b => h.withOrders rfl rfl rfl (OrderUnit.consume_withinLimits h.hub a b code tag params)
  unfold State.takeOrder
  dsimp only
  (repeat' split)
  · exact (hc true).forward a _ _
  · exact h.forward a _ _
  · exact hc false
  · exact h.forward a _ _
  · exact h.forward a _ _

theorem handFrameOpen (h : s.CountersWithinLimits) (p : Port) (k : Fin 256) (frame : Nat) (grade : Grade) (home : Nat) :
    (s.handFrameOpen p k frame grade home).CountersWithinLimits := by
  have hr := h.countReceived p
  cases p with
  | cam i => exact (hr.openCameraFrame i frame).switchFrameOpen _ _ _ _ _
  | trunk t => exact hr.switchFrameOpen _ _ _ _ _

theorem handFrameClose (h : s.CountersWithinLimits) (p : Port) (k : Fin 256) (frame : Nat) (status : CloseStatus) :
    (s.handFrameClose p k frame status).CountersWithinLimits := by
  have hr := h.countReceived p
  cases p with
  | cam i => exact (hr.closeCameraFrame i frame status).switchFrameClose _ _ _ _
  | trunk t => exact hr.switchFrameClose _ _ _ _

theorem handLine (h : s.CountersWithinLimits) (p : Port) (frame line : Nat) (pixels bytes : List Byte) :
    (s.handLine p frame line pixels bytes).CountersWithinLimits := by
  have hr := h.countReceived p
  cases p with
  | cam i => exact (hr.cameraLine i frame line pixels).reportLineEnd _ .good bytes
  | trunk t => exact hr.reportLineEnd _ .good bytes

theorem handOn (h : s.CountersWithinLimits) (p : Port) (packet : Packet) (bytes : List Byte) :
    (s.handOn p packet bytes).CountersWithinLimits := by
  unfold State.handOn
  split
  · exact h.handFrameOpen p _ _ _ _
  · exact h.handFrameClose p _ _ _
  · exact h.handLine p _ _ _ bytes
  · exact (h.countReceived _).takeOrder _ _ _ _ _
  · exact (h.countReceived _).forward _ _ _
  · exact h
  · exact h

theorem judgeArrival (h : s.CountersWithinLimits) (p : Port) (bytes : List Byte) : (s.judgeArrival p bytes).CountersWithinLimits := by
  unfold State.judgeArrival
  split
  · exact (h.countFault p _).reportLineEnd p .failed bytes
  · exact h.handOn p _ bytes

theorem packetEnd (h : s.CountersWithinLimits) (p : Port) (bytes : List Byte) : (s.packetEnd p bytes).CountersWithinLimits := by
  unfold State.packetEnd
  (repeat' split)
  · exact h.overLongEnd p bytes
  · exact (h.judgeHighLine p).setIgnoring p false
  · exact ((h.setIgnoring p false).ensureHeader p bytes).judgeArrival p bytes
  · exact ((h.reportLineEnd p .failed []).setIgnoring p false).judgeArrival p bytes

theorem discardPoisoned (h : s.CountersWithinLimits) (p : Port) (bytes : List Byte) :
    (s.discardPoisoned p bytes).CountersWithinLimits := by
  cases p with
  | cam i => exact (h.countShape _).reportLineEnd _ .failed bytes
  | trunk t => exact (h.countPoisoned _).reportLineEnd _ .failed bytes

theorem poisonedArrival (h : s.CountersWithinLimits) (p : Port) (bytes : List Byte) :
    (s.poisonedArrival p bytes).CountersWithinLimits := by
  have he := (h.setIgnoring p false).ensureHeader p bytes
  unfold State.poisonedArrival
  dsimp only
  (repeat' split)
  · exact h.overLongEnd p bytes
  · exact (h.judgeHighLine p).setIgnoring p false
  · exact ((he.countPoisoned p).countReceived p).reportLineEnd p .poisoned bytes
  · exact he.discardPoisoned p bytes
  · exact ((h.reportLineEnd p .failed []).setIgnoring p false).discardPoisoned p bytes

theorem linkUp (h : s.CountersWithinLimits) (p : Port) : (s.linkUp p).CountersWithinLimits := by
  unfold State.linkUp
  split
  · exact (h.updRx p (fun x => { x with link := .up }) (h.1 p)).offer _
  · exact h

theorem portLost (h : s.CountersWithinLimits) (p : Port) : (s.portLost p).CountersWithinLimits := by
  cases p with
  | cam i => exact (h.loseCameraFrame i).originLoss _
  | trunk t => exact (h.outputLinkDown t).originLoss _

theorem linkDown (h : s.CountersWithinLimits) (p : Port) (arrived : Option (List Byte)) :
    (s.linkDown p arrived).CountersWithinLimits := by
  have hdown : ∀ x : State, x.CountersWithinLimits →
      (x.updRx p (fun x => { x with link := .down, unformed := none, ignoring := false })).CountersWithinLimits :=
    fun x hx => hx.updRx p _ (hx.1 p)
  unfold State.linkDown
  dsimp only
  (repeat' split)
  · exact ((hdown _ (h.framingFault p _ _)).offer _).portLost p
  · exact ((hdown _ (h.reportLineEnd p _ _)).offer _).portLost p
  · exact h

theorem stopLens (h : s.CountersWithinLimits) (i : Fin 8) : (s.stopLens i).CountersWithinLimits := h.lensEvent i _

theorem disablePort (h : s.CountersWithinLimits) (i : Fin 8) : (s.disablePort i).CountersWithinLimits :=
  (((h.abandonArrival (.cam i)).stopLens i).loseCameraFrame i).originLoss (.cam i)

theorem clearErrors (h : s.CountersWithinLimits) (p : Port) : (s.clearErrors p).CountersWithinLimits := by
  have ha := h.updArrivals p (fun c => { c with framing := 0, check := 0, shape := 0 })
    fun _ ⟨_, _, _, hr, hu, hm, hy⟩ => ⟨Nat.zero_le _, Nat.zero_le _, Nat.zero_le _, hr, hu, hm, hy⟩
  cases p with
  | cam i => exact ha
  | trunk t => exact ha.updTrunkCounters t _ fun _ ⟨_, hu, hs, hq, hd⟩ => ⟨Nat.zero_le _, hu, hs, hq, hd⟩

theorem restartPort (h : s.CountersWithinLimits) (p : Port) : (s.restartPort p).CountersWithinLimits := by
  have ha := h.abandonArrival p
  have hd := ((ha.updRx p (fun x => { x with link := .down, hold := some Config.holdTime, ignoring := false }) (ha.1 p)).clearErrors
    p).offerIf ((s.rx p).link = .up) (.link p .up .down)
  cases p with
  | cam i => exact (hd.stopLens i).portLost _
  | trunk t => exact hd.portLost _

/-! ## View selector and screens -/

theorem setSelector (h : s.CountersWithinLimits) (v : Selector) : { s with selector := v }.CountersWithinLimits :=
  h.congr rfl rfl rfl rfl

theorem recompute (h : s.CountersWithinLimits) (sc : Fin 2) : (s.recompute sc).CountersWithinLimits :=
  (h.setSelector _).offerIf _ _

theorem recomputeBoth (h : s.CountersWithinLimits) : s.recomputeBoth.CountersWithinLimits := (h.recompute 0).recompute 1

theorem vectorChanged (h : s.CountersWithinLimits) : s.vectorChanged.CountersWithinLimits := by
  unfold State.vectorChanged
  dsimp only
  split
  · exact h
  · exact (h.setSelector _).recomputeBoth

theorem updDoor (h : s.CountersWithinLimits) (d : Fin 8) (f : DoorLine → DoorLine) : (s.updDoor d f).CountersWithinLimits :=
  h.congr rfl rfl rfl rfl

theorem updTrigger (h : s.CountersWithinLimits) (t : Fin 16) (f : Trigger → Trigger) : (s.updTrigger t f).CountersWithinLimits :=
  h.congr rfl rfl rfl rfl

theorem setFiltered (h : s.CountersWithinLimits) (d : Fin 8) (level : Bool) (stop : Nat) :
    (s.setFiltered d level stop).CountersWithinLimits := by
  unfold State.setFiltered
  dsimp only
  split
  · exact (h.updDoor d _).vectorChanged
  · exact h.updDoor d _

theorem doorChange (h : s.CountersWithinLimits) (d : Fin 8) (level : Bool) : (s.doorChange d level).CountersWithinLimits := by
  unfold State.doorChange
  dsimp only
  (repeat' split)
  · exact h
  · exact (h.updDoor d _).setFiltered d level _
  · exact h.updDoor d _

theorem filterExpiry (h : s.CountersWithinLimits) (d : Fin 8) : (s.filterExpiry d).CountersWithinLimits := by
  unfold State.filterExpiry
  split
  · exact h.setFiltered d _ _
  · exact h

theorem setFilterTime (h : s.CountersWithinLimits) (d : Fin 8) (time : Nat) : (s.setFilterTime d time).CountersWithinLimits := by
  have hd := h.updDoor d (fun l => { l with filterTime := time })
  unfold State.setFilterTime
  dsimp only
  (repeat' split)
  · exact hd.setFiltered d _ _
  · exact hd
  · exact hd

theorem setLines (h : s.CountersWithinLimits) (o : SetLines) : (s.setLines o).CountersWithinLimits := by
  have hv : ∀ v : Selector, ({ s with selector := v }.vectorChanged).CountersWithinLimits :=
    fun v => (h.setSelector v).vectorChanged
  have ht : ∀ {x : State}, x.CountersWithinLimits → (x.setFilterTimes o.filterMask o.times).CountersWithinLimits := fun hx =>
    foldl (fun s d hs => by
      split
      · exact hs.setFilterTime d _
      · exact hs) _ hx
  unfold State.setLines
  dsimp only
  split
  · exact ht (hv _)
  · exact ht h

theorem lingerExpiry (h : s.CountersWithinLimits) (t : Fin 16) : (s.lingerExpiry t).CountersWithinLimits := by
  unfold State.lingerExpiry
  split
  · exact (h.updTrigger t _).recomputeBoth
  · exact h
  · exact h

theorem setPin (h : s.CountersWithinLimits) (sc : Fin 2) (pin : Option Pin) : (s.setPin sc pin).CountersWithinLimits :=
  (h.setSelector _).recompute sc

theorem silenceExpiry (h : s.CountersWithinLimits) : s.silenceExpiry.CountersWithinLimits := by
  unfold State.silenceExpiry
  split
  · exact h
  · exact (((h.updHub _ h.hub).setSelector _).recomputeBoth).offer _

theorem releaseWhere (h : s.CountersWithinLimits) (sc : Fin 2) (f : Fin 12 → Bool) : (s.releaseWhere sc f).CountersWithinLimits := by
  refine foldl (fun s c hs => ?_) _ h
  split
  · exact (hs.channelEvent c (Channel.keepsLimits_release sc)).updScreen sc _
  · exact hs

theorem disableScreen (h : s.CountersWithinLimits) (sc : Fin 2) : (s.disableScreen sc).CountersWithinLimits :=
  (h.releaseWhere sc _).updScreen sc _

theorem takeWhere (h : s.CountersWithinLimits) (sc : Fin 2) (drawn : Fin 12 → Bool) : (s.takeWhere sc drawn).CountersWithinLimits := by
  refine foldl (fun s c hs => ?_) _ h
  split
  · exact (hs.channelEvent c (Channel.keepsLimits_take sc)).updScreen sc _
  · exact hs

theorem frameStart (h : s.CountersWithinLimits) (sc : Fin 2) : (s.frameStart sc).CountersWithinLimits := by
  have hb := h.updScreen sc Screen.beginFrame
  unfold State.frameStart
  dsimp only
  split
  · exact hb
  · exact ((hb.takeWhere sc _).releaseWhere sc _).updScreen sc _

/-! ## Orders -/

theorem moveNotice (h : s.CountersWithinLimits) : s.moveNotice.CountersWithinLimits := by
  unfold State.moveNotice
  split
  · refine foldl (fun s t hs => hs.updOut t _) _ ?_
    exact h.withOrders rfl rfl rfl h.hub
  · exact h

theorem answer (h : s.CountersWithinLimits) (i : Fin 2) (o : HeldOrder) (a : Answer) : (s.answer i o a).CountersWithinLimits :=
  h.withOrders rfl rfl rfl h.hub

end State.CountersWithinLimits

/-- The effect of an order keeps the counters within their limits. -/
def KeepsLimits (effect : State → State × Answer) : Prop :=
  ∀ s : State, s.CountersWithinLimits → (effect s).1.CountersWithinLimits

/-- An effect that changes nothing the counters stand in keeps their limits. -/
theorem KeepsLimits.of_eq {effect : State → State × Answer} (h : ∀ s, (effect s).1 = s) : KeepsLimits effect :=
  fun s hs => (h s).symm ▸ hs

theorem keepsLimits_setHub (ps : List Byte) : KeepsLimits (setHubEffect ps) := fun s hs => by
  have hn : { s.orders.hub with silenceTime := (readSetHub ps).value }.WithinLimits := hs.hub
  exact hs.updHub _ hn.restartSilence

theorem keepsLimits_hubSection (ps : List Byte) : KeepsLimits (hubSectionEffect ps) := fun _ hs => hs.updHub _ hs.hub

open State.CountersWithinLimits in
theorem keepsLimits_setPort (ps : List Byte) : KeepsLimits (setPortEffect ps) := by
  intro s hs
  have hst : ∀ o : SetPort, (s.updCam o.port (fun c => { c with
      enable := o.enable, stream := o.stream, profile := o.profile })).CountersWithinLimits := fun o => hs.updCam rfl
  unfold setPortEffect
  split
  · exact hs
  · next o _ =>
    dsimp only
    split
    · exact hs
    · have hl := fun b c [Decidable b] [Decidable c] =>
        ite (b := b) ((hst o).disablePort o.port) (ite (b := c) ((hst o).originLoss (.cam o.port)) (hst o))
      exact ite (lensEvent (hl _ _) o.port Lens.scaleChanged) (hl _ _)

theorem keepsLimits_restartPort (ps : List Byte) : KeepsLimits (restartPortEffect ps) := by
  intro s hs
  unfold restartPortEffect
  split
  · exact hs
  · next p _ =>
    dsimp only
    exact hs.restartPort p

open State.CountersWithinLimits in
theorem keepsLimits_loadStream (ps : List Byte) : KeepsLimits (loadStreamEffect ps) := by
  intro s hs
  unfold loadStreamEffect
  split
  · exact hs
  · next k e _ =>
    dsimp only
    split
    · exact hs
    · have hc := fun b [Decidable b] =>
        ite (b := b) ((hs.closeCut k).updFlow k (fun f => { f with cut := ⟨false, false⟩ })) hs
      have hb := fun b c [Decidable b] [Decidable c] =>
        ite (b := b) (deliver (hc c) (s.streamRec k).entry Channel.keepsLimits_unbind) (hc c)
      have he := fun b c [Decidable b] [Decidable c] => (hb b c).updStream k (fun r => { r with entry := e })
      exact ite (deliver (he _ _) e (Channel.keepsLimits_bind k)) (he _ _)

theorem keepsLimits_setChannel (ps : List Byte) : KeepsLimits (setChannelEffect ps) := by
  intro s hs
  unfold setChannelEffect
  split
  · exact hs
  · next o _ =>
    have hu := hs.updChannel o.channel (Channel.KeepsLimits.of_eq
      (f := fun c => { c with patch := o.patch, staleTime := o.staleTime, lostTime := o.lostTime }) fun _ => rfl)
    dsimp only
    split
    · exact (hu.channelEvent _ Channel.keepsLimits_compareStale).channelEvent _ Channel.keepsLimits_compareLost
    · exact hu

theorem keepsLimits_loadView (ps : List Byte) : KeepsLimits (loadViewEffect ps) := by
  intro s hs
  unfold loadViewEffect
  split
  · exact hs
  · exact hs.congr rfl rfl rfl rfl

open State.CountersWithinLimits in
theorem keepsLimits_setScreen (ps : List Byte) : KeepsLimits (setScreenEffect ps) := by
  intro s hs
  unfold setScreenEffect
  split
  · exact hs
  · next o _ =>
    have hu := hs.updScreen o.screen (fun x => { x with enable := o.enable, defaultView := o.defaultView })
    have hr := fun b [Decidable b] => ite (b := b) (hu.recompute o.screen) hu
    exact ite (disableScreen (hr _) o.screen) (hr _)

theorem keepsLimits_loadTrigger (ps : List Byte) : KeepsLimits (loadTriggerEffect ps) := by
  intro s hs
  unfold loadTriggerEffect
  split
  · exact hs
  · exact (hs.updTrigger _ _).recomputeBoth

theorem keepsLimits_setLines (ps : List Byte) : KeepsLimits (setLinesEffect ps) := fun _ hs => hs.setLines _

theorem keepsLimits_pinView (ps : List Byte) : KeepsLimits (pinViewEffect ps) := by
  intro s hs
  unfold pinViewEffect
  split
  · exact hs
  · exact hs.setPin _ _

theorem keepsLimits_releaseView (ps : List Byte) : KeepsLimits (releaseViewEffect ps) := by
  intro s hs
  unfold releaseViewEffect
  split
  · exact hs
  · exact hs.setPin _ _

theorem keepsLimits_loadProfile (ps : List Byte) : KeepsLimits (loadProfileEffect ps) := by
  intro s hs
  unfold loadProfileEffect
  split
  · exact hs
  · next lp p _ _ =>
    have hp : { s with profiles := Tab.upd s.profiles lp (fun _ => p) }.CountersWithinLimits := hs.congr rfl rfl rfl rfl
    dsimp only
    (repeat' split)
    · exact hp.lensEventsOfProfile _ _
    · exact hp.lensEventsOfProfile _ _
    · exact hp

theorem keepsLimits_learn (ps : List Byte) : KeepsLimits (learnEffect ps) := by
  intro s hs
  unfold learnEffect
  split
  · exact hs
  · exact hs.lensEvent _ _

theorem keepsLimits_setAlert (ps : List Byte) : KeepsLimits (setAlertEffect ps) := by
  intro s hs
  unfold setAlertEffect
  split
  · exact hs
  · exact hs.congr rfl rfl rfl rfl

theorem keepsLimits_query (ps : List Byte) : KeepsLimits (queryEffect ps) := .of_eq fun s => by
  unfold queryEffect
  dsimp only
  (repeat' split) <;> rfl

theorem keepsLimits_queryZones (ps : List Byte) : KeepsLimits (queryZonesEffect ps) := .of_eq fun s => by
  unfold queryZonesEffect
  split <;> rfl

theorem ArrivalCounters.zero_withinLimits : ArrivalCounters.zero.WithinLimits := by simp [ArrivalCounters.WithinLimits, ArrivalCounters.zero]

theorem TrunkCounters.zero_withinLimits : TrunkCounters.zero.WithinLimits := by simp [TrunkCounters.WithinLimits, TrunkCounters.zero]

theorem ChannelCounters.zero_withinLimits : ChannelCounters.zero.WithinLimits := by
  simp [ChannelCounters.WithinLimits, ChannelCounters.zero]

theorem State.CountersWithinLimits.clearPort {s : State} (h : s.CountersWithinLimits) (p : Port) :
    (s.clearPort p).CountersWithinLimits := by
  have ha := h.updArrivals p (fun _ => .zero) fun _ _ => ArrivalCounters.zero_withinLimits
  cases p with
  | cam i => exact ha
  | trunk t => exact ha.updTrunkCounters t _ fun _ _ => TrunkCounters.zero_withinLimits

theorem keepsLimits_clearCounts (ps : List Byte) : KeepsLimits (clearCountsEffect ps) := by
  intro s hs
  unfold clearCountsEffect
  split
  · exact hs.updHub _ ⟨Nat.zero_le _, Nat.zero_le _, hs.hub.2.2⟩
  · exact hs.clearPort _
  · exact hs.updChannel _ fun _ _ => ChannelCounters.zero_withinLimits
  · exact hs

theorem keepsLimits_baselines (ps : List Byte) : KeepsLimits (baselinesEffect ps) := by
  intro s hs
  unfold baselinesEffect
  (repeat' split)
  · exact hs
  · exact hs.lensEvent _ _
  · exact hs.lensEvent _ _
  · exact hs

theorem EntryKind.keepsLimits_effect (k : EntryKind) (ps : List Byte) : KeepsLimits (k.effect ps) := by
  cases k with
  | hub => exact keepsLimits_hubSection ps
  | port => exact keepsLimits_setPort ps
  | profile => exact keepsLimits_loadProfile ps
  | baselines => exact keepsLimits_baselines ps
  | stream => exact keepsLimits_loadStream ps
  | channel => exact keepsLimits_setChannel ps
  | view => exact keepsLimits_loadView ps
  | trigger => exact keepsLimits_loadTrigger ps
  | filterTimes => exact keepsLimits_setLines _
  | screen => exact keepsLimits_setScreen ps
  | alert => exact keepsLimits_setAlert ps

namespace State.CountersWithinLimits

variable {s : State}

/-- An order that is due runs on the state as it is. -/
theorem onOrder (h : s.CountersWithinLimits) (codes : Byte → Bool) {run : Fin 2 → HeldOrder → State → State}
    (hr : ∀ i o, (run i o s).CountersWithinLimits) : (s.onOrder codes run).CountersWithinLimits := by
  unfold State.onOrder
  (repeat' split)
  · exact hr _ _
  · exact h
  · exact h

theorem carryOut (h : s.CountersWithinLimits) (lengthOk : Bool) {effect : State → State × Answer} (he : KeepsLimits effect) :
    (s.carryOut lengthOk effect).1.CountersWithinLimits := by
  unfold State.carryOut
  (repeat' split)
  · exact h
  · exact h
  · exact he s h

theorem runOrder (h : s.CountersWithinLimits) (code : Byte) (length : Nat) {effect : List Byte → State → State × Answer}
    (he : ∀ ps, KeepsLimits (effect ps)) : (s.runOrder code length effect).CountersWithinLimits :=
  h.onOrder _ fun i o => (h.carryOut _ (he o.params)).answer i o _

/-! ## The load, the SAVE job and the resets -/

theorem continueLoad (h : s.CountersWithinLimits) (todo : List ImageEntry) : (s.continueLoad todo).CountersWithinLimits := by
  have hp : ∀ p, (s.setPhase p).CountersWithinLimits := fun p => h.congr rfl rfl rfl rfl
  unfold State.continueLoad
  split
  · exact (hp _).offer _
  · exact hp _

theorem judgeLoad (h : s.CountersWithinLimits) (answers : Bool) : (s.judgeLoad answers).CountersWithinLimits := by
  unfold State.judgeLoad
  split
  · exact (h.updHub (fun x => { x with image := (s.flash.judgeRead answers).result }) h.hub).continueLoad _
  · exact h
  · exact h

theorem applyNext (h : s.CountersWithinLimits) : s.applyNext.CountersWithinLimits := by
  have ha : ∀ e, (s.applyEntry e).CountersWithinLimits := fun e => by
    unfold State.applyEntry
    dsimp only
    split
    · exact h.updHub _ ⟨h.hub.1, h.hub.2.1, bumpTraffic_le _ _⟩
    · exact e.kind.keepsLimits_effect _ s h
  unfold State.applyNext
  split
  · exact (ha _).continueLoad _
  · exact h
  · exact h
  · exact h

theorem setJob (h : s.CountersWithinLimits) (j : Option SaveJob) : (s.setJob j).CountersWithinLimits := h.congr rfl rfl rfl rfl

theorem setFlash (h : s.CountersWithinLimits) (f : Flash) : { s with flash := f }.CountersWithinLimits := h.congr rfl rfl rfl rfl

theorem endSave (h : s.CountersWithinLimits) (j : SaveJob) (a : Answer) : (s.endSave j a).CountersWithinLimits := by
  refine (h.setJob none).withOrders rfl rfl rfl ?_
  have hf : (s.orders.finishSaving j.slot a).hub = s.orders.hub := by
    unfold OrderUnit.finishSaving
    split <;> rfl
  exact hf ▸ h.hub

theorem failSave (h : s.CountersWithinLimits) (j : SaveJob) : (s.failSave j).CountersWithinLimits :=
  endSave (h.congr (t := s.cutFlash j) rfl rfl rfl rfl) j _

theorem eraseDone (h : s.CountersWithinLimits) : s.eraseDone.CountersWithinLimits := by
  unfold State.eraseDone
  (repeat' split)
  · exact (h.setFlash _).setJob _
  · exact h
  · exact h

theorem eraseTimeout (h : s.CountersWithinLimits) : s.eraseTimeout.CountersWithinLimits := by
  unfold State.eraseTimeout
  (repeat' split)
  · exact h.failSave _
  · exact h
  · exact h

theorem pageDone (h : s.CountersWithinLimits) : s.pageDone.CountersWithinLimits := by
  unfold State.pageDone
  dsimp only
  (repeat' split)
  · exact h
  · exact (h.setFlash _).endSave _ _
  · exact (h.setFlash _).setJob _
  · exact h

theorem pageTimeout (h : s.CountersWithinLimits) : s.pageTimeout.CountersWithinLimits := by
  unfold State.pageTimeout
  (repeat' split)
  · exact h
  · exact h.failSave _
  · exact h

theorem saveSettings (h : s.CountersWithinLimits) (i : Fin 2) (o : HeldOrder) : (s.saveSettings i o).CountersWithinLimits := by
  unfold State.saveSettings
  (repeat' split)
  · exact h.answer i o _
  · exact h.answer i o _
  · exact h.answer i o _
  · exact h.congr rfl rfl rfl rfl

/-- Every counter is 0 after a reset. -/
theorem resetWith (cause : ResetCause) (tag : Option Byte) (held : Bool) (straps : BitVec 4) (raw : Vector Bool 8) (flash : Flash)
    (n : Nat) (l : List Instr) : (State.resetWith cause tag held straps raw flash n l).CountersWithinLimits := by
  refine ⟨fun p => ?_, fun t => ?_, fun c => ?_, Nat.zero_le _, Nat.zero_le _, Nat.zero_le _⟩
  · cases p with
    | cam i =>
      rw [State.rx, State.resetWith, Tab.get_replicate]
      exact ArrivalCounters.zero_withinLimits
    | trunk t => cases t <;> exact ArrivalCounters.zero_withinLimits
  · cases t <;> exact TrunkCounters.zero_withinLimits
  · rw [State.channel, State.resetWith, Tab.get_replicate]
    exact ChannelCounters.zero_withinLimits

theorem takeReset (s : State) (cause : ResetCause) (tag : Option Byte) (held : Bool) (straps : BitVec 4) :
    (s.takeReset cause tag held straps).CountersWithinLimits := resetWith _ _ _ _ _ _ _ _

theorem resetHub (h : s.CountersWithinLimits) (i : Fin 2) (o : HeldOrder) : (s.resetHub i o).CountersWithinLimits := by
  unfold State.resetHub
  (repeat' split)
  · exact h.answer i o _
  · exact h.answer i o _
  · exact takeReset _ _ _ _ _

theorem tick (h : s.CountersWithinLimits) : s.tick.CountersWithinLimits := by
  obtain ⟨hrx, htr, hcn, hub⟩ := h
  refine ⟨fun p => ?_, fun t => ?_, fun c => ?_, hub⟩
  · cases p with
    | cam i =>
      have hi : (s.tick.rx (.cam i)).counters = (s.rx (.cam i)).counters := by simp [State.rx, State.tick, Receiver.tick]
      exact hi ▸ hrx (.cam i)
    | trunk u =>
      have hu : (s.tick.rx (.trunk u)).counters = (s.rx (.trunk u)).counters := by cases u <;> rfl
      exact hu ▸ hrx (.trunk u)
  · have ht : (s.tick.trunks.get t).counters = (s.trunks.get t).counters := by cases t <;> rfl
    exact ht ▸ htr t
  · have hc : (s.tick.channel c).counters = (s.channel c).counters := by simp [State.channel, State.tick, Channel.tick]
    exact hc ▸ hcn c

/-! ## One step -/

theorem onCommand (h : s.CountersWithinLimits) (c : Instr) : (s.onCommand c).CountersWithinLimits := by
  cases c with
  | powerOn straps => exact takeReset _ _ _ _ _
  | resetLineAsserted => exact takeReset _ _ _ _ _
  | resetLineReleased straps => exact h
  | framingFault p cause bytes => exact h.packetOver p bytes _ _ fun _ hs => hs.framingFault p cause bytes
  | lineHeader p stream frame line =>
    simp only [State.onCommand]
    split
    · exact (h.clearUnformed p).takeHeader p stream _ _
    · exact (h.setIgnoring p false).markUnformed p _
  | packetEnd p bytes => exact h.packetOver p bytes _ _ fun _ hs => hs.packetEnd p bytes
  | poisonedArrival p bytes => exact h.packetOver p bytes _ _ fun _ hs => hs.poisonedArrival p bytes
  | linkUp p => exact h.linkUp p
  | linkDown p arrived => exact h.linkDown p arrived
  | restartHoldEnd p => exact h.updRx p (fun x => { x with hold := none }) (h.1 p)
  | transmissionStart u =>
    simp only [State.onCommand]
    split
    · exact h.updOut u _
    · exact h
  | transmissionEnd u => exact h.transmissionEnd u
  | frameAgeStale c => exact h.channelEvent c Channel.keepsLimits_ageStale
  | frameAgeLost c => exact h.channelEvent c Channel.keepsLimits_ageLost
  | doorLineChange d level => exact h.doorChange d level
  | filterWaitExpiry d => exact h.filterExpiry d
  | lingerExpiry n => exact h.lingerExpiry n
  | silenceExpiry => exact h.silenceExpiry
  | outputFrameStart sc => exact h.frameStart sc
  | pulseBoundary a => exact h.congr rfl rfl rfl rfl
  | noticeMove => exact h.moveNotice
  | presence =>
    have he : KeepsLimits (fun s => (s, .done false)) := .of_eq fun _ => rfl
    exact h.runOrder 1 0 fun _ => he
  | setHub => exact h.runOrder 2 2 keepsLimits_setHub
  | setPort => exact h.runOrder 3 4 keepsLimits_setPort
  | restartPort => exact h.runOrder 4 1 keepsLimits_restartPort
  | loadStream => exact h.runOrder 5 8 keepsLimits_loadStream
  | setChannel => exact h.runOrder 6 6 keepsLimits_setChannel
  | loadView => exact h.onOrder _ fun i o => (h.carryOut _ (keepsLimits_loadView _)).answer i o _
  | setScreen => exact h.runOrder 8 3 keepsLimits_setScreen
  | loadTrigger => exact h.runOrder 9 10 keepsLimits_loadTrigger
  | setLines => exact h.runOrder 10 11 keepsLimits_setLines
  | pinView => exact h.runOrder 11 3 keepsLimits_pinView
  | releaseView => exact h.runOrder 12 1 keepsLimits_releaseView
  | loadProfile => exact h.runOrder 13 13 keepsLimits_loadProfile
  | learn => exact h.runOrder 14 1 keepsLimits_learn
  | setAlert => exact h.runOrder 15 9 keepsLimits_setAlert
  | query => exact h.runOrder 16 3 keepsLimits_query
  | queryZones => exact h.runOrder 17 1 keepsLimits_queryZones
  | clearCounts => exact h.runOrder 18 2 keepsLimits_clearCounts
  | saveSettings => exact h.onOrder _ fun i o => h.saveSettings i o
  | resetHub => exact h.onOrder _ fun i o => h.resetHub i o
  | badCode =>
    have he : KeepsLimits (fun s => (s, .refused .badCode)) := .of_eq fun _ => rfl
    exact h.onOrder _ fun i o => (h.carryOut _ he).answer i o _
  | eraseDone => exact h.eraseDone
  | eraseTimeout => exact h.eraseTimeout
  | pageDone => exact h.pageDone
  | pageTimeout => exact h.pageTimeout
  | imageJudged answers => exact h.judgeLoad answers
  | imageEntryApply => exact h.applyNext

theorem onCommandHeld (h : s.CountersWithinLimits) (c : Instr) : (s.onCommandHeld c).CountersWithinLimits := by
  unfold State.onCommandHeld
  split
  · exact takeReset _ _ _ _ _
  · exact h.withOrders rfl rfl rfl h.hub
  · exact h.updDoor _ _
  · exact h

end State.CountersWithinLimits

/-- Settles O51: each command is a chain of the operations above, each of which keeps the limits. -/
theorem everyStepKeepsCountersWithinLimits : Obligations.EveryStepKeepsCountersWithinLimits := fun _ _ h e =>
  step_keeps (P := State.CountersWithinLimits) (fun _ _ hs => hs.congr rfl rfl rfl rfl) (fun _ c _ hs => hs.onCommand c)
    (fun _ c _ hs => hs.onCommandHeld c) (fun _ hs => hs.tick) h e

end Sys2Proof.Machine

/-! # Proofs: lines in arrival

A LINE is in arrival only at a port that forms it, and an output is CUTTING only such a line (R2, R9, R10, R38, R39). Most operations
leave alone all that this speaks of (`State.SameLines`); the operations at a port `p` keep it at every other port
(`State.LinesElsewhere`), and what the port itself shows at the end is read off its receiver. -/

namespace Sys2Proof.Machine

theorem State.receives_eq (s : State) (p : Port) :
    s.receives p = (decide ((s.rx p).link = .up) && (s.rx p).hold.isNone && s.counts p) := by
  cases p <;> rfl

/-! ## Operations that no receiver and no cut-through sees -/

/-- A receiver, its counters left out of account. -/
def Receiver.uncounted (r : Receiver) : Receiver := { r with counters := .zero }

theorem Receiver.link_of_uncounted {r x : Receiver} (h : r.uncounted = x.uncounted) : r.link = x.link := by
  injection h

theorem Receiver.hold_of_uncounted {r x : Receiver} (h : r.uncounted = x.uncounted) : r.hold = x.hold := by
  injection h

theorem Receiver.arrival_of_uncounted {r x : Receiver} (h : r.uncounted = x.uncounted) : r.arrival = x.arrival := by
  injection h

theorem Receiver.unformed_of_uncounted {r x : Receiver} (h : r.uncounted = x.uncounted) : r.unformed = x.unformed := by
  injection h

theorem Receiver.ignoring_of_uncounted {r x : Receiver} (h : r.uncounted = x.uncounted) : r.ignoring = x.ignoring := by
  injection h

/-- From `s` to `t` no receiver has changed but in its counters, no camera port's enable, and no output's sending state. -/
structure State.SameLines (s t : State) : Prop where
  rx : ∀ q, (t.rx q).uncounted = (s.rx q).uncounted
  counts : ∀ q, t.counts q = s.counts q
  sending : ∀ u, (t.out u).sending = (s.out u).sending

theorem Output.control_sending (k : Fin 256) (p : Packet) (o : Output) :
    (o.control k p).1.sending = o.sending := by
  unfold Output.control
  (repeat' split) <;> rfl

namespace State.SameLines

variable {s t : State}

theorem refl (s : State) : s.SameLines s := ⟨fun _ => rfl, fun _ => rfl, fun _ => rfl⟩

theorem trans {x : State} (h : s.SameLines t) (g : t.SameLines x) : s.SameLines x where
  rx q := (g.rx q).trans (h.rx q)
  counts q := (g.counts q).trans (h.counts q)
  sending u := (g.sending u).trans (h.sending u)

theorem link (h : s.SameLines t) (q : Port) : (t.rx q).link = (s.rx q).link := Receiver.link_of_uncounted (h.rx q)

theorem hold (h : s.SameLines t) (q : Port) : (t.rx q).hold = (s.rx q).hold := Receiver.hold_of_uncounted (h.rx q)

theorem arrival (h : s.SameLines t) (q : Port) : (t.rx q).arrival = (s.rx q).arrival := Receiver.arrival_of_uncounted (h.rx q)

theorem unformed (h : s.SameLines t) (q : Port) : (t.rx q).unformed = (s.rx q).unformed := Receiver.unformed_of_uncounted (h.rx q)

theorem ignoring (h : s.SameLines t) (q : Port) : (t.rx q).ignoring = (s.rx q).ignoring := Receiver.ignoring_of_uncounted (h.rx q)

theorem receives (h : s.SameLines t) (q : Port) : t.receives q = s.receives q := by
  rw [receives_eq, receives_eq, h.link, h.hold, h.counts]

/-- The same camera ports and trunks. -/
theorem of_frame {x : State} (h : s.SameLines t) (hc : x.cams = t.cams) (ht : x.trunks = t.trunks) : s.SameLines x :=
  h.trans
    { rx := fun q => by rw [rx_congr hc ht]
      counts := fun q => by cases q <;> simp only [State.counts, hc]
      sending := fun u => by rw [State.out, ht, State.out] }

theorem updArrivals (h : s.SameLines t) (p : Port) (f : ArrivalCounters → ArrivalCounters) : s.SameLines (t.updArrivals p f) :=
  h.trans
    { rx := fun q => by
        rw [State.updArrivals, rx_updRx]
        split
        · next e => rw [e]; rfl
        · rfl
      counts := fun q => by
        cases p with
        | trunk u => cases q <;> rfl
        | cam i =>
          cases q with
          | trunk u => rfl
          | cam j =>
            simp only [State.counts, State.updArrivals, State.updRx, updCam_cams, Tab.get_upd]
            split
            · next e => rw [e]
            · rfl
      sending := fun u => by rw [out_updArrivals] }

theorem updTrunkCounters (h : s.SameLines t) (u : Trunk) (f : TrunkCounters → TrunkCounters) : s.SameLines (t.updTrunkCounters u f) :=
  h.trans
    { rx := fun q => by rw [rx_updTrunkCounters]
      counts := fun q => by cases q <;> rfl
      sending := fun v => by rw [out_updTrunkCounters] }

theorem updOut (h : s.SameLines t) (u : Trunk) {f : Output → Output} (hf : (f (t.out u)).sending = (t.out u).sending) :
    s.SameLines (t.updOut u f) :=
  h.trans
    { rx := fun q => by rw [rx_updOut]
      counts := fun q => by cases q <;> rfl
      sending := fun v => by
        rw [out_updOut]
        split
        · next e => rw [hf, e]
        · rfl }

/-- A camera port may change in all but its receiver and its enable. -/
theorem updCam (h : s.SameLines t) {i : Fin 8} {f : CameraPort → CameraPort}
    (hf : (f (Tab.get t.cams i)).rx = (Tab.get t.cams i).rx) (he : (f (Tab.get t.cams i)).enable = (Tab.get t.cams i).enable) :
    s.SameLines (t.updCam i f) :=
  h.trans
    { rx := fun q => by rw [rx_updCam_of_eq hf]
      counts := fun q => by
        cases q with
        | trunk u => rfl
        | cam j =>
          simp only [State.counts, updCam_cams, Tab.get_upd]
          split
          · next e => rw [he, e]
          · rfl
      sending := fun u => rfl }

theorem ite (b : Prop) [Decidable b] {x : State} (h : s.SameLines t) (g : s.SameLines x) : s.SameLines (if b then t else x) := by
  split
  · exact h
  · exact g

theorem setOpenFrame (h : s.SameLines t) (i : Fin 8) (o : Option OpenFrame) :
    s.SameLines (t.updCam i (fun c => { c with openFrame := o })) := h.updCam rfl rfl

theorem updLens (h : s.SameLines t) (i : Fin 8) (f : Lens → Lens) : s.SameLines (t.updLens i f) := h.of_frame rfl rfl

theorem offer (h : s.SameLines t) (n : Notice) : s.SameLines (t.offer n) := h.of_frame rfl rfl

theorem updStream (h : s.SameLines t) (k : Fin 256) (f : StreamRecord → StreamRecord) : s.SameLines (t.updStream k f) :=
  h.of_frame rfl rfl

theorem updFlow (h : s.SameLines t) (k : Fin 256) (f : StreamFlow → StreamFlow) : s.SameLines (t.updFlow k f) := h.of_frame rfl rfl

theorem lensEvent (h : s.SameLines t) (i : Fin 8) (f : Lens → Lens × Option LearnEnd) : s.SameLines (t.lensEvent i f) :=
  h.of_frame (by simp) (by simp)

theorem endOpenFrame (h : s.SameLines t) (i : Fin 8) (complete : Bool) : s.SameLines (t.endOpenFrame i complete) := by
  unfold State.endOpenFrame
  split
  · exact h
  · exact (h.setOpenFrame i none).lensEvent i _

theorem openCameraFrame (h : s.SameLines t) (i : Fin 8) (frame : Nat) : s.SameLines (t.openCameraFrame i frame) :=
  ((h.endOpenFrame i false).setOpenFrame i (some ⟨frame, []⟩)).updLens i _

theorem cameraLine (h : s.SameLines t) (i : Fin 8) (frame line : Nat) (pixels : List Byte) :
    s.SameLines (t.cameraLine i frame line pixels) := by
  unfold State.cameraLine
  (repeat' split)
  · exact h
  · exact (h.setOpenFrame i _).updLens i _
  · exact h

theorem closeCameraFrame (h : s.SameLines t) (i : Fin 8) (frame : Nat) (status : CloseStatus) :
    s.SameLines (t.closeCameraFrame i frame status) := by
  unfold State.closeCameraFrame
  (repeat' split)
  · exact h
  · exact h.endOpenFrame i _
  · exact h

theorem loseCameraFrame (h : s.SameLines t) (i : Fin 8) : s.SameLines (t.loseCameraFrame i) := (h.endOpenFrame i false).updLens i _

theorem countQueueCuts (h : s.SameLines t) (u : Trunk) (n : Nat) : s.SameLines (t.countQueueCuts u n) := h.updTrunkCounters u _

theorem setCut (h : s.SameLines t) (u : Trunk) (k : Fin 256) : s.SameLines (t.setCut u k) := h.updFlow k _

theorem enqueueMgmt (h : s.SameLines t) (u : Trunk) (e : MgmtEntry) : s.SameLines (t.enqueueMgmt u e) := h.updOut u rfl

theorem forward (h : s.SameLines t) (a u : Trunk) (e : MgmtEntry) : s.SameLines (t.forward a u e) := by
  unfold State.forward State.offerMgmt
  (repeat' split)
  · exact h.updTrunkCounters a _
  · exact h
  · exact h.enqueueMgmt u e
  · exact h.updTrunkCounters u _

theorem sendControl (h : s.SameLines t) (u : Trunk) (k : Fin 256) (p : Packet) : s.SameLines (t.sendControl u k p) := by
  have hu := h.updOut u (f := fun _ => ((t.out u).control k p).1) (Output.control_sending k p _)
  unfold State.sendControl
  dsimp only
  (repeat' split)
  · exact h
  · exact hu
  · exact hu.countQueueCuts u _

theorem offerLine (h : s.SameLines t) (u : Trunk) (k : Fin 256) (p : Packet) : s.SameLines (t.offerLine u k p) := by
  unfold State.offerLine
  (repeat' split)
  · exact h.setCut u k
  · exact h.countQueueCuts u 1
  · exact (h.setCut u k).countQueueCuts u 1
  · exact h.updOut u rfl

theorem sendIfRouted (h : s.SameLines t) (e : StreamEntry) (u : Trunk) (k : Fin 256) (p : Packet) :
    s.SameLines (t.sendIfRouted e u k p) := ite _ (h.sendControl u k p) h

theorem deliver (h : s.SameLines t) (e : StreamEntry) (f : Channel → Channel) : s.SameLines (t.deliver e f) :=
  h.of_frame (by simp) (by simp)

theorem closeCut (h : s.SameLines t) (k : Fin 256) : s.SameLines (t.closeCut k) := by
  unfold State.closeCut
  exact (((h.sendIfRouted _ .ta k _).sendIfRouted _ .tb k _).deliver _ _).updFlow k _

theorem closeIfOpen (h : s.SameLines t) (k : Fin 256) : s.SameLines (t.closeIfOpen k) := ite _ (h.closeCut k) h

/-- A fold is not seen when none of its steps is. -/
theorem foldl {β : Type} {f : State → β → State} (hf : ∀ {t : State} b, s.SameLines t → s.SameLines (f t b)) (l : List β)
    (h : s.SameLines t) : s.SameLines (l.foldl f t) := by
  induction l generalizing t with
  | nil => exact h
  | cons b rest ih => exact ih (hf b h)

theorem originLoss (h : s.SameLines t) (p : Port) : s.SameLines (t.originLoss p) :=
  foldl (fun k hk => ite _ (hk.closeCut k) hk) _ h

theorem switchFrameOpen (h : s.SameLines t) (p : Port) (k : Fin 256) (frame : Nat) (grade : Grade) (home : Nat) :
    s.SameLines (t.switchFrameOpen p k frame grade home) := by
  unfold State.switchFrameOpen
  split
  · exact h.updArrivals p _
  · exact h.updArrivals p _
  · exact ((((h.closeIfOpen k).updFlow k _).sendIfRouted _ .ta k _).sendIfRouted _ .tb k _).deliver _ _

theorem switchFrameClose (h : s.SameLines t) (p : Port) (k : Fin 256) (frame : Nat) (status : CloseStatus) :
    s.SameLines (t.switchFrameClose p k frame status) := by
  unfold State.switchFrameClose
  dsimp only
  (repeat' split)
  · exact h.updArrivals p _
  · exact h.updArrivals p _
  · exact (((h.updFlow k _).sendIfRouted _ .ta k _).sendIfRouted _ .tb k _).deliver _ _
  · exact h.updArrivals p _

theorem settleCopy (h : s.SameLines t) (a : LineArrival) (report : EndReport) (pixels : List Byte) (u : Trunk) :
    s.SameLines (t.settleCopy a report pixels u) := by
  unfold State.settleCopy
  split
  · exact h.offerLine u _ _
  · exact h.setCut u _
  · exact h
  · exact h.countQueueCuts u 1
  · exact h

theorem countHeaderCut (h : s.SameLines t) (a : LineArrival) (u : Trunk) : s.SameLines (t.countHeaderCut a u) :=
  ite _ (h.countQueueCuts u 1) h

theorem settleLine (h : s.SameLines t) (p : Port) (a : LineArrival) (report : EndReport) (bytes : List Byte) :
    s.SameLines (t.settleLine p a report bytes) := by
  by_cases ho : t.StillOpen a
  · have hy := fun pixels => (h.settleCopy a report pixels .ta).settleCopy a report pixels .tb
    rw [settleLine_open ho]
    cases report with
    | good => exact (hy _).deliver _ _
    | poisoned => exact (hy _).deliver _ _
    | failed => exact hy _
  · rw [settleLine_closed ho]
    split
    · exact h
    · split
      · exact h.updArrivals p _
      · exact h.updArrivals p _
      · exact h.updArrivals p _
      · exact ((h.countHeaderCut a .ta).countHeaderCut a .tb).updArrivals p _

theorem countFault (h : s.SameLines t) (p : Port) (fault : PacketFault) : s.SameLines (t.countFault p fault) := by
  cases fault with
  | check => exact h.updArrivals p (fun c => { c with check := bumpError c.check })
  | shape => exact h.updArrivals p (fun c => { c with shape := bumpError c.shape })

theorem countPoisoned (h : s.SameLines t) (p : Port) : s.SameLines (t.countPoisoned p) := by
  cases p with
  | cam i => exact h
  | trunk u => exact h.updTrunkCounters u (fun c => { c with poisoned := bumpError c.poisoned })

theorem takeOrder (h : s.SameLines t) (a : Trunk) (dest code tag : Byte) (params : List Byte) :
    s.SameLines (t.takeOrder a dest code tag params) := by
  have hc : ∀ b, s.SameLines (t.updOrders (fun u => u.consume a b code tag params)) := fun b => h.of_frame rfl rfl
  unfold State.takeOrder
  dsimp only
  (repeat' split)
  · exact (hc true).forward a _ _
  · exact h.forward a _ _
  · exact hc false
  · exact h.forward a _ _
  · exact h.forward a _ _

theorem moveNotice (h : s.SameLines t) : s.SameLines t.moveNotice := by
  unfold State.moveNotice
  split
  · exact foldl (fun u hu => hu.enqueueMgmt u _) _ (h.of_frame rfl rfl)
  · exact h

theorem clearErrors (h : s.SameLines t) (p : Port) : s.SameLines (t.clearErrors p) := by
  have ha := h.updArrivals p (fun c => { c with framing := 0, check := 0, shape := 0 })
  cases p with
  | cam i => exact ha
  | trunk u => exact ha.updTrunkCounters u (fun c => { c with poisoned := 0 })

theorem clearPort (h : s.SameLines t) (p : Port) : s.SameLines (t.clearPort p) := by
  have ha := h.updArrivals p (fun _ => .zero)
  cases p with
  | cam i => exact ha
  | trunk u => exact ha.updTrunkCounters u (fun _ => .zero)

end State.SameLines

/-! ## One port -/

/-- A port keeps R2, R9 and R15: it is DOWN in a hold, and a LINE is in arrival only where it is formed. -/
def State.PortConsistent (s : State) (p : Port) : Prop :=
  ((s.rx p).hold.isSome = true → (s.rx p).link = .down) ∧
    ((s.rx p).arrival.isSome = true → s.receives p = true ∧ (s.rx p).unformed = none ∧ (s.rx p).ignoring = false)

theorem State.portsConsistent_iff (s : State) : s.PortsConsistent ↔ ∀ p, s.PortConsistent p := Iff.rfl

theorem State.SameLines.portConsistent {s t : State} (h : s.SameLines t) {p : Port} (hp : s.PortConsistent p) : t.PortConsistent p := by
  rw [State.PortConsistent, h.hold, h.link, h.arrival, h.receives, h.unformed, h.ignoring]
  exact hp

theorem State.SameLines.cutting {s t : State} (h : s.SameLines t) (hc : s.CuttingHasArrival) : t.CuttingHasArrival := by
  intro u p hu
  rw [h.arrival]
  exact hc u p (h.sending u ▸ hu)

/-- What stands at every port but `p`, and at `p` of its hold: what no operation at `p` disturbs. -/
structure State.LinesElsewhere (s : State) (p : Port) : Prop where
  cutting : s.CuttingHasArrival
  others : ∀ q, q ≠ p → s.PortConsistent q
  held : (s.rx p).hold.isSome = true → (s.rx p).link = .down

theorem State.counts_updRx (s : State) (p q : Port) (f : Receiver → Receiver) :
    (s.updRx p f).counts q = s.counts q := by
  cases p with
  | trunk u => cases q <;> rfl
  | cam i =>
    cases q with
    | trunk u => rfl
    | cam j =>
      simp only [State.counts, State.updRx, State.updCam_cams, Tab.get_upd]
      split
      · next e => rw [e]
      · rfl

/-- Another port is as consistent as it was when a receiver changes. -/
theorem State.PortConsistent.updRx_of_ne {s : State} {p q : Port} (h : s.PortConsistent q) (e : q ≠ p)
    (f : Receiver → Receiver) : (s.updRx p f).PortConsistent q := by
  have hr : (s.updRx p f).receives q = s.receives q := by rw [State.receives_eq, State.receives_eq, State.rx_updRx_of_ne _ _ e, State.counts_updRx]
  rw [State.PortConsistent, hr, State.rx_updRx_of_ne _ _ e]
  exact h

namespace State.LinesElsewhere

variable {s : State} {p : Port}

theorem of_consistent (hp : s.PortsConsistent) (hc : s.CuttingHasArrival) (p : Port) : s.LinesElsewhere p :=
  ⟨hc, fun q _ => hp q, (hp p).1⟩

/-- With no LINE in arrival at `p`, all ports are consistent. -/
theorem consistent (h : s.LinesElsewhere p) (ha : (s.rx p).arrival = none) : s.PortsConsistent ∧ s.CuttingHasArrival := by
  refine ⟨fun q => ?_, h.cutting⟩
  by_cases e : q = p
  · subst e
    exact ⟨h.held, fun hs => by rw [ha] at hs; cases hs⟩
  · exact h.others q e

theorem same (h : s.LinesElsewhere p) {t : State} (g : s.SameLines t) : t.LinesElsewhere p where
  cutting := g.cutting h.cutting
  others q e := g.portConsistent (h.others q e)
  held := by rw [g.hold, g.link]; exact h.held

/-- The receiver of `p` may change in all but the LINE in arrival, as long as a hold keeps the link DOWN. -/
theorem updRx (h : s.LinesElsewhere p) {f : Receiver → Receiver} (ha : (f (s.rx p)).arrival = (s.rx p).arrival)
    (hl : (f (s.rx p)).hold.isSome = true → (f (s.rx p)).link = .down) : (s.updRx p f).LinesElsewhere p where
  cutting u q hu := by
    obtain ⟨a, hq, hd⟩ := h.cutting u q (by rwa [out_updRx] at hu)
    refine ⟨a, ?_, hd⟩
    rw [rx_updRx]
    split
    · next e => rw [ha, ← e, hq]
    · exact hq
  others q e := (h.others q e).updRx_of_ne e f
  held := by rw [rx_updRx_self]; exact hl

theorem setIgnoring (h : s.LinesElsewhere p) (b : Bool) : (s.setIgnoring p b).LinesElsewhere p := h.updRx rfl h.held

theorem markUnformed (h : s.LinesElsewhere p) (u : UnformedLine) : (s.markUnformed p u).LinesElsewhere p := h.updRx rfl h.held

theorem clearUnformed (h : s.LinesElsewhere p) : (s.clearUnformed p).LinesElsewhere p := h.updRx rfl h.held

end State.LinesElsewhere

/-! ## The end of a LINE -/

/-- A LINE in arrival at `p` has ended, from `s` to `t`: none is in arrival there, and no output cuts one from there. -/
structure State.LineGone (s : State) (p : Port) (t : State) : Prop where
  own : (t.rx p).uncounted = { s.rx p with arrival := none }.uncounted
  others : ∀ q, q ≠ p → (t.rx q).uncounted = (s.rx q).uncounted
  counts : ∀ q, t.counts q = s.counts q
  sending : ∀ u, (t.out u).sending = if (s.out u).sending = .cutting p then .idle else (s.out u).sending

theorem State.LineGone.same {s t x : State} {p : Port} (h : s.LineGone p t) (g : t.SameLines x) : s.LineGone p x where
  own := (g.rx p).trans h.own
  others q e := (g.rx q).trans (h.others q e)
  counts q := (g.counts q).trans (h.counts q)
  sending u := (g.sending u).trans (h.sending u)

theorem State.endCutThrough_sending (s : State) (p : Port) (t u : Trunk) (tx : Transmission) :
    ((s.endCutThrough p t tx).out u).sending =
      if u = t ∧ (s.out u).sending = .cutting p then .idle else (s.out u).sending := by
  unfold State.endCutThrough State.endTransmission
  split
  · next hs =>
    rw [out_updTrunkCounters, out_updOut]
    by_cases e : u = t
    · subst e
      rw [if_pos rfl, if_pos ⟨rfl, hs⟩]
    · rw [if_neg e, if_neg (fun g => e g.1)]
  · next hs =>
    rw [if_neg]
    rintro ⟨rfl, g⟩
    exact hs g

theorem State.counts_endCutThrough (s : State) (p q : Port) (t : Trunk) (tx : Transmission) :
    (s.endCutThrough p t tx).counts q = s.counts q := by
  unfold State.endCutThrough
  split <;> cases q <;> rfl

/-- The end report of a LINE ends it. Where none is in arrival there is nothing that an output could cut. -/
theorem State.reportLineEnd_gone {s : State} {p : Port} (hc : s.CuttingHasArrival) (report : EndReport) (bytes : List Byte) :
    s.LineGone p (s.reportLineEnd p report bytes) := by
  unfold State.reportLineEnd
  split
  · next ha =>
    refine ⟨by rw [← ha], fun _ _ => rfl, fun _ => rfl, fun u => ?_⟩
    · rw [if_neg]
      intro hu
      obtain ⟨a, hs, -⟩ := hc u p hu
      rw [ha] at hs
      cases hs
  · next a _ =>
    dsimp only
    refine State.LineGone.same (t := ((s.updRx p (fun x => { x with arrival := none })).endCutThrough p .ta
      (a.transmission report bytes)).endCutThrough p .tb (a.transmission report bytes)) ⟨?_, fun q e => ?_, fun q => ?_, fun u => ?_⟩
      ((SameLines.refl _).settleLine p a report bytes)
    · rw [rx_endCutThrough, rx_endCutThrough, rx_updRx_self]
    · rw [rx_endCutThrough, rx_endCutThrough, rx_updRx_of_ne _ _ e]
    · rw [counts_endCutThrough, counts_endCutThrough, counts_updRx]
    · simp only [endCutThrough_sending, out_updRx]
      cases u <;> simp

theorem State.arrival_reportLineEnd {s : State} {p : Port} (hc : s.CuttingHasArrival) (report : EndReport) (bytes : List Byte) :
    ((s.reportLineEnd p report bytes).rx p).arrival = none :=
  Receiver.arrival_of_uncounted (reportLineEnd_gone hc report bytes).own

namespace State.LinesElsewhere

variable {s : State} {p : Port}

theorem reportLineEnd (h : s.LinesElsewhere p) (report : EndReport) (bytes : List Byte) :
    (s.reportLineEnd p report bytes).LinesElsewhere p := by
  have g := State.reportLineEnd_gone (p := p) h.cutting report bytes
  generalize s.reportLineEnd p report bytes = t at g
  have hq := g.others
  refine ⟨fun u q hu => ?_, fun q e => ?_, ?_⟩
  · rw [g.sending] at hu
    split at hu
    · cases hu
    · next hp =>
      have e : q ≠ p := fun e => hp (e ▸ hu)
      rw [Receiver.arrival_of_uncounted (hq q e)]
      exact h.cutting u q hu
  · have hl := Receiver.link_of_uncounted (hq q e)
    have hh := Receiver.hold_of_uncounted (hq q e)
    have hr : t.receives q = s.receives q := by rw [receives_eq, receives_eq, g.counts, hl, hh]
    rw [State.PortConsistent, hr, hl, hh, Receiver.arrival_of_uncounted (hq q e), Receiver.unformed_of_uncounted (hq q e),
      Receiver.ignoring_of_uncounted (hq q e)]
    exact h.others q e
  · rw [Receiver.hold_of_uncounted g.own, Receiver.link_of_uncounted g.own]
    exact h.held

end State.LinesElsewhere

/-- Consistent everywhere, and no LINE in arrival at `p`. -/
structure State.LineOver (s : State) (p : Port) : Prop where
  elsewhere : s.LinesElsewhere p
  none : (s.rx p).arrival = none

/-- The ports and the outputs' cut-through copies are consistent. -/
def State.LinesConsistent (s : State) : Prop := s.PortsConsistent ∧ s.CuttingHasArrival

theorem State.SameLines.linesConsistent {s t : State} (g : s.SameLines t) (h : s.LinesConsistent) : t.LinesConsistent :=
  ⟨fun p => g.portConsistent (h.1 p), g.cutting h.2⟩

theorem State.LinesConsistent.elsewhere {s : State} (h : s.LinesConsistent) (p : Port) : s.LinesElsewhere p :=
  .of_consistent h.1 h.2 p

theorem State.PortConsistent.congr {s t : State} {q : Port} (h : s.PortConsistent q) (hr : t.rx q = s.rx q)
    (hc : t.counts q = s.counts q) : t.PortConsistent q := by
  rw [State.PortConsistent, State.receives_eq, hr, hc, ← State.receives_eq]
  exact h

namespace State.LineOver

variable {s : State} {p : Port}

theorem linesConsistent (h : s.LineOver p) : s.LinesConsistent := h.elsewhere.consistent h.none

theorem same (h : s.LineOver p) {t : State} (g : s.SameLines t) : t.LineOver p :=
  ⟨h.elsewhere.same g, (g.arrival p).trans h.none⟩

theorem updRx (h : s.LineOver p) {f : Receiver → Receiver} (ha : (f (s.rx p)).arrival = (s.rx p).arrival)
    (hl : (f (s.rx p)).hold.isSome = true → (f (s.rx p)).link = .down) : (s.updRx p f).LineOver p :=
  ⟨h.elsewhere.updRx ha hl, by rw [rx_updRx_self, ha, h.none]⟩

theorem setIgnoring (h : s.LineOver p) (b : Bool) : (s.setIgnoring p b).LineOver p := h.updRx rfl h.elsewhere.held

theorem markUnformed (h : s.LineOver p) (u : UnformedLine) : (s.markUnformed p u).LineOver p := h.updRx rfl h.elsewhere.held

theorem clearUnformed (h : s.LineOver p) : (s.clearUnformed p).LineOver p := h.updRx rfl h.elsewhere.held

end State.LineOver

theorem State.LinesElsewhere.lineOver {s : State} {p : Port} (h : s.LinesElsewhere p) (report : EndReport) (bytes : List Byte) :
    (s.reportLineEnd p report bytes).LineOver p :=
  ⟨h.reportLineEnd report bytes, arrival_reportLineEnd h.cutting report bytes⟩

/-! ## The header of a LINE -/

theorem State.applyDecision_sending (s : State) (p : Port) (k : Fin 256) (t u : Trunk) (d : LineDecision) :
    ((s.applyDecision p k t d).out u).sending = if u = t ∧ d = .cutThrough then .cutting p else (s.out u).sending := by
  cases d with
  | cutThrough =>
    rw [State.applyDecision, out_updOut]
    by_cases e : u = t
    · rw [if_pos e, if_pos ⟨e, rfl⟩]
    · rw [if_neg e, if_neg (fun g => e g.1)]
  | discardedDown => simp [State.applyDecision]
  | offRoute => simp [State.applyDecision]
  | discardedCut => simp [State.applyDecision]
  | stored => simp [State.applyDecision]

theorem State.counts_applyDecision (s : State) (p q : Port) (k : Fin 256) (t : Trunk) (d : LineDecision) :
    (s.applyDecision p k t d).counts q = s.counts q := by
  cases d <;> cases q <;> rfl

/-- The LINE that a header brings into arrival: what the switch decided of it (R24, R26, R34, R38). -/
def State.headerLine (s : State) (p : Port) (k : Fin 256) (frame line : Nat) : LineArrival where
  stream := k
  frame := frame
  line := line
  fate := (s.streamRec k).lineFate p frame
  decisions :=
    match (s.streamRec k).lineFate p frame with
    | .belongs _ => ⟨s.lineDecision .ta (s.streamRec k), s.lineDecision .tb (s.streamRec k)⟩
    | .unrouted | .misrouted | .stray => ⟨.offRoute, .offRoute⟩

theorem State.switchLineHeader_eq (s : State) (p : Port) (k : Fin 256) (frame line : Nat) :
    s.switchLineHeader p k frame line =
      ((s.updRx p (fun x => { x with arrival := some (s.headerLine p k frame line) })).applyDecision p k .ta
        ((s.headerLine p k frame line).decisions.get .ta)).applyDecision p k .tb
        ((s.headerLine p k frame line).decisions.get .tb) := rfl

theorem State.rx_switchLineHeader (s : State) (p q : Port) (k : Fin 256) (frame line : Nat) :
    (s.switchLineHeader p k frame line).rx q =
      if q = p then { s.rx p with arrival := some (s.headerLine p k frame line) } else s.rx q := by
  rw [switchLineHeader_eq, rx_applyDecision, rx_applyDecision, rx_updRx]

theorem State.counts_switchLineHeader (s : State) (p q : Port) (k : Fin 256) (frame line : Nat) :
    (s.switchLineHeader p k frame line).counts q = s.counts q := by
  rw [switchLineHeader_eq, counts_applyDecision, counts_applyDecision, counts_updRx]

theorem State.switchLineHeader_sending (s : State) (p : Port) (k : Fin 256) (frame line : Nat) (u : Trunk) :
    ((s.switchLineHeader p k frame line).out u).sending =
      if (s.headerLine p k frame line).decisions.get u = .cutThrough then .cutting p else (s.out u).sending := by
  rw [switchLineHeader_eq, applyDecision_sending, applyDecision_sending, out_updRx]
  cases u <;> simp

namespace State.LinesElsewhere

variable {s : State} {p : Port}

theorem judgeHighLine (h : s.LinesElsewhere p) : (s.judgeHighLine p).LineOver p :=
  (h.lineOver .failed []).same ((SameLines.refl _).updArrivals p (fun c => { c with shape := bumpError c.shape }))

end State.LinesElsewhere

theorem State.LineOver.switchLineHeader {s : State} {p : Port} (h : s.LineOver p) (k : Fin 256) (frame line : Nat) :
    (s.switchLineHeader p k frame line).LinesElsewhere p where
  cutting u q hu := by
    rw [switchLineHeader_sending] at hu
    rw [rx_switchLineHeader]
    split at hu
    · next hd =>
      obtain rfl : p = q := by injection hu
      exact ⟨_, by rw [if_pos rfl], hd⟩
    · obtain ⟨a, ha, hd⟩ := h.elsewhere.cutting u q hu
      have e : q ≠ p := by
        rintro rfl
        rw [h.none] at ha
        cases ha
      exact ⟨a, by rw [if_neg e, ha], hd⟩
  others q e := (h.elsewhere.others q e).congr (by rw [rx_switchLineHeader, if_neg e]) (counts_switchLineHeader ..)
  held := by
    rw [rx_switchLineHeader, if_pos rfl]
    exact h.elsewhere.held

namespace State.LinesElsewhere

variable {s : State} {p : Port}

theorem takeHeader (h : s.LinesElsewhere p) (stream : Byte) (frame line : Nat) :
    (s.takeHeader p stream frame line).LinesElsewhere p := by
  unfold State.takeHeader
  split
  · exact ((h.judgeHighLine.setIgnoring true).markUnformed _).elsewhere
  · exact ((h.lineOver .failed []).setIgnoring false).switchLineHeader _ frame line

theorem ensureHeader (h : s.LinesElsewhere p) (bytes : List Byte) : (s.ensureHeader p bytes).LinesElsewhere p := by
  unfold State.ensureHeader
  split
  · exact h
  · exact h.takeHeader _ _ _

/-! ## The end of a packet -/

theorem framingFault (h : s.LinesElsewhere p) (cause : FramingCause) (bytes : List Byte) :
    (s.framingFault p cause bytes).LineOver p := by
  have hf : ∀ x : State, x.LinesElsewhere p → (((x.countFraming p).reportLineEnd p .failed bytes).setIgnoring p
      (cause = .overLong)).LineOver p := fun x hx =>
    ((hx.same ((SameLines.refl _).updArrivals p _)).lineOver .failed bytes).setIgnoring _
  unfold State.framingFault
  dsimp only
  split
  · exact h.judgeHighLine.setIgnoring _
  · split
    · exact hf _ ((h.setIgnoring false).ensureHeader bytes)
    · exact hf _ h

theorem overLongEnd (h : s.LinesElsewhere p) (hi : (s.rx p).ignoring = true → (s.rx p).arrival = none) (bytes : List Byte) :
    (s.overLongEnd p bytes).LineOver p := by
  unfold State.overLongEnd
  split
  · next hr => exact LineOver.setIgnoring ⟨h, hi (Bool.and_eq_true_iff.mp hr).1⟩ false
  · exact (h.framingFault .overLong bytes).setIgnoring false

end State.LinesElsewhere

theorem judgePacket_ok {atTrunk : Bool} {bytes : List Byte} {packet : Packet} (h : judgePacket atTrunk bytes = .ok packet) :
    readPacket atTrunk bytes = some packet := by
  unfold judgePacket at h
  split at h
  · cases h
  · split at h
    · cases h
    · split at h
      · next hp =>
        injection h with h
        rw [hp, h]
      · cases h

/-- What begins as a LINE and is read at all is read as a LINE (R5). -/
theorem readPacket_of_line {atTrunk : Bool} {bytes : List Byte} {packet : Packet} (hl : hasLineHeader bytes = true)
    (h : readPacket atTrunk bytes = some packet) :
    packet = .line (streamOf (bytes.getD 1 0)) (wordAt bytes 2) (wordAt bytes 4) ((bytes.drop 6).take Config.lineBytes) := by
  have hk : byteAt bytes 0 = 2 := by
    unfold hasLineHeader at hl
    simp only [Bool.and_eq_true, decide_eq_true_eq] at hl
    exact hl.1
  unfold readPacket at h
  simp only [hk] at h
  norm_num at h
  exact h.2.symm

namespace State.LineOver

variable {s : State} {p : Port}

theorem handLine (h : s.LinesElsewhere p) (frame line : Nat) (pixels bytes : List Byte) :
    (s.handLine p frame line pixels bytes).LineOver p := by
  have hr := h.same ((SameLines.refl _).updArrivals p (fun c => { c with received := bumpTraffic c.received }))
  cases p with
  | cam i => exact (hr.same ((SameLines.refl _).cameraLine i frame line pixels)).lineOver .good bytes
  | trunk u => exact hr.lineOver .good bytes

theorem handOn (h : s.LineOver p) (packet : Packet) (bytes : List Byte) : (s.handOn p packet bytes).LineOver p := by
  have hr : s.SameLines (s.countReceived p) := (SameLines.refl _).updArrivals p _
  unfold State.handOn
  split
  · cases p with
    | cam i => exact h.same ((hr.openCameraFrame i _).switchFrameOpen _ _ _ _ _)
    | trunk u => exact h.same (hr.switchFrameOpen _ _ _ _ _)
  · cases p with
    | cam i => exact h.same ((hr.closeCameraFrame i _ _).switchFrameClose _ _ _ _)
    | trunk u => exact h.same (hr.switchFrameClose _ _ _ _)
  · exact handLine h.elsewhere _ _ _ bytes
  · exact h.same (hr.takeOrder _ _ _ _ _)
  · exact h.same (hr.forward _ _ _)
  · exact h
  · exact h

theorem judgeArrival (h : s.LineOver p) (bytes : List Byte) : (s.judgeArrival p bytes).LineOver p := by
  unfold State.judgeArrival
  split
  · exact (h.elsewhere.same ((SameLines.refl _).countFault p _)).lineOver .failed bytes
  · exact h.handOn _ bytes

end State.LineOver

namespace State.LinesElsewhere

variable {s : State} {p : Port}

/-- The end of a packet that is a LINE ends the LINE in arrival, whatever it is judged. -/
theorem judgeArrival_of_line (h : s.LinesElsewhere p) {bytes : List Byte} (hl : hasLineHeader bytes = true) :
    (s.judgeArrival p bytes).LineOver p := by
  unfold State.judgeArrival
  split
  · exact (h.same ((SameLines.refl _).countFault p _)).lineOver .failed bytes
  · next hj =>
    rw [readPacket_of_line hl (judgePacket_ok hj)]
    exact LineOver.handLine h _ _ _ bytes

theorem packetEnd (h : s.LinesElsewhere p) (hi : (s.rx p).ignoring = true → (s.rx p).arrival = none) (bytes : List Byte) :
    (s.packetEnd p bytes).LineOver p := by
  unfold State.packetEnd
  split
  · exact h.overLongEnd hi bytes
  · split
    · next hl =>
      split
      · exact h.judgeHighLine.setIgnoring false
      · exact ((h.setIgnoring false).ensureHeader bytes).judgeArrival_of_line hl
    · exact ((h.lineOver .failed []).setIgnoring false).judgeArrival bytes

theorem discardPoisoned (h : s.LinesElsewhere p) (bytes : List Byte) : (s.discardPoisoned p bytes).LineOver p := by
  cases p with
  | cam i => exact (h.same ((SameLines.refl _).updArrivals _ _)).lineOver .failed bytes
  | trunk u => exact (h.same ((SameLines.refl _).countPoisoned _)).lineOver .failed bytes

theorem poisonedArrival (h : s.LinesElsewhere p) (hi : (s.rx p).ignoring = true → (s.rx p).arrival = none) (bytes : List Byte) :
    (s.poisonedArrival p bytes).LineOver p := by
  have he := (h.setIgnoring false).ensureHeader bytes
  unfold State.poisonedArrival
  dsimp only
  (repeat' split)
  · exact h.overLongEnd hi bytes
  · exact h.judgeHighLine.setIgnoring false
  · exact (he.same (((SameLines.refl _).countPoisoned p).updArrivals p _)).lineOver .poisoned bytes
  · exact he.discardPoisoned bytes
  · exact ((h.lineOver .failed []).setIgnoring false).elsewhere.discardPoisoned bytes

end State.LinesElsewhere

namespace State.LinesConsistent

variable {s : State}

theorem ignoring_none (h : s.LinesConsistent) {p : Port} (hi : (s.rx p).ignoring = true) : (s.rx p).arrival = none := by
  rw [← Option.not_isSome_iff_eq_none]
  intro ha
  obtain ⟨-, -, hn⟩ := (h.1 p).2 ha
  rw [hn] at hi
  cases hi

theorem unformed_none (h : s.LinesConsistent) {p : Port} {u : UnformedLine} (hu : (s.rx p).unformed = some u) :
    (s.rx p).arrival = none := by
  rw [← Option.not_isSome_iff_eq_none]
  intro ha
  obtain ⟨-, hn, -⟩ := (h.1 p).2 ha
  rw [hn] at hu
  cases hu

theorem not_receives_none (h : s.LinesConsistent) {p : Port} (hr : ¬s.receives p = true) : (s.rx p).arrival = none := by
  rw [← Option.not_isSome_iff_eq_none]
  exact fun ha => hr ((h.1 p).2 ha).1

/-- A packet that is over leaves no LINE in arrival when what the port does with it leaves none. -/
theorem packetOver (h : s.LinesConsistent) (p : Port) (bytes : List Byte) (goesOn : Bool) (f : State → State)
    (hf : ∀ x : State, x.LinesElsewhere p → ((x.rx p).ignoring = true → (x.rx p).arrival = none) → (f x).LineOver p) :
    (s.packetOver p bytes goesOn f).LinesConsistent := by
  unfold State.packetOver
  split
  · refine (hf _ (h.elsewhere p).clearUnformed ?_).linesConsistent
    rw [State.clearUnformed, rx_updRx_self]
    exact h.ignoring_none
  · next hn =>
    have ha : (s.rx p).arrival = none := by
      by_cases hr : s.receives p = true
      · have hu : s.isUnformed p bytes = true := by simpa [hr] using hn
        unfold State.isUnformed at hu
        split at hu
        · next hu' => exact h.unformed_none hu'
        · cases hu
      · exact h.not_receives_none hr
    exact ((LineOver.clearUnformed ⟨h.elsewhere p, ha⟩).setIgnoring goesOn).linesConsistent

/-! ## Headers and link states -/

theorem lineHeader (h : s.LinesConsistent) (p : Port) (stream : Byte) (frame line : BitVec 16) :
    (s.onCommand (.lineHeader p stream frame line)).LinesConsistent := by
  simp only [State.onCommand]
  split
  · next hr =>
    have hc := (h.elsewhere p).clearUnformed
    unfold State.takeHeader
    split
    · exact ((hc.judgeHighLine.setIgnoring true).markUnformed _).linesConsistent
    · have ho := (hc.lineOver .failed []).setIgnoring false
      have hs := ho.switchLineHeader ((s.clearUnformed p).arrivalStream p stream) frame.toNat line.toNat
      refine ⟨fun q => ?_, hs.cutting⟩
      by_cases e : q = p
      · subst e
        refine ⟨hs.held, fun _ => ?_⟩
        have hg := (State.reportLineEnd_gone (p := q) hc.cutting .failed [])
        have hrx := hg.own
        rw [State.clearUnformed, rx_updRx_self] at hrx
        rw [State.receives_eq, rx_switchLineHeader, if_pos rfl, counts_switchLineHeader, State.setIgnoring, rx_updRx_self,
          counts_updRx, hg.counts, State.clearUnformed, counts_updRx]
        rw [State.receives_eq] at hr
        have hl := Receiver.link_of_uncounted hrx
        have hh := Receiver.hold_of_uncounted hrx
        have hu := Receiver.unformed_of_uncounted hrx
        exact ⟨by rw [← hr]; exact congrArg₂ (fun (l : LinkState) (h : Option Nat) => decide (l = .up) && h.isNone && s.counts q) hl hh,
          hu, rfl⟩
      · exact hs.others q e
  · next hr => exact ((LineOver.setIgnoring ⟨h.elsewhere p, h.not_receives_none hr⟩ false).markUnformed _).linesConsistent

end State.LinesConsistent
end Sys2Proof.Machine

/-! # Proofs: lines in arrival, over a step

The operations that take a link DOWN or turn a port off, the orders, the resets, and the step. -/

namespace Sys2Proof.Machine

/-! ## A port that is lost -/

namespace State.LineOver

variable {s : State} {p : Port}

/-- An output that is emptied sends nothing, and so cuts nothing (R37). -/
theorem outputLinkDown (h : s.LineOver p) (t : Trunk) : (s.outputLinkDown t).LineOver p := by
  have hrx : ∀ q, (s.outputLinkDown t).rx q = s.rx q := fun q => rx_outputLinkDown s t q
  have hcounts : ∀ q, (s.outputLinkDown t).counts q = s.counts q := fun q => by cases q <;> rfl
  have hsending : ∀ u, ((s.outputLinkDown t).out u).sending = if u = t then .idle else (s.out u).sending := fun u => by
    cases t <;> cases u <;> rfl
  refine ⟨⟨fun u q hu => ?_, fun q e => (h.elsewhere.others q e).congr (hrx q) (hcounts q), ?_⟩, ?_⟩
  · rw [hsending] at hu
    split at hu
    · cases hu
    · rw [hrx]
      exact h.elsewhere.cutting u q hu
  · rw [hrx]
    exact h.elsewhere.held
  · rw [hrx]
    exact h.none

theorem portLost (h : s.LineOver p) : (s.portLost p).LineOver p := by
  cases p with
  | cam i => exact h.same (((SameLines.refl _).loseCameraFrame i).originLoss _)
  | trunk t => exact (h.outputLinkDown t).same ((SameLines.refl _).originLoss _)

end State.LineOver

namespace State.LinesElsewhere

variable {s : State} {p : Port}

theorem abandonArrival (h : s.LinesElsewhere p) : (s.abandonArrival p).LineOver p := by
  unfold State.abandonArrival
  split
  · next ha => exact ⟨h, ha⟩
  · exact ((h.same (t := { s with freeUsed := s.freeUsed + 1 }) ((SameLines.refl s).of_frame rfl rfl)).lineOver .failed _).markUnformed _

theorem restartPort (h : s.LinesElsewhere p) : (s.restartPort p).LineOver p := by
  have hd := h.abandonArrival.updRx
    (f := fun x => { x with link := .down, hold := some Config.holdTime, ignoring := false }) rfl (fun _ => rfl)
  have hn := hd.same (((SameLines.refl _).clearErrors p).of_frame
    (State.offerIf_frame _ ((s.rx p).link = .up) (.link p .up .down)).1 (State.offerIf_frame _ _ _).2.1)
  cases p with
  | cam i => exact (hn.same ((SameLines.refl _).lensEvent i _)).portLost
  | trunk t => exact hn.portLost

theorem disablePort {i : Fin 8} (h : s.LinesElsewhere (.cam i)) : (s.disablePort i).LineOver (.cam i) :=
  h.abandonArrival.same ((((SameLines.refl _).lensEvent i _).loseCameraFrame i).originLoss _)

/-- What camera port `i` holds besides its receiver does not bear on the other ports. -/
theorem updCam {i : Fin 8} (h : s.LinesElsewhere (.cam i)) {f : CameraPort → CameraPort}
    (hf : (f (Tab.get s.cams i)).rx = (Tab.get s.cams i).rx) : (s.updCam i f).LinesElsewhere (.cam i) := by
  have hrx := rx_updCam_of_eq hf
  refine ⟨fun u q hu => ?_, fun q e => ?_, ?_⟩
  · rw [hrx]
    exact h.cutting u q hu
  · refine (h.others q e).congr (hrx q) ?_
    cases q with
    | trunk u => rfl
    | cam j =>
      have hj : j ≠ i := fun g => e (congrArg Port.cam g)
      simp only [State.counts, updCam_cams, Tab.get_upd_of_ne _ _ hj]
  · rw [hrx]
    exact h.held

end State.LinesElsewhere

namespace State.LinesConsistent

variable {s : State}

theorem linkUp (h : s.LinesConsistent) (p : Port) : (s.linkUp p).LinesConsistent := by
  unfold State.linkUp
  split
  · next hd =>
    obtain ⟨hl, hh⟩ := Bool.and_eq_true_iff.mp hd
    have hl := of_decide_eq_true hl
    have ha : (s.rx p).arrival = none := h.not_receives_none (by simp [receives_eq, hl])
    have ho := LineOver.updRx (f := fun x => { x with link := .up }) ⟨h.elsewhere p, ha⟩ rfl
      (fun hs => absurd hs (by simpa using hh))
    exact (ho.same ((SameLines.refl _).offer _)).linesConsistent
  · exact h

theorem linkDown (h : s.LinesConsistent) (p : Port) (arrived : Option (List Byte)) : (s.linkDown p arrived).LinesConsistent := by
  have he := h.elsewhere p
  have hlost : ∀ x : State, x.LineOver p → (((x.updRx p (fun x => { x with
      link := .down, unformed := none, ignoring := false })).offer (.link p .up .down)).portLost p).LinesConsistent := fun x hx =>
    ((hx.updRx (f := fun x => { x with link := .down, unformed := none, ignoring := false }) rfl fun _ => rfl).same
      ((SameLines.refl _).offer _)).portLost.linesConsistent
  unfold State.linkDown
  dsimp only
  (repeat' split)
  · exact hlost _ (he.framingFault _ _)
  · exact hlost _ (he.lineOver _ _)
  · exact h

theorem restartHoldEnd (h : s.LinesConsistent) (p : Port) : (s.updRx p (fun x => { x with hold := none })).LinesConsistent := by
  have he := (h.elsewhere p).updRx (f := fun x => { x with hold := none }) rfl (fun hs => by cases hs)
  refine ⟨fun q => ?_, he.cutting⟩
  by_cases e : q = p
  · subst e
    refine ⟨he.held, ?_⟩
    rw [receives_eq, rx_updRx_self, counts_updRx]
    intro ha
    obtain ⟨hr, hu, hi⟩ := (h.1 q).2 ha
    rw [receives_eq, Bool.and_assoc, Bool.and_eq_true_iff, Bool.and_eq_true_iff] at hr
    obtain ⟨hl, -, hc⟩ := hr
    exact ⟨by simp only [hl, hc, Option.isNone_none, Bool.and_self], hu, hi⟩
  · exact he.others q e

/-- An output without a LINE cut through may start or end a packet (R30, R31). -/
theorem updOut (h : s.LinesConsistent) (u : Trunk) {f : Output → Output}
    (hf : ∀ p, (f (s.out u)).sending = .cutting p → (s.out u).sending = .cutting p) : (s.updOut u f).LinesConsistent := by
  refine ⟨fun q => PortConsistent.congr (h.1 q) (rx_updOut ..) (by cases q <;> rfl), fun v q hv => ?_⟩
  rw [rx_updOut]
  rw [out_updOut] at hv
  split at hv
  · next e => exact h.2 v q (e ▸ hf q hv)
  · exact h.2 v q hv

theorem transmissionStart (h : s.LinesConsistent) (u : Trunk) : (s.onCommand (.transmissionStart u)).LinesConsistent := by
  simp only [State.onCommand]
  split
  · refine h.updOut u fun p hp => ?_
    unfold Output.startNext at hp
    split at hp
    · cases hp
    · split at hp
      · exact hp
      · split at hp <;> cases hp
  · exact h

theorem transmissionEnd (h : s.LinesConsistent) (u : Trunk) : (s.transmissionEnd u).LinesConsistent := by
  unfold State.transmissionEnd
  split
  · next p _ _ =>
    have ho := h.updOut u (f := fun o => { o with sending := .idle, lastTx := some ⟨p.wire, false⟩ }) (fun _ hp => by cases hp)
    exact ((SameLines.refl _).updTrunkCounters u _).linesConsistent ho
  · exact h
  · exact h

end State.LinesConsistent

/-! ## Orders -/

/-- The effect of an order keeps the lines in arrival consistent. -/
def KeepsLines (effect : State → State × Answer) : Prop := ∀ s : State, s.LinesConsistent → (effect s).1.LinesConsistent

theorem KeepsLines.of_same {effect : State → State × Answer} (h : ∀ s : State, s.SameLines (effect s).1) : KeepsLines effect :=
  fun s hs => (h s).linesConsistent hs

/-- An effect that leaves the camera ports and the trunks as they are. -/
theorem KeepsLines.of_frame {effect : State → State × Answer} (h : ∀ s, (effect s).1.cams = s.cams ∧ (effect s).1.trunks = s.trunks) :
    KeepsLines effect := .of_same fun s => (State.SameLines.refl s).of_frame (h s).1 (h s).2

theorem keepsLines_setPort (ps : List Byte) : KeepsLines (setPortEffect ps) := by
  intro s hs
  unfold setPortEffect
  split
  · exact hs
  · next o _ =>
    dsimp only
    split
    · exact hs
    · have hset := (hs.elsewhere (.cam o.port)).updCam
        (f := fun c => { c with enable := o.enable, stream := o.stream, profile := o.profile }) rfl
      have hstay : ¬((Tab.get s.cams o.port).enable && !o.enable) = true →
          (s.updCam o.port (fun c => { c with
            enable := o.enable, stream := o.stream, profile := o.profile })).LinesConsistent := fun he => by
        refine ⟨fun q => ?_, hset.cutting⟩
        by_cases e : q = .cam o.port
        · subst e
          refine ⟨hset.held, ?_⟩
          rw [State.receives_eq, State.rx_updCam_of_eq rfl]
          intro ha
          obtain ⟨hr, hu, hi⟩ := (hs.1 _).2 ha
          rw [State.receives_eq, Bool.and_eq_true_iff] at hr
          obtain ⟨hl, hc⟩ := hr
          have hon : o.enable = true := by
            have hc : (Tab.get s.cams o.port).enable = true := hc
            simpa [hc] using he
          exact ⟨by rw [hl]; simp [State.counts, hon], hu, hi⟩
        · exact hset.others q e
      have hl : ∀ (b : Prop) [Decidable b] (x : State), x.LinesConsistent →
          (if b then x.lensEvent o.port Lens.scaleChanged else x).LinesConsistent := fun b _ x hx =>
        (State.SameLines.ite b ((State.SameLines.refl x).lensEvent o.port _) (.refl x)).linesConsistent hx
      refine hl _ _ ?_
      split
      · exact hset.disablePort.linesConsistent
      · next he =>
        exact (State.SameLines.ite _ ((State.SameLines.refl _).originLoss (.cam o.port)) (.refl _)).linesConsistent (hstay he)

theorem keepsLines_restartPort (ps : List Byte) : KeepsLines (restartPortEffect ps) := by
  intro s hs
  unfold restartPortEffect
  split
  · exact hs
  · next p _ =>
    dsimp only
    exact (hs.elsewhere p).restartPort.linesConsistent

theorem keepsLines_loadStream (ps : List Byte) : KeepsLines (loadStreamEffect ps) := by
  refine .of_same fun s => ?_
  have hr := State.SameLines.refl s
  unfold loadStreamEffect
  split
  · exact hr
  · next k e _ =>
    dsimp only
    split
    · exact hr
    · have hc := fun b [Decidable b] =>
        State.SameLines.ite b ((hr.closeCut k).updFlow k (fun f => { f with cut := ⟨false, false⟩ })) hr
      have hb := fun b c [Decidable b] [Decidable c] =>
        State.SameLines.ite b ((hc c).deliver (s.streamRec k).entry Channel.unbind) (hc c)
      have he := fun b c [Decidable b] [Decidable c] => (hb b c).updStream k (fun r => { r with entry := e })
      exact State.SameLines.ite _ ((he _ _).deliver e (Channel.bind k)) (he _ _)

theorem keepsLines_clearCounts (ps : List Byte) : KeepsLines (clearCountsEffect ps) := by
  refine .of_same fun s => ?_
  have hr := State.SameLines.refl s
  unfold clearCountsEffect
  split
  · exact hr.of_frame rfl rfl
  · exact hr.clearPort _
  · exact hr.of_frame rfl rfl
  · exact hr

theorem keepsLines_setChannel (ps : List Byte) : KeepsLines (setChannelEffect ps) := .of_frame fun s => by
  unfold setChannelEffect
  dsimp only
  (repeat' split) <;> simp

theorem keepsLines_loadView (ps : List Byte) : KeepsLines (loadViewEffect ps) := .of_frame fun s => by
  unfold loadViewEffect
  split <;> simp

theorem keepsLines_setScreen (ps : List Byte) : KeepsLines (setScreenEffect ps) := .of_frame fun s => by
  unfold setScreenEffect
  dsimp only
  (repeat' split) <;> simp

theorem keepsLines_loadTrigger (ps : List Byte) : KeepsLines (loadTriggerEffect ps) := .of_frame fun s => by
  unfold loadTriggerEffect
  split <;> simp

theorem keepsLines_setLines (ps : List Byte) : KeepsLines (setLinesEffect ps) := .of_frame fun s => by simp [setLinesEffect]

theorem keepsLines_pinView (ps : List Byte) : KeepsLines (pinViewEffect ps) := .of_frame fun s => by
  unfold pinViewEffect
  split <;> simp

theorem keepsLines_releaseView (ps : List Byte) : KeepsLines (releaseViewEffect ps) := .of_frame fun s => by
  unfold releaseViewEffect
  split <;> simp

theorem keepsLines_loadProfile (ps : List Byte) : KeepsLines (loadProfileEffect ps) := .of_frame fun s => by
  unfold loadProfileEffect
  dsimp only
  (repeat' split) <;> simp

theorem keepsLines_learn (ps : List Byte) : KeepsLines (learnEffect ps) := .of_frame fun s => by
  unfold learnEffect
  split <;> simp

theorem keepsLines_setAlert (ps : List Byte) : KeepsLines (setAlertEffect ps) := .of_frame fun s => by
  unfold setAlertEffect
  split <;> simp

theorem keepsLines_query (ps : List Byte) : KeepsLines (queryEffect ps) := .of_frame fun s => by
  unfold queryEffect
  dsimp only
  (repeat' split) <;> simp

theorem keepsLines_queryZones (ps : List Byte) : KeepsLines (queryZonesEffect ps) := .of_frame fun s => by
  unfold queryZonesEffect
  split <;> simp

theorem keepsLines_baselines (ps : List Byte) : KeepsLines (baselinesEffect ps) := .of_frame fun s => by
  unfold baselinesEffect
  (repeat' split) <;> simp

theorem EntryKind.keepsLines_effect (k : EntryKind) (ps : List Byte) : KeepsLines (k.effect ps) := by
  cases k with
  | hub => exact .of_frame fun _ => ⟨rfl, rfl⟩
  | port => exact keepsLines_setPort ps
  | profile => exact keepsLines_loadProfile ps
  | baselines => exact keepsLines_baselines ps
  | stream => exact keepsLines_loadStream ps
  | channel => exact keepsLines_setChannel ps
  | view => exact keepsLines_loadView ps
  | trigger => exact keepsLines_loadTrigger ps
  | filterTimes => exact keepsLines_setLines _
  | screen => exact keepsLines_setScreen ps
  | alert => exact keepsLines_setAlert ps

/-! ## The load and the SAVE job -/

theorem State.eraseDone_ports (s : State) : s.eraseDone.cams = s.cams ∧ s.eraseDone.trunks = s.trunks := by
  unfold State.eraseDone
  (repeat' split) <;> simp

theorem State.eraseTimeout_ports (s : State) : s.eraseTimeout.cams = s.cams ∧ s.eraseTimeout.trunks = s.trunks := by
  unfold State.eraseTimeout
  (repeat' split) <;> simp

theorem State.pageDone_ports (s : State) : s.pageDone.cams = s.cams ∧ s.pageDone.trunks = s.trunks := by
  unfold State.pageDone
  dsimp only
  (repeat' split) <;> simp

theorem State.pageTimeout_ports (s : State) : s.pageTimeout.cams = s.cams ∧ s.pageTimeout.trunks = s.trunks := by
  unfold State.pageTimeout
  (repeat' split) <;> simp

theorem State.judgeLoad_ports (s : State) (answers : Bool) :
    (s.judgeLoad answers).cams = s.cams ∧ (s.judgeLoad answers).trunks = s.trunks := by
  unfold State.judgeLoad
  split <;> simp

namespace State.LinesConsistent

variable {s : State}

/-- The same camera ports and trunks. -/
theorem of_frame (h : s.LinesConsistent) {t : State} (hc : t.cams = s.cams) (ht : t.trunks = s.trunks) : t.LinesConsistent :=
  ((SameLines.refl s).of_frame hc ht).linesConsistent h

theorem onOrder (h : s.LinesConsistent) (codes : Byte → Bool) {run : Fin 2 → HeldOrder → State → State}
    (hr : ∀ i o, (run i o s).LinesConsistent) : (s.onOrder codes run).LinesConsistent := by
  unfold State.onOrder
  (repeat' split)
  · exact hr _ _
  · exact h
  · exact h

theorem answer (h : s.LinesConsistent) (i : Fin 2) (o : HeldOrder) (a : Answer) : (s.answer i o a).LinesConsistent :=
  h.of_frame rfl rfl

theorem carryOut (h : s.LinesConsistent) (lengthOk : Bool) {effect : State → State × Answer} (he : KeepsLines effect) :
    (s.carryOut lengthOk effect).1.LinesConsistent := by
  unfold State.carryOut
  (repeat' split)
  · exact h
  · exact h
  · exact he s h

theorem runOrder (h : s.LinesConsistent) (code : Byte) (length : Nat) {effect : List Byte → State → State × Answer}
    (he : ∀ ps, KeepsLines (effect ps)) : (s.runOrder code length effect).LinesConsistent :=
  h.onOrder _ fun i o => (h.carryOut _ (he o.params)).answer i o _

theorem applyNext (h : s.LinesConsistent) : s.applyNext.LinesConsistent := by
  have ha : ∀ e, (s.applyEntry e).LinesConsistent := fun e => by
    unfold State.applyEntry
    dsimp only
    split
    · exact h.of_frame rfl rfl
    · exact e.kind.keepsLines_effect _ s h
  unfold State.applyNext
  split
  · exact (ha _).of_frame (State.continueLoad_frame ..).1 (State.continueLoad_frame ..).2.1
  · exact h
  · exact h
  · exact h

/-! ## Resets and time -/

/-- After a reset no port has a LINE in arrival and no output sends. -/
theorem resetWith (cause : ResetCause) (tag : Option Byte) (held : Bool) (straps : BitVec 4) (raw : Vector Bool 8) (flash : Flash)
    (n : Nat) (l : List Instr) : (State.resetWith cause tag held straps raw flash n l).LinesConsistent := by
  have hrx : ∀ p, (State.resetWith cause tag held straps raw flash n l).rx p = .reset := fun p => by
    cases p with
    | cam i => simp [State.rx, State.resetWith, CameraPort.reset]
    | trunk t => cases t <;> rfl
  refine ⟨fun p => ?_, fun u p hu => ?_⟩
  · constructor <;> (rw [hrx]; intro h; cases h)
  · cases u <;> cases hu

theorem takeReset (s : State) (cause : ResetCause) (tag : Option Byte) (held : Bool) (straps : BitVec 4) :
    (s.takeReset cause tag held straps).LinesConsistent := resetWith _ _ _ _ _ _ _ _

theorem saveSettings (h : s.LinesConsistent) (i : Fin 2) (o : HeldOrder) : (s.saveSettings i o).LinesConsistent := by
  unfold State.saveSettings
  (repeat' split) <;> exact h.of_frame rfl rfl

theorem resetHub (h : s.LinesConsistent) (i : Fin 2) (o : HeldOrder) : (s.resetHub i o).LinesConsistent := by
  unfold State.resetHub
  (repeat' split)
  · exact h.answer i o _
  · exact h.answer i o _
  · exact takeReset _ _ _ _ _

/-- A millisecond moves the holds on, and stops none (R15). -/
theorem tick (h : s.LinesConsistent) : s.tick.LinesConsistent := by
  have hrx : ∀ p, s.tick.rx p = (s.rx p).tick := fun p => by
    cases p with
    | cam i => simp [State.rx, State.tick]
    | trunk t => cases t <;> rfl
  have hcounts : ∀ p, s.tick.counts p = s.counts p := fun p => by
    cases p with
    | cam i => simp [State.counts, State.tick]
    | trunk t => rfl
  refine ⟨fun p => ?_, fun u p hu => ?_⟩
  · have hr : s.tick.receives p = s.receives p := by
      have hh : (s.rx p).tick.hold.isNone = (s.rx p).hold.isNone := Option.isNone_map
      rw [receives_eq, receives_eq, hrx, hcounts, hh]
      rfl
    have hh : (s.rx p).tick.hold.isSome = (s.rx p).hold.isSome := Option.isSome_map
    rw [hr, hrx, hh]
    exact h.1 p
  · rw [hrx]
    exact h.2 u p (by cases u <;> exact hu)

/-! ## One step -/

theorem onCommand (h : s.LinesConsistent) (c : Instr) : (s.onCommand c).LinesConsistent := by
  cases c with
  | powerOn straps => exact takeReset _ _ _ _ _
  | resetLineAsserted => exact takeReset _ _ _ _ _
  | resetLineReleased straps => exact h
  | framingFault p cause bytes => exact h.packetOver p bytes _ _ fun _ hx _ => hx.framingFault cause bytes
  | lineHeader p stream frame line => exact h.lineHeader p stream frame line
  | packetEnd p bytes => exact h.packetOver p bytes _ _ fun _ hx hi => hx.packetEnd hi bytes
  | poisonedArrival p bytes => exact h.packetOver p bytes _ _ fun _ hx hi => hx.poisonedArrival hi bytes
  | linkUp p => exact h.linkUp p
  | linkDown p arrived => exact h.linkDown p arrived
  | restartHoldEnd p => exact h.restartHoldEnd p
  | transmissionStart u => exact h.transmissionStart u
  | transmissionEnd u => exact h.transmissionEnd u
  | frameAgeStale c => exact h.of_frame (State.channelEvent_frame ..).1 (State.channelEvent_frame ..).2.1
  | frameAgeLost c => exact h.of_frame (State.channelEvent_frame ..).1 (State.channelEvent_frame ..).2.1
  | doorLineChange d level => exact h.of_frame (State.doorChange_frame ..).1 (State.doorChange_frame ..).2.1
  | filterWaitExpiry d => exact h.of_frame (State.filterExpiry_frame ..).1 (State.filterExpiry_frame ..).2.1
  | lingerExpiry n => exact h.of_frame (State.lingerExpiry_frame ..).1 (State.lingerExpiry_frame ..).2.1
  | silenceExpiry => exact h.of_frame (State.silenceExpiry_frame ..).1 (State.silenceExpiry_frame ..).2.1
  | outputFrameStart sc => exact h.of_frame (State.frameStart_frame ..).1 (State.frameStart_frame ..).2.1
  | pulseBoundary a => exact h.of_frame rfl rfl
  | noticeMove => exact (SameLines.refl s).moveNotice.linesConsistent h
  | presence => exact h.runOrder 1 0 fun _ => .of_frame fun _ => ⟨rfl, rfl⟩
  | setHub => exact h.runOrder 2 2 fun _ => .of_frame fun _ => ⟨rfl, rfl⟩
  | setPort => exact h.runOrder 3 4 keepsLines_setPort
  | restartPort => exact h.runOrder 4 1 keepsLines_restartPort
  | loadStream => exact h.runOrder 5 8 keepsLines_loadStream
  | setChannel => exact h.runOrder 6 6 keepsLines_setChannel
  | loadView => exact h.onOrder _ fun i o => (h.carryOut _ (keepsLines_loadView _)).answer i o _
  | setScreen => exact h.runOrder 8 3 keepsLines_setScreen
  | loadTrigger => exact h.runOrder 9 10 keepsLines_loadTrigger
  | setLines => exact h.runOrder 10 11 keepsLines_setLines
  | pinView => exact h.runOrder 11 3 keepsLines_pinView
  | releaseView => exact h.runOrder 12 1 keepsLines_releaseView
  | loadProfile => exact h.runOrder 13 13 keepsLines_loadProfile
  | learn => exact h.runOrder 14 1 keepsLines_learn
  | setAlert => exact h.runOrder 15 9 keepsLines_setAlert
  | query => exact h.runOrder 16 3 keepsLines_query
  | queryZones => exact h.runOrder 17 1 keepsLines_queryZones
  | clearCounts => exact h.runOrder 18 2 keepsLines_clearCounts
  | saveSettings => exact h.onOrder _ fun i o => h.saveSettings i o
  | resetHub => exact h.onOrder _ fun i o => h.resetHub i o
  | badCode =>
    have he : KeepsLines (fun s => (s, .refused .badCode)) := .of_frame fun _ => ⟨rfl, rfl⟩
    exact h.onOrder _ fun i o => (h.carryOut _ he).answer i o _
  | eraseDone => exact h.of_frame (State.eraseDone_ports s).1 (State.eraseDone_ports s).2
  | eraseTimeout => exact h.of_frame (State.eraseTimeout_ports s).1 (State.eraseTimeout_ports s).2
  | pageDone => exact h.of_frame (State.pageDone_ports s).1 (State.pageDone_ports s).2
  | pageTimeout => exact h.of_frame (State.pageTimeout_ports s).1 (State.pageTimeout_ports s).2
  | imageJudged answers => exact h.of_frame (State.judgeLoad_ports s answers).1 (State.judgeLoad_ports s answers).2
  | imageEntryApply => exact h.applyNext

theorem onCommandHeld (h : s.LinesConsistent) (c : Instr) : (s.onCommandHeld c).LinesConsistent := by
  unfold State.onCommandHeld
  split
  · exact takeReset _ _ _ _ _
  · exact h.of_frame rfl rfl
  · exact h.of_frame rfl rfl
  · exact h

end State.LinesConsistent

/-- Settles O54: each command keeps the lines in arrival consistent at every port. -/
theorem everyStepKeepsArrivalsConsistent : Obligations.EveryStepKeepsArrivalsConsistent := fun _ _ hp hc e =>
  step_keeps (P := State.LinesConsistent) (fun _ _ hs => hs.of_frame rfl rfl) (fun _ c _ hs => hs.onCommand c)
    (fun _ c _ hs => hs.onCommandHeld c) (fun _ hs => hs.tick) ⟨hp, hc⟩ e

end Sys2Proof.Machine

/-! # Proofs: reset, links and transmissions

The invariants at reset, and the commands that bring a link UP, end a hold, and start and end a transmission. -/

namespace Sys2Proof.Machine

/-! ## The records at reset -/

section
variable (cause : ResetCause) (tag : Option Byte) (held : Bool) (straps : BitVec 4) (raw : Vector Bool 8) (flash : Flash) (n : Nat)
  (l : List Instr)

@[simp] theorem State.channel_resetWith (c : Fin 12) :
    (State.resetWith cause tag held straps raw flash n l).channel c = .reset := Tab.get_replicate _ _

@[simp] theorem State.streamRec_resetWith (k : Fin 256) :
    (State.resetWith cause tag held straps raw flash n l).streamRec k = .reset := Tab.get_replicate _ _

@[simp] theorem State.lens_resetWith (i : Fin 8) :
    (State.resetWith cause tag held straps raw flash n l).lens i = .reset := Tab.get_replicate _ _

@[simp] theorem State.screen_resetWith (sc : Fin 2) :
    (State.resetWith cause tag held straps raw flash n l).screen sc = .reset := Tab.get_replicate _ _

@[simp] theorem State.trigger_resetWith (t : Fin 16) :
    (State.resetWith cause tag held straps raw flash n l).trigger t = .reset := Tab.get_replicate _ _

@[simp] theorem State.door_resetWith (d : Fin 8) :
    (State.resetWith cause tag held straps raw flash n l).door d = .reset (Tab.get raw d) := Tab.get_map _ _ _

@[simp] theorem State.out_resetWith (t : Trunk) :
    (State.resetWith cause tag held straps raw flash n l).out t = .reset := by cases t <;> rfl

end

theorem Output.reset_bounded : Output.reset.Bounded := by simp [Output.Bounded, Output.reset]

theorem Output.reset_quiet : Output.reset.Quiet := by simp [Output.Quiet, Output.reset]

theorem Channel.reset_slot (i : Fin 3) : Channel.reset.slot i = .reset := Tab.get_replicate _ _

theorem Channel.reset_consistent : Channel.reset.Consistent := by
  simp only [Channel.Consistent, Channel.reset_slot]
  simp [Channel.reset, Slot.reset]

theorem Lens.reset_consistent : Lens.reset.Consistent := by
  simp [Lens.Consistent, Lens.reset, Zones.zero]

theorem Profile.reset_consistent : Profile.reset.Consistent := by simp [Profile.Consistent, Profile.reset]

/-- Without a trigger that claims and without a pin the default view is chosen (R112). -/
theorem chooseView_reset (sc : Fin 2) (v : Fin 32) : chooseView (Vector.replicate 16 .reset) sc none v = ⟨v, .default⟩ := by
  have hb : bestEntry (Vector.replicate 16 .reset) sc = none :=
    List.foldl_fixed' (fun t => by simp [betterEntry, Trigger.claims, Trigger.reset]) _
  simp [chooseView, hb]

/-- Settles O50: every record of the reset state is a reset record, and each invariant holds of those. -/
theorem invariantsHoldAtReset : Obligations.InvariantsHoldAtReset := by
  have hlines : State.reset.LinesConsistent := .resetWith _ _ _ _ _ _ _ _
  refine ⟨hlines.1, fun t => ?_, hlines.2, ⟨fun c => ?_, fun k c => ?_, fun k _ => ?_⟩, ⟨fun i => ?_, fun p => ?_⟩, fun t => ?_,
    fun sc => ?_, fun d => ?_, fun h => ?_, fun sc c i => ?_, ⟨fun sc => ?_, fun v => ?_⟩, fun a => ?_, ?_, ⟨fun i => ?_, ?_⟩,
    ⟨rfl, fun c i => ?_⟩, .resetWith _ _ _ _ _ _ _ _⟩
  · rw [State.reset, State.out_resetWith]
    exact ⟨Output.reset_bounded, fun _ => Output.reset_quiet⟩
  · rw [State.reset, State.channel_resetWith]
    exact Channel.reset_consistent
  · simp [State.reset, StreamRecord.reset, StreamEntry.reset, Channel.reset]
  · rw [State.reset, State.streamRec_resetWith]
    rfl
  · rw [State.reset, State.lens_resetWith]
    exact Lens.reset_consistent
  · rw [State.reset, State.resetWith, Tab.get_replicate]
    exact Profile.reset_consistent
  · simp [State.reset, Trigger.reset]
  · simp [State.reset, State.resetWith, Selector.reset, State.screen, Screen.reset, chooseView_reset]
  · simp [State.reset, DoorLine.reset]
  · cases h
  · simp [State.reset, Screen.reset, Channel.reset_slot, Slot.reset, hasMember]
  · simp [State.reset, Screen.reset, View.reset]
  · simp [State.reset, State.resetWith, View.reset]
  · simp [State.reset, State.resetWith, Alert.reset, AlertSettings.reset, State.demandOf, lineActivity]
  · simp [State.NoticesBounded, State.reset, State.resetWith, OrderUnit.reset, noticesWaiting, repliesWaiting, OrderUnit.reservations,
      OrderSlot.isSaving]
  · simp [State.reset, State.resetWith, OrderUnit.reset, OrderSlot.isSaving, Loader.reset]
  · intro h
    cases h
  · rw [State.reset, State.channel_resetWith, Channel.reset_slot]
    rfl

/-! ## Links and transmissions -/

/-- Settles O15: LINK_UP by the link and the hold of the port; RESTART_HOLD_END is the end of the hold. -/
theorem linksComeUp : Obligations.LinksComeUp := by
  intro p s h
  simp only [exec_of_running h, State.onCommand, Host.Outcome.next.injEq, State.linkUp]
  refine ⟨fun hl hh => ?_, fun hu => ?_, trivial⟩
  · rw [if_pos (by simp [hl, hh])]
  · rw [if_neg]
    rcases hu with hu | hu
    · simp [hu]
    · simp [Option.isNone_iff_eq_none, Option.isSome_iff_ne_none.mp hu]

theorem Packet.wire_eq (p : Packet) : p.wire = p.body ++ byte2 (packetCheck p.body).toNat := rfl

theorem State.updOut_congr (s : State) (u : Trunk) {f g : Output → Output} (h : f (s.out u) = g (s.out u)) :
    s.updOut u f = s.updOut u g := by
  unfold State.updOut State.updTrunk
  rw [Duo.upd_congr]
  exact congrArg (fun o => { s.trunks.get u with out := o }) h

/-- Settles O19: the symbols by the output's sending state; the arbiter by the heads of the two queues. -/
theorem transmissionsStartAndEnd : Obligations.TransmissionsStartAndEnd := by
  refine ⟨fun u s => ⟨fun h => ?_, fun hd hh => ?_⟩, fun u s hd hu => ?_⟩
  · unfold State.trunkSymbols
    rw [if_pos (by simpa using h)]
  · unfold State.trunkSymbols
    rw [if_neg (by simp [hd, hh])]
    refine ⟨fun e => ?_, fun p c e => ?_, fun q e => ?_⟩ <;> rw [e]
    rfl
  · simp only [exec_of_running hd, State.onCommand, Host.Outcome.next.injEq]
    refine ⟨fun hi e rest hm => ?_, fun hi hm p rest hv => ?_, fun hn => ?_, fun p c hs => ?_⟩
    · rw [if_pos (by simp [State.canStart, hu, hi, hm])]
      exact s.updOut_congr u (by simp only [Output.startNext, hm])
    · rw [if_pos (by simp [State.canStart, hu, hi, hv])]
      refine s.updOut_congr u ?_
      simp only [Output.startNext, hm, hv]
      cases hw : (s.out u).waiting with
      | nil => simp
      | cons w ws => rfl
    · rw [if_neg]
      rcases hn with hn | ⟨hm, hv⟩
      · simp [State.canStart, hn]
      · simp [State.canStart, hm, hv]
    · unfold State.transmissionEnd
      rw [hs]
      cases u <;> rfl

end Sys2Proof.Machine

/-! # Proofs: packets on the wire (R4, R5, R6) -/

namespace Sys2Proof.Machine

theorem toNat_byte2 {n : Nat} (h : n < 65536) : (BitVec.ofNat 8 (n / 256)).toNat * 256 + (BitVec.ofNat 8 n).toNat = n := by
  rw [BitVec.toNat_ofNat, BitVec.toNat_ofNat]
  omega

@[simp] theorem length_byte2 (n : Nat) : (byte2 n).length = 2 := rfl

/-- The check that ends a packet's bytes is the one computed over the rest. -/
theorem passesCheck_withCheck (bs : List Byte) : passesCheck (withCheck bs) = true := by
  have hl : (withCheck bs).length - 2 = bs.length := by simp [withCheck]
  have hw : wordAt (withCheck bs) bs.length = (packetCheck bs).toNat := by
    have ht : (BitVec.ofNat 8 ((packetCheck bs).toNat / 256)).toNat * 256 + (BitVec.ofNat 8 (packetCheck bs).toNat).toNat =
      (packetCheck bs).toNat := toNat_byte2 (packetCheck bs).isLt
    simpa [wordAt, byteAt, withCheck, byte2] using ht
  unfold passesCheck
  rw [hl, hw, withCheck, List.take_left]
  exact decide_eq_true rfl

theorem Grade.ofCode_code (g : Grade) : Grade.ofCode g.code = some g := by cases g <;> rfl

theorem CloseStatus.ofCode_code (st : CloseStatus) : CloseStatus.ofCode st.code = some st := by cases st <;> rfl

theorem toNat_byte1 {n : Nat} (h : n < 256) : (BitVec.ofNat 8 n).toNat = n := by
  rw [BitVec.toNat_ofNat]
  exact Nat.mod_eq_of_lt h

@[simp] theorem byteAt_cons_zero (b : Byte) (bs : List Byte) : byteAt (b :: bs) 0 = b.toNat := rfl

@[simp] theorem byteAt_cons_succ (b : Byte) (bs : List Byte) (i : Nat) : byteAt (b :: bs) (i + 1) = byteAt bs i := rfl

/-- Two bytes of a list at which a two-byte field stands. -/
theorem wordAt_byte2 {before after : List Byte} {n : Nat} (h : n < 65536) : wordAt (before ++ byte2 n ++ after) before.length = n := by
  simpa [wordAt, byteAt, byte2] using toNat_byte2 h

theorem Grade.code_lt (g : Grade) : g.code < 5 := by cases g <;> decide

theorem CloseStatus.code_lt (st : CloseStatus) : st.code < 2 := by cases st <;> decide

/-! ## Reading what was sent -/

/-- The frame number of a picture packet stands after its kind and stream. -/
theorem wordAt_frame {a b : Byte} {f : Nat} (rest : List Byte) (h : f < 65536) : wordAt (a :: b :: (byte2 f ++ rest)) 2 = f :=
  wordAt_byte2 (before := [a, b]) h

/-- A FRAME-OPEN is read whole at a camera port too: its grade and home hub are in range. -/
theorem readPacket_frameOpen (atTrunk : Bool) (k : Fin 256) {f : Nat} (g : Grade) {home : Nat} (hf : f < 65536) (hh : home < 16) :
    readPacket atTrunk (Packet.frameOpen k f g home).wire = some (.frameOpen k f g home) := by
  obtain ⟨c, hc⟩ : ∃ c, (Packet.frameOpen k f g home).wire =
    1 :: BitVec.ofFin k :: (byte2 f ++ (BitVec.ofNat 8 g.code :: BitVec.ofNat 8 home :: byte2 c)) := ⟨_, rfl⟩
  rw [hc]
  have hword := wordAt_frame (a := 1) (b := BitVec.ofFin k) (BitVec.ofNat 8 g.code :: BitVec.ofNat 8 home :: byte2 c) hf
  have hgrade : byteAt (1 :: BitVec.ofFin k :: (byte2 f ++ (BitVec.ofNat 8 g.code :: BitVec.ofNat 8 home :: byte2 c))) 4 = g.code :=
    toNat_byte1 (by have := g.code_lt; omega)
  have hhome : byteAt (1 :: BitVec.ofFin k :: (byte2 f ++ (BitVec.ofNat 8 g.code :: BitVec.ofNat 8 home :: byte2 c))) 5 = home :=
    toNat_byte1 (by omega)
  simp only [readPacket, hword, hgrade, hhome, Grade.ofCode_code]
  simp [streamOf]
  omega

theorem readPacket_frameClose (atTrunk : Bool) (k : Fin 256) {f : Nat} (st : CloseStatus) (hf : f < 65536) :
    readPacket atTrunk (Packet.frameClose k f st).wire = some (.frameClose k f st) := by
  obtain ⟨c, hc⟩ : ∃ c, (Packet.frameClose k f st).wire =
    3 :: BitVec.ofFin k :: (byte2 f ++ (BitVec.ofNat 8 st.code :: byte2 c)) := ⟨_, rfl⟩
  rw [hc]
  have hword := wordAt_frame (a := 3) (b := BitVec.ofFin k) (BitVec.ofNat 8 st.code :: byte2 c) hf
  have hstatus : byteAt (3 :: BitVec.ofFin k :: (byte2 f ++ (BitVec.ofNat 8 st.code :: byte2 c))) 4 = st.code :=
    toNat_byte1 (by have := st.code_lt; omega)
  simp only [readPacket, hword, hstatus, CloseStatus.ofCode_code]
  simp [streamOf]

theorem readPacket_line (atTrunk : Bool) (k : Fin 256) {f n : Nat} {pixels : List Byte} (hf : f < 65536) (hn : n < 720)
    (hp : pixels.length = 2560) :
    readPacket atTrunk (Packet.line k f n pixels).wire = some (.line k f n pixels) := by
  obtain ⟨c, hc⟩ : ∃ c, (Packet.line k f n pixels).wire =
    2 :: BitVec.ofFin k :: (byte2 f ++ (byte2 n ++ (pixels ++ byte2 c))) := ⟨_, by simp [Packet.wire_eq, Packet.body]; rfl⟩
  rw [hc]
  have hword := wordAt_frame (a := 2) (b := BitVec.ofFin k) (byte2 n ++ (pixels ++ byte2 c)) hf
  have hline : wordAt (2 :: BitVec.ofFin k :: (byte2 f ++ (byte2 n ++ (pixels ++ byte2 c)))) 4 = n :=
    toNat_byte2 (by omega)
  have hpixels : ((2 :: BitVec.ofFin k :: (byte2 f ++ (byte2 n ++ (pixels ++ byte2 c)))).drop 6).take Config.lineBytes = pixels :=
    List.take_left' hp
  simp only [readPacket, hword, hline, hpixels]
  simp [streamOf, hp]
  omega

theorem readPacket_order (dest code tag : Byte) {params : List Byte} (hp : params.length ≤ 192) :
    readPacket true (Packet.order dest code tag params).wire = some (.order dest code tag params) := by
  obtain ⟨c, hc⟩ : ∃ c, (Packet.order dest code tag params).wire =
    8 :: dest :: code :: tag :: BitVec.ofNat 8 params.length :: (params ++ byte2 c) :=
    ⟨_, by simp [Packet.wire_eq, Packet.body, byte1]; rfl⟩
  rw [hc]
  have hlen : byteAt (8 :: dest :: code :: tag :: BitVec.ofNat 8 params.length :: (params ++ byte2 c)) 4 = params.length :=
    toNat_byte1 (by omega)
  simp only [readPacket, hlen]
  simp [hp]
  omega

theorem readPacket_notice (source code subject lost : Byte) {params : List Byte} (hp : params.length ≤ 192) :
    readPacket true (Packet.notice source code subject lost params).wire = some (.notice source code subject lost params) := by
  obtain ⟨c, hc⟩ : ∃ c, (Packet.notice source code subject lost params).wire =
    9 :: source :: code :: subject :: lost :: BitVec.ofNat 8 params.length :: (params ++ byte2 c) :=
    ⟨_, by simp [Packet.wire_eq, Packet.body, byte1]; rfl⟩
  rw [hc]
  have hlen : byteAt (9 :: source :: code :: subject :: lost :: BitVec.ofNat 8 params.length :: (params ++ byte2 c)) 5 = params.length :=
    toNat_byte1 (by omega)
  simp only [readPacket, hlen]
  simp [hp]
  omega

/-- What is sent is judged good where it is read. -/
theorem judgePacket_wire {atTrunk : Bool} {p q : Packet} (h : readPacket atTrunk p.wire = some q) : judgePacket atTrunk p.wire = .ok q := by
  have hlong : ¬p.wire.length < 3 := by
    simp only [Packet.wire_eq, List.length_append, length_byte2]
    cases p <;> simp [Packet.body]
  unfold judgePacket
  rw [if_neg hlong, Packet.wire, passesCheck_withCheck, ← Packet.wire, h]
  rfl

/-- Settles O8: the fields of each of the five layouts, one by one. -/
theorem wirePacketsRoundTrip : Obligations.WirePacketsRoundTrip := by
  intro p h
  refine judgePacket_wire ?_
  cases p with
  | frameOpen k f g home => exact readPacket_frameOpen true k g h.1 h.2
  | line k f n pixels => exact readPacket_line true k h.1 h.2.1 h.2.2
  | frameClose k f st => exact readPacket_frameClose true k st h
  | order dest code tag params => exact readPacket_order dest code tag h
  | notice source code subject lost params => exact readPacket_notice source code subject lost h

end Sys2Proof.Machine

/-! # Proofs: a packet between packets, and the order that is consumed (R6, R8, R152, R154, R155) -/

namespace Sys2Proof.Machine

/-! ## The end of a packet that is no LINE -/

theorem State.reportLineEnd_of_none {s : State} {p : Port} (h : (s.rx p).arrival = none) (report : EndReport) (bytes : List Byte) :
    s.reportLineEnd p report bytes = s := by
  unfold State.reportLineEnd
  rw [h]

/-- A packet that is no LINE, and not over-long, is judged as it stands. -/
theorem State.BetweenPackets.packetEnd {s : State} {p : Port} (h : s.BetweenPackets p) {bytes : List Byte}
    (hl : bytes.length ≤ 2568) (hh : hasLineHeader bytes = false) : s.packetEnd p bytes = s.judgeArrival p bytes := by
  unfold State.packetEnd
  rw [if_neg (by simpa using hl), if_neg (by simp [hh]), reportLineEnd_of_none h.noLine, setIgnoring_of_eq h.listens]

theorem State.BetweenPackets.exec_packetEnd {s : State} {p : Port} (h : s.BetweenPackets p) (bytes : List Byte) :
    exec (.packetEnd p bytes) s = .next (s.packetEnd p bytes) := by
  have hover : s.packetOver p bytes false (fun s => s.packetEnd p bytes) = s.packetEnd p bytes :=
    packetOver_forming h.forms h.forming bytes false _
  rw [exec_of_running h.running]
  exact congrArg _ hover

/-- A packet other than a LINE. -/
def Packet.isLine : Packet → Bool
  | .line _ _ _ _ => true
  | _ => false

theorem Packet.hasLineHeader_wire {p : Packet} (h : p.isLine = false) : hasLineHeader p.wire = false := by
  cases p with
  | line k f n pixels => cases h
  | frameOpen k f g home => rfl
  | frameClose k f st => rfl
  | order dest code tag params => rfl
  | notice source code subject lost params => rfl

/-- A packet other than a LINE, as it was sent, is handed on when the port reads it. -/
theorem State.BetweenPackets.exec_wire {s : State} {p : Port} (h : s.BetweenPackets p) {packet : Packet}
    (hr : readPacket (isTrunkPort p) packet.wire = some packet) (hl : packet.isLine = false) (hlen : packet.wire.length ≤ 2568) :
    exec (.packetEnd p packet.wire) s = .next (s.handOn p packet packet.wire) := by
  rw [h.exec_packetEnd, h.packetEnd hlen (Packet.hasLineHeader_wire hl), State.judgeArrival, judgePacket_wire hr]

/-! ## Consumption -/

theorem Side.ofTrunk_eq (a : Trunk) : Side.ofTrunk a = (match a with | .ta => Side.ta | .tb => Side.tb) := by
  cases a <;> rfl

/-- The silence timer restarts with the whole silence time, or stops (R154). -/
theorem HubRecord.restartSilence_timer (h : HubRecord) :
    h.restartSilence.silenceTimer = (if h.silenceTime = 0 then none else some (1000 * h.silenceTime)) ∧
    h.restartSilence.silenceStopped = (if h.silenceTime = 0 then h.silenceTimer.getD h.silenceStopped else h.silenceStopped) := by
  unfold HubRecord.restartSilence
  split
  · exact ⟨rfl, rfl⟩
  · exact ⟨congrArg some (Nat.mul_comm ..), rfl⟩

@[simp] theorem HubRecord.restartSilence_frame (h : HubRecord) : h.restartSilence.side = h.side ∧
    h.restartSilence.number = h.number ∧ h.restartSilence.overflow = h.overflow := by
  unfold HubRecord.restartSilence
  split <;> exact ⟨rfl, rfl, rfl⟩

/-- An order that finds a FREE slot becomes PENDING there (R155). -/
theorem OrderUnit.consume_of_free {u : OrderUnit} {i : Fin 2} (h : u.freeSlot = some i) (a : Trunk) (b : Bool) (code tag : Byte)
    (params : List Byte) : u.consume a b code tag params = { u with
      hub := { u.hub with side := .ofTrunk a }.restartSilence
      nextSeq := u.nextSeq + 1
      slots := u.slots.set i.val (.pending
        { code := code, tag := tag, params := params, arrival := a, seq := u.nextSeq, broadcast := b }) } := by
  have hf : OrderUnit.freeSlot { u with hub := { u.hub with side := .ofTrunk a }.restartSilence, nextSeq := u.nextSeq + 1 } = some i := h
  unfold OrderUnit.consume OrderUnit.offerOrder
  rw [hf]
  rfl

/-- An order that finds none is discarded and counted (R155). -/
theorem OrderUnit.consume_of_full {u : OrderUnit} (h : u.freeSlot = none) (a : Trunk) (b : Bool) (code tag : Byte)
    (params : List Byte) : u.consume a b code tag params = { u with
      hub := { { u.hub with side := .ofTrunk a }.restartSilence with overflow := min (u.hub.overflow + 1) 255 }
      nextSeq := u.nextSeq + 1 } := by
  have hf : OrderUnit.freeSlot { u with hub := { u.hub with side := .ofTrunk a }.restartSilence, nextSeq := u.nextSeq + 1 } = none := h
  unfold OrderUnit.consume OrderUnit.offerOrder
  rw [hf]
  simp [bumpError]

/-- Settles O11: the packet is read whole and consumed, with a FREE slot or without. -/
theorem orderForThisHubIsConsumed : Obligations.OrderForThisHubIsConsumed := by
  intro a dest code tag params s h hp hd h0
  have hlen : (Packet.order dest code tag params).wire.length ≤ 2568 := by
    simp only [Packet.wire_eq, Packet.body, List.length_append, List.length_cons, List.length_nil, length_byte2, byte1]
    omega
  have hnext := h.exec_wire (readPacket_order dest code tag hp) rfl hlen
  have hand : s.handOn (.trunk a) (.order dest code tag params) (Packet.order dest code tag params).wire =
      (s.countReceived (.trunk a)).updOrders (fun u => u.consume a false code tag params) := by
    have hn : (s.countReceived (.trunk a)).orders.hub.number = s.orders.hub.number := rfl
    unfold State.handOn State.takeOrder
    dsimp only
    rw [if_neg h0, if_neg (hn ▸ hd ▸ h0), if_pos (hn ▸ hd)]
  have horders : ((s.countReceived (.trunk a)).updOrders (fun u => u.consume a false code tag params)).orders =
      s.orders.consume a false code tag params := rfl
  refine ⟨_, hnext, ?_⟩
  rw [hand, horders]
  refine ⟨?_, ?_⟩
  · rw [State.rx_updOrders, State.countReceived, State.updArrivals, State.rx_updRx_self]
    rfl
  · cases hf : s.orders.freeSlot with
    | some i =>
      simpa [OrderUnit.consume_of_free hf, HubRecord.restartSilence_timer, State.countReceived] using ⟨Side.ofTrunk_eq a, rfl⟩
    | none =>
      simpa [OrderUnit.consume_of_full hf, HubRecord.restartSilence_timer, State.countReceived] using ⟨Side.ofTrunk_eq a, rfl⟩

end Sys2Proof.Machine

/-! # Proofs: a FRAME-CLOSE at its channel, and on its way through the switch (R12, R24, R27, R36, R52, R53, R62) -/

namespace Sys2Proof.Machine

/-! ## One channel (R52, R53) -/

theorem Channel.frameClose_filling {c : Channel} {i : Fin 3} {frame : Nat} (h : c.intake = .filling i frame) (status : CloseStatus) :
    c.frameClose frame status =
      if status = .cut ∨ c.patch < (missingLines (c.slot i).good).length then c.abandonIntake
      else c.publish i (missingLines (c.slot i).good) := by
  unfold Channel.frameClose
  rw [h]
  simp

/-- Giving up the frame in a FILLING slot (R46 step 1). -/
theorem Channel.abandonIntake_filling {c : Channel} {i : Fin 3} {frame : Nat} (h : c.intake = .filling i frame) :
    c.abandonIntake = { c with
      intake := .none, slots := c.slots.set i.val { c.slot i with state := .free }
      counters := { c.counters with incomplete := min (c.counters.incomplete + 1) 65535 } } := by
  unfold Channel.abandonIntake
  rw [h]
  rfl

theorem Slot.unNewest_of_not {sl : Slot} (h : sl.newest = false) : sl.unNewest = sl := by
  unfold Slot.unNewest
  rw [h]
  rfl

/-- The slot that was newest is FREE when no screen holds it (R53 step 3). -/
theorem Slot.unNewest_of_stored {sl : Slot} (h : sl.newest = true) (hs : sl.state = .stored) :
    sl.unNewest = { sl with newest := false, state := if sl.readers = 0 then .free else .stored } := by
  unfold Slot.unNewest Slot.freeIfUnheld
  rw [if_pos h]
  simp only [hs, decide_true, Bool.not_false, Bool.and_true, Bool.true_and, decide_eq_true_eq]
  split <;> rfl

theorem Channel.slot_publish_self (c : Channel) (i : Fin 3) (missing : List Nat) :
    (c.publish i missing).slot i = { (c.slot i).unNewest with state := .stored, newest := true, missing := missing } := by
  simp [Channel.publish, Channel.slot, Channel.updSlot, Channel.count]

theorem Channel.slot_publish_of_ne (c : Channel) {i j : Fin 3} (h : j ≠ i) (missing : List Nat) :
    (c.publish i missing).slot j = (c.slot j).unNewest := by
  simp [Channel.publish, Channel.slot, Channel.updSlot, Channel.count, h]

/-- In a consistent channel a slot that is FILLING is not newest, and the newest slot is STORED (R44). -/
theorem Channel.Consistent.newest_stored {c : Channel} (h : c.Consistent) {i : Fin 3} (hn : (c.slot i).newest = true) :
    (c.slot i).state = .stored := by
  obtain ⟨_, _, _, _, _, hstored, _⟩ := h
  exact (hstored i).2 (.inl hn)

theorem Channel.Consistent.filling_not_newest {c : Channel} (h : c.Consistent) {i : Fin 3} {frame : Nat}
    (hi : c.intake = .filling i frame) : (c.slot i).newest = false := by
  obtain ⟨_, _, _, hfilling, _, hstored, _⟩ := h
  have hs : (c.slot i).state = .filling := (hfilling i).2 ⟨frame, hi⟩
  by_contra hn
  exact absurd (hs.symm.trans ((hstored i).2 (.inl (Bool.eq_true_of_not_eq_false hn)))) (by decide)

/-! ## The camera ports that a receiver's change leaves -/

/-- A receiver changed leaves the rest of every camera port. -/
@[simp] theorem State.cam_updRx (s : State) (p : Port) (f : Receiver → Receiver) (i : Fin 8) :
    (Tab.get (s.updRx p f).cams i).enable = (Tab.get s.cams i).enable ∧
    (Tab.get (s.updRx p f).cams i).stream = (Tab.get s.cams i).stream ∧
    (Tab.get (s.updRx p f).cams i).profile = (Tab.get s.cams i).profile ∧
    (Tab.get (s.updRx p f).cams i).openFrame = (Tab.get s.cams i).openFrame := by
  cases p with
  | trunk u => exact ⟨rfl, rfl, rfl, rfl⟩
  | cam j =>
    by_cases e : i = j
    · subst e
      simp [State.updRx]
    · simp [State.updRx, e]

@[simp] theorem State.cam_updArrivals (s : State) (p : Port) (f : ArrivalCounters → ArrivalCounters) (i : Fin 8) :
    (Tab.get (s.updArrivals p f).cams i).enable = (Tab.get s.cams i).enable ∧
    (Tab.get (s.updArrivals p f).cams i).stream = (Tab.get s.cams i).stream ∧
    (Tab.get (s.updArrivals p f).cams i).profile = (Tab.get s.cams i).profile ∧
    (Tab.get (s.updArrivals p f).cams i).openFrame = (Tab.get s.cams i).openFrame := s.cam_updRx p _ i

/-- The outputs follow from the trunks. -/
theorem State.out_congr {s t : State} (h : t.trunks = s.trunks) (u : Trunk) : t.out u = s.out u := by
  unfold State.out
  rw [h]

/-! ## A picture control packet at the outputs of its route (R35, R37) -/

/-- The output of a trunk after a FRAME-OPEN or FRAME-CLOSE is offered. -/
def State.outAfter (s : State) (k : Fin 256) (u : Trunk) (p : Packet) : Output :=
  if s.trunkUp u then ((s.out u).control k p).1 else s.out u

theorem State.outAfter_congr {s t : State} {u : Trunk} (ho : t.out u = s.out u) (hu : t.trunkUp u = s.trunkUp u) (k : Fin 256)
    (p : Packet) : t.outAfter k u p = s.outAfter k u p := by
  unfold State.outAfter
  rw [ho, hu]

theorem State.out_sendControl (s : State) (t u : Trunk) (k : Fin 256) (p : Packet) :
    (s.sendControl t k p).out u = if u = t then s.outAfter k u p else s.out u := by
  have hsent : (s.sendControl t k p).out u = if u = t then s.outAfter k t p else s.out u := by
    unfold State.sendControl State.outAfter
    by_cases hu : s.trunkUp t = true
    · rw [if_neg (by simp [hu])]
      dsimp only
      by_cases hz : ((s.out t).control k p).2 = 0
      · rw [if_pos hz, State.out_updOut, if_pos hu]
      · rw [if_neg hz, State.out_countQueueCuts, State.out_updOut, if_pos hu]
    · rw [if_pos (by simpa using hu), if_neg hu]
      split
      next e => rw [e]
      next => rfl
  rw [hsent]
  split
  next e => rw [e]
  next => rfl

@[simp] theorem State.trunkUp_sendControl (s : State) (t u : Trunk) (k : Fin 256) (p : Packet) :
    (s.sendControl t k p).trunkUp u = s.trunkUp u := by
  rw [State.trunkUp_eq, State.rx_sendControl, ← State.trunkUp_eq]

@[simp] theorem State.trunkUp_sendIfRouted (s : State) (e : StreamEntry) (t u : Trunk) (k : Fin 256) (p : Packet) :
    (s.sendIfRouted e t k p).trunkUp u = s.trunkUp u := by
  rw [State.trunkUp_eq, State.rx_sendIfRouted, ← State.trunkUp_eq]

/-- Each output of the route takes its packet; the others stay. -/
theorem State.out_sendRoute (s : State) (e : StreamEntry) (k : Fin 256) (p : Trunk → Packet) (u : Trunk) :
    ((s.sendIfRouted e .ta k (p .ta)).sendIfRouted e .tb k (p .tb)).out u =
      if e.sendTo.get u = true then s.outAfter k u (p u) else s.out u := by
  unfold State.sendIfRouted
  cases u with
  | ta => cases ha : e.sendTo.get .ta <;> cases hb : e.sendTo.get .tb <;> simp [State.out_sendControl]
  | tb =>
    cases ha : e.sendTo.get .ta <;> cases hb : e.sendTo.get .tb <;> simp [State.out_sendControl, State.outAfter]

/-- A packet for which no packet of its stream waits takes a place of the video queue. -/
theorem State.outAfter_of_place {s : State} {u : Trunk} {k : Fin 256} (p : Packet) (hu : s.trunkUp u = true)
    (hw : ∀ q ∈ (s.out u).waiting, q.stream ≠ some k) (hv : (s.out u).video.length < 24) :
    s.outAfter k u p = { s.out u with video := (s.out u).video ++ [p] } := by
  have hnone : (s.out u).waiting.find? (Packet.ofStream k) = none := by
    rw [List.find?_eq_none]
    exact fun q hq => by simpa [Packet.ofStream] using hw q hq
  unfold State.outAfter Output.control
  rw [if_pos hu, hnone]
  simp [Config.videoPlaces, hv]

/-! ## A channel of the route (R29, R62) -/

/-- The order unit after an event at a channel: a SOURCE notice for a changed state (R62). -/
theorem State.channelEvent_orders (s : State) (c : Fin 12) (f : Channel → Channel) :
    (s.channelEvent c f).orders =
      if (f (s.channel c)).state = (s.channel c).state then s.orders
      else s.orders.offer (.source c (s.channel c).state (f (s.channel c)).state) := by
  by_cases hs : (f (s.channel c)).state = (s.channel c).state
  · have hs' : (Tab.get s.channels c).state = (f (Tab.get s.channels c)).state := hs.symm
    unfold State.channelEvent
    simp [hs, State.offerIf, hs']
    split <;> simp
  · rw [State.channelEvent_of_state_ne s c f hs, if_neg hs]
    simp

/-- The order unit after a delivery depends only on itself and on the channel of the route. -/
theorem State.orders_deliver {s x : State} (hc : x.channels = s.channels) (ho : x.orders = s.orders) {e : StreamEntry} {c : Fin 12}
    (h : e.channel = some c) (f : Channel → Channel) :
    (x.deliver e f).orders =
      if (f (s.channel c)).state = (s.channel c).state then s.orders
      else s.orders.offer (.source c (s.channel c).state (f (s.channel c)).state) := by
  unfold State.deliver
  rw [h]
  dsimp only
  rw [State.channelEvent_orders, State.channel_congr hc, ho]

theorem State.lensEvent_orders_congr {s t : State} {i : Fin 8} (hl : t.lens i = s.lens i) (ho : t.orders = s.orders)
    (f : Lens → Lens × Option LearnEnd) : (t.lensEvent i f).orders = (s.lensEvent i f).orders := by
  rw [State.lensEvent_orders, State.lensEvent_orders, hl, ho]

/-! ## The open frame of a camera port (R12) -/

theorem State.closeCameraFrame_other {s : State} {i : Fin 8} {frame : Nat}
    (h : ∀ f, (Tab.get s.cams i).openFrame = some f → f.frame ≠ frame) (status : CloseStatus) :
    s.closeCameraFrame i frame status = s := by
  unfold State.closeCameraFrame
  split
  · rfl
  · next f hf => rw [if_neg (h f hf)]

/-- A FRAME-CLOSE of the open frame ends it, and the lens record takes the end (R12, R71). -/
theorem State.closeCameraFrame_ends {s : State} {i : Fin 8} {frame : Nat} {f : OpenFrame}
    (ho : (Tab.get s.cams i).openFrame = some f) (hf : f.frame = frame) (status : CloseStatus) :
    s.closeCameraFrame i frame status = (s.updCam i (fun c => { c with openFrame := none })).lensEvent i
      (Lens.frameEnd (s.profileOf i) (decide (f.good.length = 720 ∧ status = .whole))) := by
  unfold State.closeCameraFrame State.endOpenFrame
  simp [ho, hf, Config.lines]

/-! ## The switch (R24, R27) -/

theorem StreamEntry.lookup_unrouted {e : StreamEntry} (h : e.valid = false) (p : Port) : e.lookup p = .unrouted := by
  simp [StreamEntry.lookup, h]

theorem StreamEntry.lookup_misrouted {e : StreamEntry} {p : Port} (h : e.valid = true) (ho : e.origin ≠ p) : e.lookup p = .misrouted := by
  simp [StreamEntry.lookup, h, ho]

theorem StreamEntry.lookup_routed {e : StreamEntry} {p : Port} (h : e.valid = true) (ho : e.origin = p) : e.lookup p = .routed := by
  simp [StreamEntry.lookup, h, ho]

section
variable (s : State) (k : Fin 256) (frame : Nat) (status : CloseStatus)

theorem State.streamRec_routeFrameClose_self : (s.routeFrameClose k frame status).streamRec k =
    { s.streamRec k with flow := { (s.streamRec k).flow with isOpen := false } } := by
  have h : (s.routeFrameClose k frame status).streams = (s.updFlow k (fun f => { f with isOpen := false })).streams := by
    simp [State.routeFrameClose]
  rw [State.streamRec_congr h, State.streamRec_updFlow_self]

theorem State.streamRec_routeFrameClose_of_ne {j : Fin 256} (h : j ≠ k) :
    (s.routeFrameClose k frame status).streamRec j = s.streamRec j := by
  have h' : (s.routeFrameClose k frame status).streams = (s.updFlow k (fun f => { f with isOpen := false })).streams := by
    simp [State.routeFrameClose]
  rw [State.streamRec_congr h', State.streamRec_updFlow_of_ne _ _ h]

theorem State.channel_routeFrameClose (c : Fin 12) : (s.routeFrameClose k frame status).channel c =
    if (s.streamRec k).entry.channel = some c then (s.channel c).frameClose frame status else s.channel c := by
  unfold State.routeFrameClose
  dsimp only
  rw [State.channel_deliver]
  congr 1
  · exact congrArg _ (State.channel_congr (by simp) c)
  · exact State.channel_congr (by simp) c

theorem State.out_routeFrameClose (u : Trunk) : (s.routeFrameClose k frame status).out u =
    if (s.streamRec k).entry.sendTo.get u = true then
      s.outAfter k u (.frameClose k frame ((s.streamRec k).flow.closeStatus u status))
    else s.out u := by
  unfold State.routeFrameClose
  dsimp only
  rw [State.out_deliver]
  exact State.out_sendRoute (s.updFlow k (fun f => { f with isOpen := false })) (s.streamRec k).entry k
    (fun u => .frameClose k frame ((s.streamRec k).flow.closeStatus u status)) u

theorem State.orders_routeFrameClose_of_none (h : (s.streamRec k).entry.channel = none) :
    (s.routeFrameClose k frame status).orders = s.orders := by
  unfold State.routeFrameClose State.deliver
  dsimp only
  rw [h]
  simp

theorem State.orders_routeFrameClose_of_some {c : Fin 12} (h : (s.streamRec k).entry.channel = some c) :
    (s.routeFrameClose k frame status).orders =
      if ((s.channel c).frameClose frame status).state = (s.channel c).state then s.orders
      else s.orders.offer (.source c (s.channel c).state ((s.channel c).frameClose frame status).state) := by
  unfold State.routeFrameClose
  exact State.orders_deliver (by simp) (by simp) h _

end

/-! What the lookup makes of a FRAME-CLOSE at the switch (R24, R27). -/

section
variable {s : State} {p : Port} {k : Fin 256} (frame : Nat) (status : CloseStatus)

theorem State.switchFrameClose_unrouted (h : (s.streamRec k).entry.valid = false) :
    s.switchFrameClose p k frame status = s.countUnrouted p := by
  unfold State.switchFrameClose
  dsimp only
  rw [StreamEntry.lookup_unrouted h]

theorem State.switchFrameClose_misrouted (h : (s.streamRec k).entry.valid = true) (ho : (s.streamRec k).entry.origin ≠ p) :
    s.switchFrameClose p k frame status = s.countMisrouted p := by
  unfold State.switchFrameClose
  dsimp only
  rw [StreamEntry.lookup_misrouted h ho]

theorem State.switchFrameClose_stray {frame : Nat} (h : (s.streamRec k).entry.valid = true) (ho : (s.streamRec k).entry.origin = p)
    (hm : ¬((s.streamRec k).flow.isOpen = true ∧ (s.streamRec k).flow.frame = frame)) :
    s.switchFrameClose p k frame status = s.countStray p := by
  unfold State.switchFrameClose
  dsimp only
  rw [StreamEntry.lookup_routed h ho]
  exact if_neg (by simpa using hm)

theorem State.switchFrameClose_routed {frame : Nat} (h : (s.streamRec k).entry.valid = true) (ho : (s.streamRec k).entry.origin = p)
    (hm : (s.streamRec k).flow.isOpen = true ∧ (s.streamRec k).flow.frame = frame) :
    s.switchFrameClose p k frame status = s.routeFrameClose k frame status := by
  unfold State.switchFrameClose
  dsimp only
  rw [StreamEntry.lookup_routed h ho]
  exact if_pos (by simpa using hm)

/-- A FRAME-CLOSE leaves the open frames of the camera ports to them. -/
theorem State.openFrame_switchFrameClose (s : State) (p : Port) (k : Fin 256) (frame : Nat) (status : CloseStatus) (i : Fin 8) :
    (Tab.get (s.switchFrameClose p k frame status).cams i).openFrame = (Tab.get s.cams i).openFrame := by
  unfold State.switchFrameClose
  dsimp only
  (repeat' split) <;> simp [State.countUnrouted, State.countMisrouted, State.countStray]

end

/-- The camera's part of a FRAME-CLOSE (R12): a trunk port has none. -/
def State.cameraClosed (s : State) (p : Port) (frame : Nat) (status : CloseStatus) : State :=
  match p with
  | .cam i => s.closeCameraFrame i frame status
  | .trunk _ => s

theorem State.handFrameClose_eq {s : State} {p : Port} {given k : Fin 256} (hcam : ∀ i, p = .cam i → k = (Tab.get s.cams i).stream)
    (htrunk : ∀ u, p = .trunk u → k = given) (frame : Nat) (status : CloseStatus) :
    s.handFrameClose p given frame status =
      ((s.countReceived p).cameraClosed p frame status).switchFrameClose p k frame status := by
  cases p with
  | trunk u => rw [htrunk u rfl]; rfl
  | cam i =>
    have hk : (Tab.get (s.countReceived (.cam i)).cams i).stream = k := by simp [State.countReceived, hcam i rfl]
    unfold State.handFrameClose State.cameraClosed
    dsimp only
    rw [hk]

/-- The open frame of this camera port ends at a FRAME-CLOSE of this frame. -/
def State.FrameEnds (s : State) (p : Port) (frame : Nat) (i : Fin 8) (f : OpenFrame) : Prop :=
  p = .cam i ∧ (Tab.get s.cams i).openFrame = some f ∧ f.frame = frame

/-- What its lens record takes then. -/
def State.lensAtClose (s : State) (status : CloseStatus) (i : Fin 8) (f : OpenFrame) (l : Lens) : Lens × Option LearnEnd :=
  l.frameEnd (Tab.get s.profiles (Tab.get s.cams i).profile) (decide (f.good.length = 720 ∧ status = .whole))

/-- What the port's count and the camera's part of a FRAME-CLOSE make of the hub, from `s` to `y`. -/
structure State.CloseCounted (s : State) (p : Port) (frame : Nat) (status : CloseStatus) (y : State) : Prop where
  ended : ∀ i f, s.FrameEnds p frame i f → (Tab.get y.cams i).openFrame = none ∧ y.lens i = (s.lensAtClose status i f (s.lens i)).1
  kept : ∀ i, (∀ f, ¬s.FrameEnds p frame i f) → (Tab.get y.cams i).openFrame = (Tab.get s.cams i).openFrame ∧ y.lens i = s.lens i
  streams : y.streams = s.streams
  channels : y.channels = s.channels
  out : ∀ u, y.out u = s.out u
  up : ∀ u, y.trunkUp u = s.trunkUp u
  counters : (y.rx p).counters = { (s.rx p).counters with received := min ((s.rx p).counters.received + 1) 65535 }
  quiet : (∀ i f, ¬s.FrameEnds p frame i f) → y.orders = s.orders
  told : ∀ i f, s.FrameEnds p frame i f → y.orders = (s.lensEvent i (s.lensAtClose status i f)).orders

theorem State.cameraClosed_other {s : State} {p : Port} {frame : Nat} (h : ∀ i f, ¬s.FrameEnds p frame i f) (status : CloseStatus) :
    (s.countReceived p).cameraClosed p frame status = s.countReceived p := by
  cases p with
  | trunk u => rfl
  | cam i => exact closeCameraFrame_other (fun f ho hf => h i f ⟨rfl, by simpa [State.countReceived] using ho, hf⟩) status

theorem State.cameraClosed_ends {s : State} {p : Port} {frame : Nat} {i : Fin 8} {f : OpenFrame} (h : s.FrameEnds p frame i f)
    (status : CloseStatus) :
    (s.countReceived p).cameraClosed p frame status =
      ((s.countReceived p).updCam i (fun c => { c with openFrame := none })).lensEvent i (s.lensAtClose status i f) := by
  obtain ⟨rfl, ho, hf⟩ := h
  have hprofile : (s.countReceived (.cam i)).profileOf i = Tab.get s.profiles (Tab.get s.cams i).profile := by
    simp [State.profileOf, State.countReceived]
  unfold State.cameraClosed
  dsimp only
  rw [closeCameraFrame_ends (by simpa [State.countReceived] using ho) hf, hprofile]
  rfl

theorem State.closeCounted (s : State) (p : Port) (frame : Nat) (status : CloseStatus) :
    s.CloseCounted p frame status ((s.countReceived p).cameraClosed p frame status) := by
  have hrx : ((s.countReceived p).rx p).counters =
      { (s.rx p).counters with received := min ((s.rx p).counters.received + 1) 65535 } := by
    rw [State.countReceived, State.updArrivals, State.rx_updRx_self]
    rfl
  have hlines : s.SameLines ((s.countReceived p).cameraClosed p frame status) := by
    have hcount := (State.SameLines.refl s).updArrivals p (fun c => { c with received := bumpTraffic c.received })
    cases p with
    | trunk u => exact hcount
    | cam i => exact hcount.closeCameraFrame i frame status
  have hup : ∀ u, ((s.countReceived p).cameraClosed p frame status).trunkUp u = s.trunkUp u := fun u => by
    rw [State.trunkUp_eq, State.trunkUp_eq, hlines.link]
  by_cases he : ∃ i f, s.FrameEnds p frame i f
  · obtain ⟨i, f, hif⟩ := he
    have hself : ∀ j g, s.FrameEnds p frame j g → j = i ∧ g = f := by
      rintro j g ⟨hj, hg, _⟩
      obtain ⟨hi, hf, _⟩ := hif
      cases Port.cam.inj (hj.symm.trans hi)
      exact ⟨rfl, Option.some.inj (hg.symm.trans hf)⟩
    rw [cameraClosed_ends hif] at hup ⊢
    refine { ended := ?_, kept := ?_, streams := ?_, channels := ?_, out := ?_, up := hup, counters := ?_, quiet := ?_, told := ?_ }
    · intro j g hjg
      obtain ⟨rfl, rfl⟩ := hself j g hjg
      exact ⟨by simp, by simp [State.lens, State.countReceived]⟩
    · intro j hj
      have hji : j ≠ i := fun e => hj f (e ▸ hif)
      exact ⟨by simp [hji, State.countReceived], by simp [hji, State.lens, State.countReceived]⟩
    · simp [State.countReceived]
    · simp [State.countReceived]
    · exact fun u => (State.out_congr (s := s.countReceived p) (by simp) u).trans (by simp [State.countReceived])
    · rw [State.rx_congr (State.lensEvent_frame ..).1 (State.lensEvent_frame ..).2.1, State.rx_updCam_of_eq rfl, hrx]
    · exact fun hno => absurd hif (hno i f)
    · intro j g hjg
      obtain ⟨rfl, rfl⟩ := hself j g hjg
      exact State.lensEvent_orders_congr (by simp [State.lens, State.countReceived]) (by simp [State.countReceived]) _
  · have hno : ∀ i f, ¬s.FrameEnds p frame i f := fun i f hif => he ⟨i, f, hif⟩
    rw [cameraClosed_other hno] at hup ⊢
    refine { ended := fun i f hif => absurd hif (hno i f), kept := ?_, streams := ?_, channels := ?_, out := ?_, up := hup,
             counters := hrx, quiet := ?_, told := fun i f hif => absurd hif (hno i f) }
    · exact fun i _ => by simp [State.lens, State.countReceived]
    · simp [State.countReceived]
    · simp [State.countReceived]
    · simp [State.countReceived]
    · simp [State.countReceived]

/-- A close that no stream takes is counted at its port alone. -/
theorem State.CloseCounted.updArrivals {s y : State} {p : Port} {frame : Nat} {status : CloseStatus} (h : s.CloseCounted p frame status y)
    (k : Fin 256) (f : ArrivalCounters → ArrivalCounters) :
    (y.updArrivals p f).streamRec k = s.streamRec k ∧ (y.updArrivals p f).channels = s.channels ∧
    (∀ u, (y.updArrivals p f).out u = s.out u) ∧ ((y.updArrivals p f).rx p).counters =
      f { (s.rx p).counters with received := min ((s.rx p).counters.received + 1) 65535 } := by
  refine ⟨?_, ?_, fun u => (State.out_updArrivals ..).trans (h.out u), ?_⟩
  · cases p <;> exact State.streamRec_congr h.streams k
  · cases p <;> exact h.channels
  · rw [State.updArrivals, State.rx_updRx_self, ← h.counters]

/-! ## The statement -/

theorem Channel.frameClose_judged (c : Channel) (i : Fin 3) (frame : Nat) (status : CloseStatus)
    (hi : c.intake = .filling i frame) (missing : List Nat)
    (hm : missing = (List.range 720).filter (fun k => !(c.slot i).good.contains k)) :
    ((status = .cut ∨ c.patch < missing.length) → c.frameClose frame status =
      { c with
        intake := .none, slots := c.slots.set i.val { c.slot i with state := .free }
        counters := { c.counters with incomplete := min (c.counters.incomplete + 1) 65535 } }) ∧
    (status = .whole → missing.length ≤ c.patch → c.frameClose frame status = c.publish i missing) := by
  have hm' : missingLines (c.slot i).good = missing := hm.symm
  rw [Channel.frameClose_filling hi, hm']
  refine ⟨fun h => ?_, fun hw hl => ?_⟩
  · rw [if_pos h, Channel.abandonIntake_filling hi]
  · have hno : ¬(status = .cut ∨ c.patch < missing.length) := by
      rintro (h | h)
      · exact absurd (hw.symm.trans h) (by decide)
      · omega
    rw [if_neg hno]

/-- Settles O25: the judging by the slots, the travel by the three parts it has: the port and the camera, the switch, the channel. -/
theorem frameCloseJudgesTheFrame : Obligations.FrameCloseJudgesTheFrame := by
  refine ⟨?_, ?_⟩
  · intro c i frame status hc hi missing hm
    obtain ⟨hcut, hpublish⟩ := Channel.frameClose_judged c i frame status hi missing hm
    refine ⟨hcut, fun hw hl => ?_⟩
    rw [hpublish hw hl]
    refine ⟨?_, fun j hj hn => ?_, fun j hj hn => ?_, rfl, rfl, rfl, rfl, rfl, rfl, rfl, rfl⟩
    · rw [Channel.slot_publish_self, Slot.unNewest_of_not (hc.filling_not_newest hi)]
    · rw [Channel.slot_publish_of_ne c hj, Slot.unNewest_of_not hn]
    · rw [Channel.slot_publish_of_ne c hj, Slot.unNewest_of_stored hn (hc.newest_stored hn)]
  · intro p given k frame status s h hf hcam htrunk r matching ends frameEnds closing received
    have hexec : exec (.packetEnd p (Packet.frameClose given frame status).wire) s =
        .next (s.handFrameClose p given frame status) :=
      h.exec_wire (readPacket_frameClose _ given status hf) rfl (by simp [Packet.wire_eq, Packet.body, length_byte2, byte1])
    have hy := s.closeCounted p frame status
    rw [State.handFrameClose_eq hcam htrunk] at hexec
    generalize (s.countReceived p).cameraClosed p frame status = y at hexec hy
    have hr : y.streamRec k = r := State.streamRec_congr hy.streams k
    have hlens : ∀ i, (y.switchFrameClose p k frame status).lens i = y.lens i := State.lens_congr (by simp)
    have hopen := y.openFrame_switchFrameClose p k frame status
    have htold : ∀ w : OrderUnit, ((∀ i f, ¬ends i f) → w = s.orders) →
        (∀ i f, ends i f → w = (s.lensEvent i (frameEnds i f)).orders) → y.orders = w := by
      intro w hquiet hends
      by_cases he : ∃ i f, ends i f
      · obtain ⟨i, f, hif⟩ := he
        rw [hends i f hif, hy.told i f hif]
        rfl
      · rw [hquiet (fun i f hif => he ⟨i, f, hif⟩), hy.quiet (fun i f hif => he ⟨i, f, hif⟩)]
    have hout : ∀ u, y.outAfter k u (closing u) = s.outAfter k u (closing u) := fun u =>
      State.outAfter_congr (hy.out u) (hy.up u) k (closing u)
    refine ⟨_, hexec, ?_, ?_, ?_, ?_, ?_, ?_, ?_, ?_⟩
    · intro i f hif
      rw [hopen, hlens]
      exact hy.ended i f hif
    · intro i hi
      rw [hopen, hlens]
      exact hy.kept i hi
    · intro j hj
      rw [← State.streamRec_congr hy.streams j]
      unfold State.switchFrameClose
      dsimp only
      split
      · exact State.streamRec_congr (by simp) j
      · exact State.streamRec_congr (by simp) j
      · split
        · exact State.streamRec_routeFrameClose_of_ne y k frame status hj
        · exact State.streamRec_congr (by simp) j
    · intro hv
      rw [State.switchFrameClose_unrouted frame status (hr ▸ hv)]
      exact hy.updArrivals k _
    · intro hv ho
      rw [State.switchFrameClose_misrouted frame status (hr ▸ hv) (hr ▸ ho)]
      exact hy.updArrivals k _
    · intro hv ho hm
      rw [State.switchFrameClose_stray status (hr ▸ hv) (hr ▸ ho) (hr ▸ hm)]
      exact hy.updArrivals k _
    · intro hv ho hm
      rw [State.switchFrameClose_routed status (hr ▸ hv) (hr ▸ ho) (hr ▸ hm)]
      have hsent : ∀ u, (y.routeFrameClose k frame status).out u =
          if r.entry.sendTo.get u = true then s.outAfter k u (closing u) else s.out u := by
        intro u
        rw [State.out_routeFrameClose, hr, ← hout u, hy.out u]
        rfl
      refine ⟨?_, ?_, ?_, ?_, ?_, ?_, ?_⟩
      · rw [State.rx_routeFrameClose, hy.counters]
      · rw [State.streamRec_routeFrameClose_self, hr]
      · intro c hc
        rw [State.channel_routeFrameClose, hr, if_pos hc, State.channel_congr hy.channels]
      · intro c hc
        rw [State.channel_routeFrameClose, hr, if_neg hc, State.channel_congr hy.channels]
      · rintro u (hs | hu)
        · rw [hsent, hs]
          rfl
        · rw [hsent, State.outAfter, hu]
          split <;> rfl
      · intro u hs
        rw [hsent, if_pos hs, State.out_sendControl, if_pos rfl]
      · intro u hs hu hw hv
        rw [hsent, if_pos hs, State.outAfter_of_place _ hu hw hv]
    · intro w hquiet hends
      have hw := htold w hquiet hends
      refine ⟨fun c hv ho hm hc => ?_, fun h => ?_⟩
      · rw [State.switchFrameClose_routed status (hr ▸ hv) (hr ▸ ho) (hr ▸ hm), State.channel_routeFrameClose, hr, if_pos hc,
          State.orders_routeFrameClose_of_some y k frame status (hr ▸ hc), State.channel_congr hy.channels, hw]
        exact fun hne => if_neg hne
      · by_cases hv : r.entry.valid = true
        · by_cases ho : r.entry.origin = p
          · by_cases hm : matching
            · rw [State.switchFrameClose_routed status (hr ▸ hv) (hr ▸ ho) (hr ▸ hm)] at h ⊢
              cases hc : r.entry.channel with
              | none => rw [State.orders_routeFrameClose_of_none y k frame status (hr ▸ hc), hw]
              | some c =>
                have hsame := h c hc
                rw [State.channel_routeFrameClose, hr, if_pos hc, State.channel_congr hy.channels] at hsame
                rw [State.orders_routeFrameClose_of_some y k frame status (hr ▸ hc), State.channel_congr hy.channels, if_pos hsame, hw]
            · rw [State.switchFrameClose_stray status (hr ▸ hv) (hr ▸ ho) (hr ▸ hm)]
              simpa using hw
          · rw [State.switchFrameClose_misrouted frame status (hr ▸ hv) (hr ▸ ho)]
            simpa using hw
        · rw [State.switchFrameClose_unrouted frame status (hr ▸ Bool.eq_false_of_not_eq_true hv)]
          simpa using hw

end Sys2Proof.Machine

/-! # Proofs: a FRAME-OPEN at the port, at its channel and at the outputs of its route (R8, R11, R12, R25, R48, R49, R66) -/

namespace Sys2Proof.Machine

/-! ## One channel (R48, R49) -/

/-- The frame in a slot is being filled. -/
def Channel.Fills (c : Channel) (i : Fin 3) : Prop := ∃ f, c.intake = .filling i f

theorem Channel.freeSlot_eq_some {c : Channel} {i : Fin 3} (hi : (c.slot i).state = .free)
    (hl : ∀ j, j < i → (c.slot j).state ≠ .free) : c.freeSlot = some i := by
  unfold Channel.freeSlot
  rw [show List.finRange 3 = [0, 1, 2] from rfl]
  fin_cases i
  · simp_all [List.find?]
  · have h0 := hl 0 (by decide)
    simp_all [List.find?]
  · have h0 := hl 0 (by decide)
    have h1 := hl 1 (by decide)
    simp_all [List.find?]

theorem Channel.freeSlot_eq_none {c : Channel} (h : ∀ i, (c.slot i).state ≠ .free) : c.freeSlot = none := by
  unfold Channel.freeSlot
  rw [List.find?_eq_none]
  exact fun i _ => by simpa using h i

theorem Channel.abandonIntake_of_none {c : Channel} (h : ∀ i, ¬c.Fills i) : c.abandonIntake = { c with intake := .none } := by
  unfold Channel.abandonIntake
  split
  next hi => rw [← hi]
  next i f hi => exact absurd ⟨f, hi⟩ (h i)
  next => rfl

/-- What giving up the open frame makes of a channel (R48 step 1). -/
theorem Channel.abandonIntake_spec (c : Channel) :
    c.abandonIntake.state = c.state ∧ c.abandonIntake.counters.dropped = c.counters.dropped ∧
    (∀ i, c.Fills i → c.abandonIntake.slot i = { c.slot i with state := .free }) ∧
    (∀ i, ¬c.Fills i → c.abandonIntake.slot i = c.slot i) ∧
    ((∀ i, ¬c.Fills i) → c.abandonIntake.slots = c.slots ∧ c.abandonIntake.counters.incomplete = c.counters.incomplete) ∧
    ((∃ i, c.Fills i) → c.abandonIntake.counters.incomplete = min (c.counters.incomplete + 1) 65535) := by
  by_cases h : ∃ i, c.Fills i
  · obtain ⟨i, f, hi⟩ := h
    have hself : ∀ j, c.Fills j → j = i := by
      rintro j ⟨g, hj⟩
      cases hj.symm.trans hi
      rfl
    rw [Channel.abandonIntake_filling hi]
    refine ⟨rfl, rfl, fun j hj => ?_, fun j hj => ?_, fun hno => absurd ⟨f, hi⟩ (hno i), fun _ => rfl⟩
    · rw [hself j hj]
      exact Channel.slot_updSlot_self c i (fun sl => { sl with state := .free })
    · have hji : j ≠ i := fun e => hj (e ▸ ⟨f, hi⟩)
      exact Channel.slot_updSlot_of_ne c (fun sl => { sl with state := .free }) hji
  · rw [Channel.abandonIntake_of_none (fun i hi => h ⟨i, hi⟩)]
    exact ⟨rfl, rfl, fun i hi => absurd ⟨i, hi⟩ h, fun _ _ => rfl, fun _ => ⟨rfl, rfl⟩, fun hi => absurd hi h⟩

/-- A FRAME-OPEN at a channel whose open frame has been given up. -/
def Channel.openSlot (frame : Nat) (grade : Grade) (home : Nat) (c : Channel) : Channel :=
  let c := { c with grade := grade, home := some home }
  match c.freeSlot with
  | some i =>
    { c with intake := .filling i frame }.updSlot i (fun sl => { sl with state := .filling, frame := frame, good := [] })
  | none => { c with intake := .dropping frame }.count (fun k => { k with dropped := bumpTraffic k.dropped })

theorem Channel.frameOpen_eq {c : Channel} (h : c.stream.isSome = true) (frame : Nat) (grade : Grade) (home : Nat) :
    c.frameOpen frame grade home = c.abandonIntake.openSlot frame grade home := by
  unfold Channel.frameOpen Channel.openSlot
  rw [if_neg (by simpa [Option.isSome_iff_ne_none] using h)] <;> rfl

theorem Channel.openSlot_of_free {c : Channel} {i : Fin 3} (h : c.freeSlot = some i) (frame : Nat) (grade : Grade) (home : Nat) :
    c.openSlot frame grade home = { c with grade := grade, home := some home, intake := .filling i frame }.updSlot i
      (fun sl => { sl with state := .filling, frame := frame, good := [] }) := by
  have h' : Channel.freeSlot { c with grade := grade, home := some home } = some i := h
  unfold Channel.openSlot
  dsimp only
  rw [h']

theorem Channel.openSlot_of_full {c : Channel} (h : c.freeSlot = none) (frame : Nat) (grade : Grade) (home : Nat) :
    c.openSlot frame grade home = { c with
      grade := grade, home := some home, intake := .dropping frame
      counters := { c.counters with dropped := min (c.counters.dropped + 1) 65535 } } := by
  have h' : Channel.freeSlot { c with grade := grade, home := some home } = none := h
  unfold Channel.openSlot
  dsimp only
  rw [h']
  rfl

/-- A frame that the switch cuts gives up what giving it up would, but for the stray counter (R28, R46, R55). -/
theorem Channel.abandonIntake_frameClose (c : Channel) (frame : Nat) :
    ∃ n, (c.frameClose frame .cut).abandonIntake =
      { c.abandonIntake with counters := { c.abandonIntake.counters with stray := n } } := by
  unfold Channel.frameClose
  split
  next hi => exact ⟨bumpTraffic c.counters.stray, by simp [Channel.abandonIntake, Channel.strayPacket, Channel.count, hi]⟩
  next f hi =>
    split
    · exact ⟨c.counters.stray, by simp [Channel.abandonIntake, hi]⟩
    · exact ⟨bumpTraffic c.counters.stray, by simp [Channel.abandonIntake, Channel.strayPacket, Channel.count, hi]⟩
  next i f hi =>
    split
    · exact ⟨c.counters.stray, by simp [Channel.abandonIntake, Channel.count, Channel.updSlot, hi]⟩
    · exact ⟨bumpTraffic c.counters.stray, by simp [Channel.abandonIntake, Channel.strayPacket, Channel.count, Channel.updSlot, hi]⟩

@[simp] theorem Channel.frameClose_stream (c : Channel) (frame : Nat) (status : CloseStatus) :
    (c.frameClose frame status).stream = c.stream := by
  unfold Channel.frameClose
  split
  next => rfl
  next => split <;> rfl
  next i f hi =>
    split
    · dsimp only
      split
      · rw [Channel.abandonIntake_filling hi]
      · rfl
    · rfl

/-- What a FRAME-OPEN makes of a bound channel (R48, R49), from `c` to `d`. -/
structure Channel.TookOpen (c : Channel) (frame : Nat) (grade : Grade) (home : Nat) (d : Channel) : Prop where
  grade : d.grade = grade
  home : d.home = some home
  state : d.state = c.state
  gaveUp : (∃ i, c.Fills i) → d.counters.incomplete = min (c.counters.incomplete + 1) 65535
  nothing : (∀ i, ¬c.Fills i) → d.counters.incomplete = c.counters.incomplete
  slot : ∀ i, ((c.slot i).state = .free ∨ c.Fills i) → (∀ j, j < i → ¬((c.slot j).state = .free ∨ c.Fills j)) →
    d.intake = .filling i frame ∧ d.slot i = { c.slot i with state := .filling, frame := frame, good := [] } ∧
    (∀ j, j ≠ i → c.Fills j → d.slot j = { c.slot j with state := .free }) ∧
    (∀ j, j ≠ i → ¬c.Fills j → d.slot j = c.slot j) ∧ d.counters.dropped = c.counters.dropped
  dropped : (∀ i, ¬((c.slot i).state = .free ∨ c.Fills i)) → d.intake = .dropping frame ∧ d.slots = c.slots ∧
    d.counters.dropped = min (c.counters.dropped + 1) 65535

theorem Channel.openSlot_took (c : Channel) (n frame : Nat) (grade : Grade) (home : Nat) :
    c.TookOpen frame grade home
      ({ c.abandonIntake with counters := { c.abandonIntake.counters with stray := n } }.openSlot frame grade home) := by
  obtain ⟨hstate, hdropped, hfills, hother, hquiet, hcount⟩ := c.abandonIntake_spec
  have hfree : ∀ i, (c.abandonIntake.slot i).state = .free ↔ ((c.slot i).state = .free ∨ c.Fills i) := by
    intro i
    by_cases hi : c.Fills i
    · simp [hfills i hi, hi]
    · simp [hother i hi, hi]
  generalize c.abandonIntake = b at *
  cases hb : b.freeSlot with
  | some i =>
    have hb' : Channel.freeSlot { b with counters := { b.counters with stray := n } } = some i := hb
    rw [Channel.openSlot_of_free hb']
    refine { grade := rfl, home := rfl, state := hstate, gaveUp := hcount, nothing := fun h => (hquiet h).2, slot := ?_, dropped := ?_ }
    · intro j hj hlow
      cases hb.symm.trans (Channel.freeSlot_eq_some ((hfree j).2 hj) (fun l hl => fun e => hlow l hl ((hfree l).1 e)))
      refine ⟨rfl, ?_, fun l hl hfl => ?_, fun l hl hfl => ?_, hdropped⟩
      · rw [Channel.slot_updSlot_self]
        by_cases hi : c.Fills i
        · exact congrArg (fun sl : Slot => { sl with state := .filling, frame := frame, good := [] }) (hfills i hi)
        · exact congrArg (fun sl : Slot => { sl with state := .filling, frame := frame, good := [] }) (hother i hi)
      · rw [Channel.slot_updSlot_of_ne _ _ hl]
        exact hfills l hfl
      · rw [Channel.slot_updSlot_of_ne _ _ hl]
        exact hother l hfl
    · intro hno
      cases hb.symm.trans (Channel.freeSlot_eq_none (fun l e => hno l ((hfree l).1 e)))
  | none =>
    have hb' : Channel.freeSlot { b with counters := { b.counters with stray := n } } = none := hb
    rw [Channel.openSlot_of_full hb']
    refine { grade := rfl, home := rfl, state := hstate, gaveUp := hcount, nothing := fun h => (hquiet h).2, slot := ?_, dropped := ?_ }
    · intro j hj hlow
      cases hb.symm.trans (Channel.freeSlot_eq_some ((hfree j).2 hj) (fun l hl => fun e => hlow l hl ((hfree l).1 e)))
    · intro hno
      refine ⟨rfl, (hquiet fun i hi => hno i (.inr hi)).1, ?_⟩
      rw [← hdropped]

/-! ## The switch (R25) -/

theorem State.sendControl_of_down {s : State} {u : Trunk} (h : s.trunkUp u = false) (k : Fin 256) (p : Packet) :
    s.sendControl u k p = s := by
  unfold State.sendControl
  rw [h]
  rfl

theorem State.out_sendControl_congr {s t : State} {u : Trunk} (ho : t.out u = s.out u) (hu : t.trunkUp u = s.trunkUp u) (k : Fin 256)
    (p : Packet) : (t.sendControl u k p).out u = (s.sendControl u k p).out u := by
  rw [State.out_sendControl, if_pos rfl, State.out_sendControl, if_pos rfl, State.outAfter_congr ho hu]

section
variable (s : State) (k : Fin 256)

theorem State.out_closeCut (u : Trunk) : (s.closeCut k).out u =
    if (s.streamRec k).entry.sendTo.get u = true then s.outAfter k u (.frameClose k (s.streamRec k).flow.frame .cut) else s.out u := by
  unfold State.closeCut
  dsimp only
  rw [State.out_updFlow, State.out_deliver]
  exact State.out_sendRoute s (s.streamRec k).entry k (fun _ => .frameClose k (s.streamRec k).flow.frame .cut) u

@[simp] theorem State.trunkUp_closeIfOpen (u : Trunk) : (s.closeIfOpen k).trunkUp u = s.trunkUp u := by
  rw [State.trunkUp_eq, State.rx_closeIfOpen, ← State.trunkUp_eq]

@[simp] theorem State.entry_closeIfOpen (j : Fin 256) : ((s.closeIfOpen k).streamRec j).entry = (s.streamRec j).entry := by
  unfold State.closeIfOpen
  split
  · by_cases e : j = k
    · subst e
      rw [State.streamRec_closeCut_self]
    · rw [State.streamRec_closeCut_of_ne s e]
  · rfl

theorem State.streamRec_closeIfOpen_of_ne {j : Fin 256} (h : j ≠ k) : (s.closeIfOpen k).streamRec j = s.streamRec j := by
  unfold State.closeIfOpen
  split
  · exact State.streamRec_closeCut_of_ne s h
  · rfl

/-- An output of the route takes the FRAME-CLOSE CUT of the open frame, then the packet (R25). -/
theorem State.outAfter_closeIfOpen {u : Trunk} (hs : (s.streamRec k).entry.sendTo.get u = true) (p : Packet) :
    (s.closeIfOpen k).outAfter k u p = if (s.streamRec k).flow.isOpen = true then
      ((s.sendControl u k (.frameClose k (s.streamRec k).flow.frame .cut)).sendControl u k p).out u
    else (s.sendControl u k p).out u := by
  rw [State.out_sendControl, if_pos rfl, State.out_sendControl, if_pos rfl]
  by_cases ho : (s.streamRec k).flow.isOpen = true
  · rw [if_pos ho]
    refine State.outAfter_congr ?_ (by simp) k p
    rw [State.closeIfOpen, if_pos ho, State.out_closeCut, if_pos hs, State.out_sendControl, if_pos rfl]
  · rw [if_neg ho, State.closeIfOpen, if_neg ho]

variable (frame : Nat) (grade : Grade) (home : Nat)

/-- The hub after the frame that was open is closed and the new one is in the stream state (R25 steps 1 and 2). -/
def State.reopened : State :=
  (s.closeIfOpen k).updFlow k (fun f => { isOpen := true, frame := frame, cut := ⟨false, false⟩, epoch := f.epoch + 1 })

theorem State.routeFrameOpen_eq : s.routeFrameOpen k frame grade home =
    (((s.reopened k frame).sendIfRouted (s.streamRec k).entry .ta k (.frameOpen k frame grade home)).sendIfRouted
      (s.streamRec k).entry .tb k (.frameOpen k frame grade home)).deliver (s.streamRec k).entry
        (Channel.frameOpen frame grade home) := by
  have he : ((s.reopened k frame).streamRec k).entry = (s.streamRec k).entry := by simp [State.reopened]
  rw [← he]
  rfl

theorem State.routeFrameOpen_streams : (s.routeFrameOpen k frame grade home).streams = (s.reopened k frame).streams := by
  rw [State.routeFrameOpen_eq]
  simp

theorem State.flow_routeFrameOpen_self : ((s.routeFrameOpen k frame grade home).streamRec k).flow.isOpen = true ∧
    ((s.routeFrameOpen k frame grade home).streamRec k).flow.frame = frame ∧
    ((s.routeFrameOpen k frame grade home).streamRec k).flow.cut = ⟨false, false⟩ := by
  rw [State.streamRec_congr (s.routeFrameOpen_streams k frame grade home), State.reopened, State.streamRec_updFlow_self]
  exact ⟨rfl, rfl, rfl⟩

theorem State.streamRec_routeFrameOpen_of_ne {j : Fin 256} (h : j ≠ k) :
    (s.routeFrameOpen k frame grade home).streamRec j = s.streamRec j := by
  rw [State.streamRec_congr (s.routeFrameOpen_streams k frame grade home), State.reopened, State.streamRec_updFlow_of_ne _ _ h,
    State.streamRec_closeIfOpen_of_ne s k h]

theorem State.entry_routeFrameOpen (j : Fin 256) :
    ((s.routeFrameOpen k frame grade home).streamRec j).entry = (s.streamRec j).entry := by
  rw [State.streamRec_congr (s.routeFrameOpen_streams k frame grade home), State.reopened, State.entry_updFlow, State.entry_closeIfOpen]

theorem State.out_routeFrameOpen (u : Trunk) : (s.routeFrameOpen k frame grade home).out u =
    if (s.streamRec k).entry.sendTo.get u = true then (s.closeIfOpen k).outAfter k u (.frameOpen k frame grade home) else s.out u := by
  have hclosed : (s.streamRec k).entry.sendTo.get u ≠ true → (s.closeIfOpen k).out u = s.out u := by
    intro hs
    unfold State.closeIfOpen
    split
    · rw [State.out_closeCut, if_neg hs]
    · rfl
  rw [State.routeFrameOpen_eq, State.out_deliver,
    State.out_sendRoute (s.reopened k frame) (s.streamRec k).entry k (fun _ => .frameOpen k frame grade home) u]
  split
  · rfl
  · next hs => exact (State.out_updFlow ..).trans (hclosed hs)

theorem State.channel_routeFrameOpen (c : Fin 12) : (s.routeFrameOpen k frame grade home).channel c =
    if (s.streamRec k).entry.channel = some c then ((s.closeIfOpen k).channel c).frameOpen frame grade home
    else (s.closeIfOpen k).channel c := by
  rw [State.routeFrameOpen_eq, State.channel_deliver]
  have hc := State.channel_congr (s := s.closeIfOpen k) (t := ((s.reopened k frame).sendIfRouted (s.streamRec k).entry .ta k
    (.frameOpen k frame grade home)).sendIfRouted (s.streamRec k).entry .tb k (.frameOpen k frame grade home))
    (by simp [State.reopened]) c
  rw [hc]

theorem State.channel_routeFrameOpen_of_ne {c : Fin 12} (h : (s.streamRec k).entry.channel ≠ some c) :
    (s.routeFrameOpen k frame grade home).channel c = s.channel c := by
  rw [State.channel_routeFrameOpen, if_neg h]
  unfold State.closeIfOpen
  split
  · rw [State.channel_closeCut, if_neg h]
  · rfl

/-- The channel of the route takes the FRAME-OPEN after the FRAME-CLOSE CUT of the frame that was open (R25, R48, R49). -/
theorem State.channel_routeFrameOpen_took {c : Fin 12} (h : (s.streamRec k).entry.channel = some c)
    (hb : (s.channel c).stream.isSome = true) :
    (s.channel c).TookOpen frame grade home ((s.routeFrameOpen k frame grade home).channel c) := by
  rw [State.channel_routeFrameOpen, if_pos h]
  unfold State.closeIfOpen
  split
  · obtain ⟨n, hn⟩ := (s.channel c).abandonIntake_frameClose (s.streamRec k).flow.frame
    rw [State.channel_closeCut, if_pos h, Channel.frameOpen_eq (by rw [Channel.frameClose_stream]; exact hb), hn]
    exact (s.channel c).openSlot_took n frame grade home
  · rw [Channel.frameOpen_eq hb]
    exact (s.channel c).openSlot_took (s.channel c).abandonIntake.counters.stray frame grade home

end

section
variable {s : State} {p : Port} {k : Fin 256} (frame : Nat) (grade : Grade) (home : Nat)

theorem State.switchFrameOpen_unrouted (h : (s.streamRec k).entry.valid = false) :
    s.switchFrameOpen p k frame grade home = s.countUnrouted p := by
  unfold State.switchFrameOpen
  rw [StreamEntry.lookup_unrouted h]

theorem State.switchFrameOpen_misrouted (h : (s.streamRec k).entry.valid = true) (ho : (s.streamRec k).entry.origin ≠ p) :
    s.switchFrameOpen p k frame grade home = s.countMisrouted p := by
  unfold State.switchFrameOpen
  rw [StreamEntry.lookup_misrouted h ho]

theorem State.switchFrameOpen_routed (h : (s.streamRec k).entry.valid = true) (ho : (s.streamRec k).entry.origin = p) :
    s.switchFrameOpen p k frame grade home = s.routeFrameOpen k frame grade home := by
  unfold State.switchFrameOpen
  rw [StreamEntry.lookup_routed h ho]

/-- A FRAME-OPEN leaves the open frames of the camera ports, and the entries of the streams. -/
theorem State.switchFrameOpen_keeps (s : State) (p : Port) (k : Fin 256) (frame : Nat) (grade : Grade) (home : Nat) :
    (∀ i, (Tab.get (s.switchFrameOpen p k frame grade home).cams i).openFrame = (Tab.get s.cams i).openFrame) ∧
    ∀ j, ((s.switchFrameOpen p k frame grade home).streamRec j).entry = (s.streamRec j).entry := by
  unfold State.switchFrameOpen
  split
  · exact ⟨fun i => by simp [State.countUnrouted], fun j => by rw [State.streamRec_congr (State.countUnrouted_frame ..).1]⟩
  · exact ⟨fun i => by simp [State.countMisrouted], fun j => by rw [State.streamRec_congr (State.countMisrouted_frame ..).1]⟩
  · exact ⟨fun i => by simp, s.entry_routeFrameOpen k frame grade home⟩

end

/-! ## The port and the camera (R8, R12, R66) -/

/-- A group that is not JUDGED leaves its verdict (R76). -/
theorem Lens.notJudged_fields (v : Verdict) (l : Lens) : (l.notJudged v).1.verdict = some v ∧ (l.notJudged v).1.half = l.half ∧
    (l.notJudged v).1.measure = l.measure ∧ (l.notJudged v).1.stated = l.stated := by
  unfold Lens.notJudged
  dsimp only
  split
  · split <;> exact ⟨rfl, rfl, rfl, rfl⟩
  · exact ⟨rfl, rfl, rfl, rfl⟩

/-- An incomplete frame takes the measure and the half pair away (R71, R73). -/
theorem Lens.frameEnd_incomplete (p : Profile) (l : Lens) :
    l.frameEnd p false = { l with measure := none, half := none }.notJudged .incomplete := by
  unfold Lens.frameEnd
  split
  · rfl
  next hm => rw [← hm]

theorem State.endOpenFrame_of_none {s : State} {i : Fin 8} (h : (Tab.get s.cams i).openFrame = none) (complete : Bool) :
    s.endOpenFrame i complete = s := by
  unfold State.endOpenFrame
  rw [h]

theorem State.endOpenFrame_of_some {s : State} {i : Fin 8} (h : (Tab.get s.cams i).openFrame.isSome = true) (complete : Bool) :
    s.endOpenFrame i complete =
      (s.updCam i (fun c => { c with openFrame := none })).lensEvent i (Lens.frameEnd (s.profileOf i) complete) := by
  obtain ⟨f, hf⟩ := Option.isSome_iff_exists.1 h
  unfold State.endOpenFrame
  rw [hf]

/-- The lens record after an open frame has ended incomplete. -/
theorem State.lens_endOpenFrame {s : State} {i : Fin 8} (h : (Tab.get s.cams i).openFrame.isSome = true) :
    (s.endOpenFrame i false).lens i = ({ s.lens i with measure := none, half := none }.notJudged .incomplete).1 := by
  rw [State.endOpenFrame_of_some h, State.lens_lensEvent_self, Lens.frameEnd_incomplete]
  rfl

@[simp] theorem State.lens_updCam (s : State) (i j : Fin 8) (f : CameraPort → CameraPort) : (s.updCam i f).lens j = s.lens j := rfl

@[simp] theorem State.rx_lensEvent (s : State) (i : Fin 8) (f : Lens → Lens × Option LearnEnd) (q : Port) :
    (s.lensEvent i f).rx q = s.rx q := State.rx_congr (State.lensEvent_frame ..).1 (State.lensEvent_frame ..).2.1 q

@[simp] theorem State.rx_endOpenFrame (s : State) (i : Fin 8) (complete : Bool) (q : Port) :
    (s.endOpenFrame i complete).rx q = s.rx q := by
  unfold State.endOpenFrame
  split
  · rfl
  · rw [State.rx_lensEvent, State.rx_updCam_of_eq rfl]

@[simp] theorem State.profileOf_endOpenFrame (s : State) (i : Fin 8) (complete : Bool) :
    (s.endOpenFrame i complete).profileOf i = s.profileOf i := by
  unfold State.endOpenFrame
  split <;> simp [State.profileOf]

/-- The camera's part of a FRAME-OPEN (R12): a trunk port has none. -/
def State.cameraOpened (s : State) (p : Port) (frame : Nat) : State :=
  match p with
  | .cam i => s.openCameraFrame i frame
  | .trunk _ => s

/-- What the port's count and the camera's part of a FRAME-OPEN make of the hub, from `s` to `y`. -/
structure State.OpenCounted (s : State) (p : Port) (frame : Nat) (y : State) : Prop where
  opened : ∀ i, p = .cam i → (Tab.get y.cams i).openFrame = some ⟨frame, []⟩ ∧
    (y.lens i).measure = some (Measure.start frame (Tab.get s.profiles (Tab.get s.cams i).profile).noise) ∧
    ((Tab.get s.cams i).openFrame.isSome = true → (y.lens i).verdict = some .incomplete ∧ (y.lens i).half = none)
  streams : y.streams = s.streams
  channels : y.channels = s.channels
  out : ∀ u, y.out u = s.out u
  up : ∀ u, y.trunkUp u = s.trunkUp u
  counters : (y.rx p).counters = { (s.rx p).counters with received := min ((s.rx p).counters.received + 1) 65535 }

theorem State.openCounted (s : State) (p : Port) (frame : Nat) : s.OpenCounted p frame ((s.countReceived p).cameraOpened p frame) := by
  have hrx : ((s.countReceived p).rx p).counters =
      { (s.rx p).counters with received := min ((s.rx p).counters.received + 1) 65535 } := by
    rw [State.countReceived, State.updArrivals, State.rx_updRx_self]
    rfl
  have hcount : s.SameLines (s.countReceived p) := (State.SameLines.refl s).updArrivals p _
  cases p with
  | trunk u =>
    refine { opened := fun i e => (by cases e), streams := rfl, channels := rfl, out := fun v => ?_, up := fun v => ?_, counters := hrx }
    · exact State.out_updArrivals ..
    · rw [State.trunkUp_eq, State.trunkUp_eq]
      exact congrArg (fun l => decide (l = LinkState.up)) (hcount.link _)
  | cam i =>
    have htrunks : ((s.countReceived (.cam i)).openCameraFrame i frame).trunks = s.trunks := (State.openCameraFrame_frame ..).1
    refine { opened := ?_, streams := ?_, channels := ?_, out := State.out_congr htrunks, up := fun u => ?_, counters := ?_ }
    · intro j e
      cases e
      have hframe : (Tab.get (s.countReceived (.cam i)).cams i).openFrame = (Tab.get s.cams i).openFrame := by
        simp [State.countReceived]
      have hprofile : (s.countReceived (.cam i)).profileOf i = Tab.get s.profiles (Tab.get s.cams i).profile := by
        simp [State.profileOf, State.countReceived]
      refine ⟨by simp [State.cameraOpened, State.openCameraFrame], ?_, fun ho => ?_⟩
      · simp [State.cameraOpened, State.openCameraFrame, hprofile]
      · have hl := State.lens_endOpenFrame (hframe ▸ ho)
        simp [State.cameraOpened, State.openCameraFrame, hl, Lens.notJudged_fields]
    · simp [State.cameraOpened, State.countReceived]
    · simp [State.cameraOpened, State.countReceived]
    · unfold State.trunkUp State.cameraOpened
      dsimp only
      rw [htrunks]
    · unfold State.cameraOpened State.openCameraFrame
      dsimp only
      rw [State.rx_updLens, State.rx_updCam_of_eq rfl, State.rx_endOpenFrame, hrx]

theorem State.OpenCounted.updArrivals {s y : State} {p : Port} {frame : Nat} (h : s.OpenCounted p frame y)
    (f : ArrivalCounters → ArrivalCounters) :
    (y.updArrivals p f).streams = s.streams ∧ (y.updArrivals p f).channels = s.channels ∧
    (∀ u, (y.updArrivals p f).out u = s.out u) ∧ ((y.updArrivals p f).rx p).counters =
      f { (s.rx p).counters with received := min ((s.rx p).counters.received + 1) 65535 } := by
  refine ⟨?_, ?_, fun u => (State.out_updArrivals ..).trans (h.out u), ?_⟩
  · cases p <;> exact h.streams
  · cases p <;> exact h.channels
  · rw [State.updArrivals, State.rx_updRx_self, ← h.counters]

theorem State.handFrameOpen_eq {s : State} {p : Port} {given k : Fin 256} {g grade : Grade} {home h : Nat}
    (hcam : ∀ i, p = .cam i → k = (Tab.get s.cams i).stream ∧ grade = (s.lens i).stated ∧ h = s.orders.hub.number)
    (htrunk : ∀ u, p = .trunk u → k = given ∧ grade = g ∧ h = home) (frame : Nat) :
    s.handFrameOpen p given frame g home =
      ((s.countReceived p).cameraOpened p frame).switchFrameOpen p k frame grade h := by
  cases p with
  | trunk u =>
    obtain ⟨rfl, rfl, rfl⟩ := htrunk u rfl
    rfl
  | cam i =>
    obtain ⟨hk, hgrade, hh⟩ := hcam i rfl
    have hstream : (Tab.get (s.countReceived (.cam i)).cams i).stream = k := by simp [State.countReceived, hk]
    unfold State.handFrameOpen State.cameraOpened
    dsimp only
    rw [hstream, hgrade, hh]
    rfl

/-! ## The statement -/

/-- Settles O13: the port and the camera, then the switch by its lookup, then the channel and the outputs of the route. -/
theorem frameOpenArrivalIsRouted : Obligations.FrameOpenArrivalIsRouted := by
  intro p given k frame home h g grade s hb hf hh hcam htrunk opening closing
  have hexec : exec (.packetEnd p (Packet.frameOpen given frame g home).wire) s = .next (s.handFrameOpen p given frame g home) :=
    hb.exec_wire (readPacket_frameOpen _ given g hf hh) rfl (by simp [Packet.wire_eq, Packet.body, length_byte2, byte1])
  have hy := s.openCounted p frame
  rw [State.handFrameOpen_eq hcam htrunk] at hexec
  generalize (s.countReceived p).cameraOpened p frame = y at hexec hy
  have hr : ∀ j, y.streamRec j = s.streamRec j := State.streamRec_congr hy.streams
  have hlens : ∀ i, (y.switchFrameOpen p k frame grade h).lens i = y.lens i := State.lens_congr (by simp)
  obtain ⟨hopen, hentry⟩ := y.switchFrameOpen_keeps p k frame grade h
  refine ⟨_, hexec, ?_, ?_, ?_, ?_, ?_⟩
  · intro i hi
    rw [hopen, hlens]
    exact hy.opened i hi
  · exact fun j => (hentry j).trans (congrArg _ (hr j))
  · intro hv
    rw [State.switchFrameOpen_unrouted frame grade h ((hr k).symm ▸ hv)]
    exact hy.updArrivals _
  · intro hv ho
    rw [State.switchFrameOpen_misrouted frame grade h ((hr k).symm ▸ hv) ((hr k).symm ▸ ho)]
    exact hy.updArrivals _
  · intro hv ho
    rw [State.switchFrameOpen_routed frame grade h ((hr k).symm ▸ hv) ((hr k).symm ▸ ho)]
    obtain ⟨hisopen, hframe, hcut⟩ := y.flow_routeFrameOpen_self k frame grade h
    have hsent : ∀ u, (s.streamRec k).entry.sendTo.get u = true → (y.routeFrameOpen k frame grade h).out u =
        if (s.streamRec k).flow.isOpen = true then ((s.sendControl u k closing).sendControl u k opening).out u
        else (s.sendControl u k opening).out u := by
      intro u hs
      rw [State.out_routeFrameOpen, hr, if_pos hs, State.outAfter_closeIfOpen y k ((hr k).symm ▸ hs), hr,
        State.out_sendControl_congr (hy.out u) (hy.up u),
        State.out_sendControl_congr (State.out_sendControl_congr (hy.out u) (hy.up u) k closing) (by simp [hy.up])]
    refine ⟨?_, hisopen, hframe, hcut, ?_, ?_, ?_, ?_, ?_, ?_⟩
    · rw [State.rx_routeFrameOpen, hy.counters]
    · exact fun j hj => by rw [State.streamRec_routeFrameOpen_of_ne y k frame grade h hj, hr]
    · intro c hc
      rw [State.channel_routeFrameOpen_of_ne y k frame grade h ((hr k).symm ▸ hc), State.channel_congr hy.channels]
    · intro c hc hbound
      have hch : y.channel c = s.channel c := State.channel_congr hy.channels c
      have took := State.channel_routeFrameOpen_took y k frame grade h ((hr k).symm ▸ hc) (hch.symm ▸ hbound)
      rw [hch] at took
      exact ⟨took.grade, took.home, took.state, took.gaveUp, took.nothing, took.slot, took.dropped⟩
    · have hoff : ∀ u, (s.streamRec k).entry.sendTo.get u = false → (y.routeFrameOpen k frame grade h).out u = s.out u := by
        intro u hs
        rw [State.out_routeFrameOpen, hr, hs]
        exact hy.out u
      rintro u (hs | hu)
      · exact hoff u hs
      · by_cases hs : (s.streamRec k).entry.sendTo.get u = true
        · rw [hsent u hs, State.sendControl_of_down hu, State.sendControl_of_down hu, ite_self]
        · exact hoff u (Bool.eq_false_of_not_eq_true hs)
    · exact hsent
    · intro u hs hu hw
      rw [hsent u hs]
      refine ⟨fun ho hv => ?_, fun ho hv => ?_⟩
      · rw [if_neg (by simp [ho]), State.out_sendControl, if_pos rfl, State.outAfter_of_place _ hu hw hv]
      · have hfirst : (s.sendControl u k closing).out u = { s.out u with video := (s.out u).video ++ [closing] } := by
          rw [State.out_sendControl, if_pos rfl, State.outAfter_of_place _ hu hw (by omega)]
        rw [if_pos ho, State.out_sendControl, if_pos rfl,
          State.outAfter_of_place _ (by simpa using hu) (by simpa [hfirst] using hw) (by simp [hfirst]; omega), hfirst]
        simp

end Sys2Proof.Machine

/-! # Proofs: the records that QUERY returns (R163) -/

namespace Sys2Proof.Machine

/-! ## Field forms -/

/-- A table's entries, in order. -/
theorem Tab.toList_eq {α : Type} {n : Nat} (v : Vector α n) : v.toList = (List.finRange n).map (Tab.get v) := by
  apply List.ext_getElem
  · simp
  · intro i h₁ h₂
    simp [Tab.get]

theorem Tab.flatMap_toList {α β : Type} {n : Nat} (v : Vector α n) (f : α → List β) :
    v.toList.flatMap f = (List.finRange n).flatMap (fun i => f (Tab.get v i)) := by
  rw [Tab.toList_eq, List.flatMap_map]

theorem flatMap_finRange_two {β : Type} (f : Fin 2 → List β) : (List.finRange 2).flatMap f = f 0 ++ f 1 := by
  simp [show List.finRange 2 = [0, 1] from rfl]

theorem flatMap_finRange_three {β : Type} (f : Fin 3 → List β) : (List.finRange 3).flatMap f = f 0 ++ (f 1 ++ f 2) := by
  simp [show List.finRange 3 = [0, 1, 2] from rfl]

/-- The number whose binary digits below `m` a property gives. -/
def sumBits (f : Nat → Bool) (m : Nat) : Nat := ((List.range m).map (fun b => if f b then 2 ^ b else 0)).sum

theorem sumBits_succ (f : Nat → Bool) (m : Nat) : sumBits f (m + 1) = (if f m then 2 ^ m else 0) + sumBits f m := by
  simp [sumBits, List.range_succ, Nat.add_comm]

theorem sumBits_lt (f : Nat → Bool) (m : Nat) : sumBits f m < 2 ^ m := by
  induction m with
  | zero => simp [sumBits]
  | succ m ih =>
    rw [sumBits_succ, Nat.pow_succ]
    split <;> omega

theorem testBit_sumBits (f : Nat → Bool) {m i : Nat} (h : i < m) : (sumBits f m).testBit i = f i := by
  induction m with
  | zero => omega
  | succ m ih =>
    rw [sumBits_succ]
    rcases Nat.lt_succ_iff_lt_or_eq.1 h with hi | rfl
    · split
      · rw [Nat.testBit_two_pow_add_gt hi, ih hi]
      · rw [Nat.zero_add, ih hi]
    · have hlow := Nat.testBit_lt_two_pow (sumBits_lt f i)
      split
      next hf => rw [Nat.testBit_two_pow_add_eq, hlow, hf]; rfl
      next hf => rw [Nat.zero_add, hlow, Bool.eq_false_of_not_eq_true hf]

/-- A line set as 720 bits, member n with weight 2^n (entry 14). -/
theorem lineSetBytes_bit (lines : List Nat) {n : Nat} (h : n < 720) :
    ((lineSetBytes lines).getD (89 - n / 8) 0).getLsbD (n % 8) = lines.contains n := by
  have hbyte : (lineSetBytes lines).getD (89 - n / 8) 0 =
      BitVec.ofNat 8 (sumBits (fun b => lines.contains (8 * (n / 8) + b)) 8) := by
    have hj : 90 - 1 - (89 - n / 8) = n / 8 := by omega
    rw [List.getD_eq_getElem?_getD, lineSetBytes, List.getElem?_map, List.getElem?_reverse (by simp; omega)]
    simp only [List.length_range, hj]
    rw [List.getElem?_range (by omega)]
    rfl
  have hn : 8 * (n / 8) + n % 8 = n := by omega
  have h8 : n % 8 < 8 := by omega
  rw [hbyte, BitVec.getLsbD_ofNat, testBit_sumBits _ h8, hn]
  simp [h8]

@[simp] theorem length_lineSetBytes (lines : List Nat) : (lineSetBytes lines).length = 90 := by simp [lineSetBytes]

/-! ## The subjects -/

theorem instanceOf_map_eq_none {n k : Nat} {α : Type} (f : Fin n → α) : (instanceOf n k).map f = none ↔ n ≤ k := by
  unfold instanceOf
  by_cases h : k < n
  · simp [h]
  · simpa [h] using Nat.le_of_not_lt h

theorem portOf_eq_none {k : Nat} : portOf k = none ↔ 9 < k := by
  unfold portOf instanceOf
  by_cases h : k < 8
  · simp only [h, dite_true]
    simp
    omega
  · simp only [h, dite_false]
    by_cases h8 : k = 8
    · simp [h8]
    · by_cases h9 : k = 9
      · simp [h9]
      · simp [h8, h9]
        omega

/-- What each kind of subject reads from its number (R163). -/
theorem readSubject_kind (k n part : Byte) :
    (k.toNat = 0 → readSubject [k, n, part] = if n.toNat = 0 then some .hub else none) ∧
    (k.toNat = 1 → readSubject [k, n, part] = (portOf n.toNat).map .port) ∧
    (k.toNat = 2 → readSubject [k, n, part] = some (.stream n.toFin)) ∧
    (k.toNat = 3 → readSubject [k, n, part] = (instanceOf 12 n.toNat).map .channel) ∧
    (k.toNat = 4 → readSubject [k, n, part] = (instanceOf 4 n.toNat).map .profile) ∧
    (k.toNat = 5 → readSubject [k, n, part] = if n.toNat = 0 then some .selector else none) ∧
    (k.toNat = 6 → readSubject [k, n, part] = (instanceOf 16 n.toNat).map .trigger) ∧
    (k.toNat = 7 → readSubject [k, n, part] = (instanceOf 2 n.toNat).map .screen) ∧
    (k.toNat = 8 → readSubject [k, n, part] = (instanceOf 32 n.toNat).map .view) ∧
    (k.toNat = 9 → readSubject [k, n, part] = (instanceOf 4 n.toNat).map .alert) ∧
    (9 < k.toNat → readSubject [k, n, part] = none) := by
  have hread : ∀ m, k.toNat = m → readSubject [k, n, part] = readSubject [BitVec.ofNat 8 m, n, part] := by
    rintro m rfl
    rw [BitVec.ofNat_toNat, BitVec.setWidth_eq]
  refine ⟨fun h => hread 0 h, fun h => hread 1 h, fun h => hread 2 h, fun h => hread 3 h, fun h => hread 4 h, fun h => hread 5 h,
    fun h => hread 6 h, fun h => hread 7 h, fun h => hread 8 h, fun h => hread 9 h, fun h => ?_⟩
  obtain ⟨m, hm⟩ : ∃ m, k.toNat = m + 10 := ⟨k.toNat - 10, by omega⟩
  have hbyte : byteAt [k, n, part] 0 = m + 10 := hm
  unfold readSubject
  rw [hbyte] <;> rfl

/-- The numbers that name no subject: the last one of each kind is listed (R163). -/
theorem readSubject_eq_none (k n part : Byte) :
    readSubject [k, n, part] = none ↔
      9 < k.toNat ∨ ∃ last, [0, 9, 255, 11, 3, 0, 15, 1, 31, 3][k.toNat]? = some last ∧ last < n.toNat := by
  obtain ⟨h0, h1, h2, h3, h4, h5, h6, h7, h8, h9, hlast⟩ := readSubject_kind k n part
  have hn : n.toNat < 256 := n.isLt
  by_cases hk : 9 < k.toNat
  · simp [hlast hk, hk]
  · obtain e | e | e | e | e | e | e | e | e | e : k.toNat = 0 ∨ k.toNat = 1 ∨ k.toNat = 2 ∨ k.toNat = 3 ∨ k.toNat = 4 ∨
      k.toNat = 5 ∨ k.toNat = 6 ∨ k.toNat = 7 ∨ k.toNat = 8 ∨ k.toNat = 9 := by omega
    · rw [h0 e]; simp [e, Nat.pos_iff_ne_zero]
    · rw [h1 e]; simp [e, portOf_eq_none]
    · rw [h2 e]; simp [e]; omega
    · rw [h3 e, instanceOf_map_eq_none]; simp [e]; omega
    · rw [h4 e, instanceOf_map_eq_none]; simp [e]; omega
    · rw [h5 e]; simp [e, Nat.pos_iff_ne_zero]
    · rw [h6 e, instanceOf_map_eq_none]; simp [e]; omega
    · rw [h7 e, instanceOf_map_eq_none]; simp [e]; omega
    · rw [h8 e, instanceOf_map_eq_none]; simp [e]; omega
    · rw [h9 e, instanceOf_map_eq_none]; simp [e]; omega

theorem portOf_cam {k : Nat} {i : Fin 8} (h : k = i.val) : portOf k = some (.cam i) := by
  unfold portOf
  rw [instanceOf_eq_some h.symm]

/-- The subject that each kind and number names (R163). -/
theorem readSubject_names (n part : Byte) :
    readSubject [0, 0, part] = some .hub ∧ (∀ i : Fin 8, n.toNat = i.val → readSubject [1, n, part] = some (.port (.cam i))) ∧
    readSubject [1, 8, part] = some (.port (.trunk .ta)) ∧ readSubject [1, 9, part] = some (.port (.trunk .tb)) ∧
    (∀ i, n.toNat = Fin.val i → readSubject [2, n, part] = some (.stream i)) ∧
    (∀ i, n.toNat = Fin.val i → readSubject [3, n, part] = some (.channel i)) ∧
    (∀ i, n.toNat = Fin.val i → readSubject [4, n, part] = some (.profile i)) ∧ readSubject [5, 0, part] = some .selector ∧
    (∀ i, n.toNat = Fin.val i → readSubject [6, n, part] = some (.trigger i)) ∧
    (∀ i, n.toNat = Fin.val i → readSubject [7, n, part] = some (.screen i)) ∧
    (∀ i, n.toNat = Fin.val i → readSubject [8, n, part] = some (.view i)) ∧
    (∀ i, n.toNat = Fin.val i → readSubject [9, n, part] = some (.alert i)) := by
  have named : ∀ {m : Nat} {α : Type} (f : Fin m → α) (i : Fin m), n.toNat = i.val → (instanceOf m n.toNat).map f = some (f i) :=
    fun f i h => by rw [instanceOf_eq_some h.symm]; rfl
  refine ⟨rfl, fun i h => ?_, rfl, rfl, fun i h => ?_, named _, named _, rfl, named _, named _, named _, named _⟩
  · exact congrArg (Option.map Subject.port) (portOf_cam h)
  · exact congrArg (fun k => some (Subject.stream k)) (Fin.ext h)

/-! ## The orders -/

/-- QUERY returns the named part of a subject's record, or refuses (R163). -/
theorem queryEffect_part (k n part : Byte) (s : State) (subject : Subject) (h : readSubject [k, n, part] = some subject) :
    queryEffect [k, n, part] s =
      if 186 * part.toNat < (s.recordBytes subject).length then
        (s, .data part.toNat (((s.recordBytes subject).length + 185) / 186)
          (((s.recordBytes subject).drop (186 * part.toNat)).take 186))
      else (s, .refused .badField) := by
  have hpart : part.toNat < partCount (s.recordBytes subject).length ↔ 186 * part.toNat < (s.recordBytes subject).length := by
    unfold partCount Config.partBytes
    omega
  unfold queryEffect
  rw [h]
  exact if_congr hpart rfl rfl

theorem queryEffect_none (k n part : Byte) (s : State) (h : readSubject [k, n, part] = none) :
    queryEffect [k, n, part] s = (s, .refused .badField) := by
  unfold queryEffect
  rw [h]

/-- The 48 clarity figures and the 48 marks of QUERY-ZONES (R83). -/
def Lens.zoneBytes (l : Lens) : List Byte :=
  l.clarity.toList.map (BitVec.ofNat 8) ++ l.baselines.toList.map (fun b => if b ≠ 0 then 1 else 0)

theorem Lens.zoneBytes_get (l : Lens) : l.zoneBytes.length = 96 ∧ ∀ z : Fin 48,
    l.zoneBytes[z.val]? = some (BitVec.ofNat 8 l.clarity[z]) ∧
    l.zoneBytes[48 + z.val]? = some (if l.baselines[z] = 0 then 0 else 1) := by
  refine ⟨by simp [Lens.zoneBytes], fun z => ⟨?_, ?_⟩⟩
  · rw [Lens.zoneBytes, List.getElem?_append_left (by simp)]
    simp
  · rw [Lens.zoneBytes, List.getElem?_append_right (by simp)]
    simp

/-! ## The codes of enumerated fields (R158, entry 14) -/

theorem LinkState.byte_code (x : LinkState) : byte1 x.code = (match x with | .down => [0] | .up => [1]) := by cases x <;> rfl

theorem Grade.byte_code (x : Grade) : byte1 x.code =
    (match x with | .unjudged => [0] | .clean => [1] | .haze => [2] | .smear => [3] | .blocked => [4]) := by cases x <;> rfl

theorem portCode_byte (p : Port) : byte1 (portCode p) =
    (match p with | .cam i => byte1 i.val | .trunk .ta => [8] | .trunk .tb => [9]) := by
  rcases p with i | u
  · rfl
  · cases u <;> rfl

theorem channelOrNoneCode_byte (c : Option (Fin 12)) : byte1 (channelOrNoneCode c) =
    (match c with | some c => byte1 c.val | none => [12]) := by cases c <;> rfl

theorem pending_bytes (g : Option Grade) : optional1 (g.map Grade.pendingPlace) =
    (match g with
      | none => byte1 0 ++ byte1 0
      | some .haze => byte1 1 ++ byte1 1
      | some .smear => byte1 1 ++ byte1 2
      | some .blocked => byte1 1 ++ byte1 3
      | some .clean | some .unjudged => byte1 1 ++ byte1 0) := by
  rcases g with _ | g
  · rfl
  · cases g <;> rfl

theorem verdict_byte (v : Option Verdict) : byte1 (verdictCode v) =
    (match v with
      | none => byte1 0
      | some .dark => byte1 1
      | some .glare => byte1 2
      | some .incomplete => byte1 3
      | some .judged => byte1 4) := by
  rcases v with _ | v
  · rfl
  · cases v <;> rfl

theorem Side.byte_code (x : Side) : byte1 x.code = (match x with | .ta => byte1 0 | .tb => byte1 1 | .both => byte1 2) := by
  cases x <;> rfl

theorem ResetCause.byte_code (x : ResetCause) : byte1 x.code =
    (match x with | .power => byte1 0 | .line => byte1 1 | .order => byte1 2) := by
  cases x <;> rfl

theorem ImageResult.byte_code (x : ImageResult) : byte1 x.code =
    (match x with | .absent => byte1 0 | .damaged => byte1 1 | .valid => byte1 2) := by
  cases x <;> rfl

theorem OrderSlot.byte_code (x : OrderSlot) : byte1 x.code =
    (match x with | .free => byte1 0 | .pending _ => byte1 1 | .saving _ => byte1 2) := by
  cases x <;> rfl

theorem LensState.byte_code (x : LensState) : byte1 x.code =
    (match x with | .unlearned => byte1 0 | .learning => byte1 1 | .assessing => byte1 2) := by
  cases x <;> rfl

theorem SlotState.byte_code (x : SlotState) : byte1 x.code =
    (match x with | .free => byte1 0 | .filling => byte1 1 | .stored => byte1 2) := by
  cases x <;> rfl

theorem ChannelState.byte_code (x : ChannelState) : byte1 x.code =
    (match x with | .unbound => byte1 0 | .waiting => byte1 1 | .live => byte1 2 | .stale => byte1 3 | .lost => byte1 4) := by
  cases x <;> rfl

theorem TriggerState.byte_code (x : TriggerState) : byte1 x.code =
    (match x with | .idle => byte1 0 | .active => byte1 1 | .linger _ => byte1 2) := by
  cases x <;> rfl

theorem ViewSource.byte_code (x : ViewSource) : byte1 x.code =
    (match x with | .trigger t => byte1 t.val | .pin => byte1 16 | .default => byte1 17) := by
  cases x <;> rfl

theorem SubstituteLevel.byte_code (x : SubstituteLevel) : byte1 x.code =
    (match x with | .never => byte1 0 | .smear => byte1 1 | .blocked => byte1 2) := by
  cases x <;> rfl

theorem TileCondition.byte_code (x : TileCondition) : byte1 x.code =
    (match x with
      | .placeholder => byte1 0
      | .substituted => byte1 1
      | .staleDirty => byte1 2
      | .stale => byte1 3
      | .blocked => byte1 4
      | .smear => byte1 5
      | .haze => byte1 6
      | .clear => byte1 7) := by
  cases x <;> rfl

theorem AlertMode.byte_code (x : AlertMode) : byte1 x.code =
    (match x with | .off => byte1 0 | .auto => byte1 1 | .forcedOn => byte1 2) := by
  cases x <;> rfl

theorem StateCondition.byte_code (x : StateCondition) : byte1 x.code =
    (match x with | .none => byte1 0 | .staleOrLost => byte1 1 | .lost => byte1 2) := by
  cases x <;> rfl

theorem GradeCondition.byte_code (x : GradeCondition) : byte1 x.code =
    (match x with | .none => byte1 0 | .haze => byte1 1 | .smear => byte1 2 | .blocked => byte1 3) := by
  cases x <;> rfl

theorem AlertStyle.byte_code (x : AlertStyle) : byte1 x.code = (match x with | .steady => byte1 0 | .pulsing => byte1 1) := by
  cases x <;> rfl

theorem Polarity.byte_code (x : Polarity) : byte1 x.code = (match x with | .activeHigh => byte1 0 | .activeLow => byte1 1) := by
  cases x <;> rfl

/-! ## Optional fields and timers (R163, entry 14) -/

theorem stream_bytes (x : Option (Fin 256)) : optional1 (x.map (·.val)) =
    (match x with | some n => flagByte true ++ byte1 n.val | none => flagByte false ++ byte1 0) := by
  cases x <;> rfl

theorem home_bytes (x : Option Nat) : optional1 x =
    (match x with | some h => flagByte true ++ byte1 h | none => flagByte false ++ byte1 0) := by
  cases x <;> rfl

theorem held_bytes (x : Option (Fin 3)) : optional1 (x.map (·.val)) =
    (match x with | none => byte1 0 ++ byte1 0 | some i => byte1 1 ++ byte1 i.val) := by
  cases x <;> rfl

theorem openFrame_bytes (o : Option OpenFrame) (rest : List Byte) :
    optional2 (o.map (·.frame)) ++ (lineSetBytes ((o.map (·.good)).getD []) ++ rest) =
      (match o with
        | some f => flagByte true ++ byte2 f.frame ++ lineSetBytes f.good
        | none => flagByte false ++ byte2 0 ++ lineSetBytes []) ++ rest := by
  cases o <;> simp [optional2]

theorem intake_bytes (x : Intake) : intakeBytes x =
    (match x with
      | .none => byte1 0 ++ byte1 0 ++ byte1 0 ++ byte1 0
      | .filling i f => byte1 1 ++ byte1 i.val ++ byte2 f
      | .dropping f => byte1 2 ++ byte1 0 ++ byte2 f) := by
  cases x <;> rfl

theorem linger_bytes (x : TriggerState) : byte1 x.code ++ optional2 x.remaining =
    (match x with
      | .idle => byte1 0 ++ byte1 0 ++ byte1 0 ++ byte1 0
      | .active => byte1 1 ++ byte1 0 ++ byte1 0 ++ byte1 0
      | .linger ms => byte1 2 ++ byte1 1 ++ byte2 ms) := by
  cases x <;> rfl

theorem chosen_bytes (pin : Option Pin) (c : Chosen) : chosenBytes pin c =
    (match pin with
      | none => byte1 0 ++ byte1 0 ++ byte1 0
      | some p => byte1 1 ++ byte1 p.view.val ++ byte1 p.priority) ++ byte1 c.view.val ++
    (match c.source with | .trigger t => byte1 t.val | .pin => byte1 16 | .default => byte1 17) := by
  rw [← ViewSource.byte_code]
  cases pin <;> rfl

theorem pulse_bytes (x : Option Pulse) : optional2 (x.map Pulse.inPeriod) =
    (match x with
      | none => byte1 0 ++ byte1 0 ++ byte1 0
      | some p => byte1 1 ++ byte2 (if p.activePhase then p.elapsed else 500 + p.elapsed)) := by
  cases x <;> rfl

theorem State.waits_eq (s : State) (u : Trunk) (k : Fin 256) :
    s.waits u k = decide (∃ q ∈ (s.out u).waiting, q.stream = some k) := by
  rw [Bool.eq_iff_iff]
  simp [State.waits, Packet.ofStream]

/-! ## The statement -/

theorem State.Executes.exec_query {s : State} {i : Fin 2} {o : HeldOrder} {k n part : Byte} (h : s.Executes i o 16 [k, n, part])
    {r : State × Answer} (hr : queryEffect [k, n, part] s = r) : exec .query s = .next (r.1.replied i o r.2) := by
  subst hr
  rw [exec_of_running h.running]
  exact congrArg _ (h.runOrder (by decide) rfl queryEffect)

theorem State.Executes.exec_queryZones {s : State} {i : Fin 2} {o : HeldOrder} {c : Byte} (h : s.Executes i o 17 [c])
    {r : State × Answer} (hr : queryZonesEffect [c] s = r) : exec .queryZones s = .next (r.1.replied i o r.2) := by
  subst hr
  rw [exec_of_running h.running]
  exact congrArg _ (h.runOrder (by decide) rfl queryZonesEffect)

theorem queryZonesEffect_none {c : Byte} (h : 8 ≤ c.toNat) (s : State) : queryZonesEffect [c] s = (s, .refused .badField) := by
  have hnone : instanceOf 8 (byteAt [c] 0) = none := instanceOf_eq_none h
  unfold queryZonesEffect
  rw [hnone]

theorem queryZonesEffect_some {c : Byte} {p : Fin 8} (h : p.val = c.toNat) (s : State) :
    queryZonesEffect [c] s = (s, .data 0 1 (s.lens p).zoneBytes) := by
  have hsome : instanceOf 8 (byteAt [c] 0) = some p := instanceOf_eq_some h
  unfold queryZonesEffect
  rw [hsome] <;> rfl

/-- Settles O44: the orders, the subjects, the line sets, then each record, whose fields the codes above put side by side. -/
theorem queriesReturnRecords : Obligations.QueriesReturnRecords := by
  refine ⟨?_, ?_, ?_, ?_⟩
  · intro s i o
    refine ⟨fun k n part h => ?_, fun c h => ?_⟩
    · refine ⟨fun hn => h.exec_query (queryEffect_none k n part s hn), fun subject hs => ⟨fun hp => ?_, fun hp => ?_⟩⟩
      · exact h.exec_query ((queryEffect_part k n part s subject hs).trans (if_pos hp))
      · exact h.exec_query ((queryEffect_part k n part s subject hs).trans (if_neg (Nat.not_lt.2 hp)))
    · exact ⟨fun hc => h.exec_queryZones (queryZonesEffect_none hc s), fun p hp =>
        ⟨(s.lens p).zoneBytes, h.exec_queryZones (queryZonesEffect_some hp s), (s.lens p).zoneBytes_get⟩⟩
  · exact fun k n part => ⟨readSubject_eq_none k n part, readSubject_names n part⟩
  · exact fun lines => ⟨length_lineSetBytes lines, fun n h => lineSetBytes_bit lines h⟩
  · intro s
    refine ⟨?_, fun i => ?_, fun u => ?_, fun k => ?_, fun c => ?_, fun p => ?_, ?_, fun t => ?_, fun sc => ?_, fun v => ?_,
      fun a => ?_⟩
    · show hubBytes s.orders = _
      unfold hubBytes timer4
      simp only [List.append_assoc, Side.byte_code, ResetCause.byte_code, ImageResult.byte_code, OrderSlot.byte_code]
      rfl
    · show cameraBytes _ _ = _
      unfold cameraBytes lensBytes
      simp only [List.append_assoc, openFrame_bytes, pending_bytes, verdict_byte, LinkState.byte_code, Grade.byte_code,
        LensState.byte_code, Tab.flatMap_toList]
      rfl
    · show trunkBytes _ = _
      unfold trunkBytes
      simp only [List.append_assoc, LinkState.byte_code]
      rfl
    · show s.streamBytes k = _
      unfold State.streamBytes entryBytes
      simp only [List.append_assoc, State.waits_eq, portCode_byte, channelOrNoneCode_byte]
      rfl
    · show channelBytes _ = _
      unfold channelBytes slotBytes
      rw [stream_bytes, home_bytes]
      simp only [List.append_assoc, ChannelState.byte_code, SlotState.byte_code, Grade.byte_code, intake_bytes, Tab.flatMap_toList,
        flatMap_finRange_three]
      rfl
    · show profileBytes _ = _
      simp only [profileBytes, List.map_cons, apply_ite (BitVec.ofNat 8)]
      rfl
    · show selectorBytes _ _ = _
      unfold selectorBytes doorBytes timer1 timer4
      simp only [List.append_assoc, linger_bytes, chosen_bytes, Tab.flatMap_toList, flatMap_finRange_two]
      rfl
    · show triggerBytes _ = _
      unfold triggerBytes
      rw [TriggerState.byte_code]
      rfl
    · show screenBytes _ = _
      unfold screenBytes
      simp only [List.append_assoc, held_bytes, TileCondition.byte_code, Tab.flatMap_toList]
      rfl
    · show viewBytes _ = _
      unfold viewBytes tileBytes
      simp only [List.append_assoc, channelOrNoneCode_byte, SubstituteLevel.byte_code]
      rfl
    · show s.alertBytes a = _
      unfold State.alertBytes alertFields
      simp only [List.append_assoc, AlertMode.byte_code, StateCondition.byte_code, GradeCondition.byte_code,
        AlertStyle.byte_code, Polarity.byte_code, pulse_bytes, apply_ite byte1]
      rfl
end Sys2Proof.Machine

/-! # Proofs: the header of a LINE, its FAILED end, and the packet that is over (R1, R2, R9, entry 5)

What the LINE statements share: one change of a receiver, and what it commutes with. -/

namespace Sys2Proof.Machine

/-! ## One receiver changed -/

theorem State.updRx_congr {s : State} {p : Port} {f g : Receiver → Receiver} (h : f (s.rx p) = g (s.rx p)) :
    s.updRx p f = s.updRx p g := by
  cases p with
  | cam i =>
    have hcams := Tab.upd_congr s.cams i (fun c => { c with rx := f c.rx }) (fun c => { c with rx := g c.rx })
      (congrArg (fun x => { Tab.get s.cams i with rx := x }) h)
    simp only [State.updRx, State.updCam, hcams]
  | trunk u =>
    have htrunks := Duo.upd_congr s.trunks u (fun c => { c with rx := f c.rx }) (fun c => { c with rx := g c.rx })
      (congrArg (fun x => { s.trunks.get u with rx := x }) h)
    simp only [State.updRx, State.updTrunk, htrunks]

section
variable (s : State) (p : Port) (f : Receiver → Receiver)

/-- A receiver changed leaves everything but the camera ports and the trunks. -/
@[simp] theorem State.updRx_frame :
    (s.updRx p f).streams = s.streams ∧ (s.updRx p f).channels = s.channels ∧ (s.updRx p f).lenses = s.lenses ∧
    (s.updRx p f).profiles = s.profiles ∧ (s.updRx p f).selector = s.selector ∧ (s.updRx p f).screens = s.screens ∧
    (s.updRx p f).views = s.views ∧ (s.updRx p f).alerts = s.alerts ∧ (s.updRx p f).orders = s.orders ∧
    (s.updRx p f).loader = s.loader ∧ (s.updRx p f).flash = s.flash ∧ (s.updRx p f).straps = s.straps ∧
    (s.updRx p f).held = s.held ∧ (s.updRx p f).freeUsed = s.freeUsed ∧ (s.updRx p f).pending = s.pending := by
  cases p <;> exact ⟨rfl, rfl, rfl, rfl, rfl, rfl, rfl, rfl, rfl, rfl, rfl, rfl, rfl, rfl, rfl⟩

theorem State.updRx_setCut (t : Trunk) (k : Fin 256) : (s.updRx p f).setCut t k = (s.setCut t k).updRx p f := by
  cases p <;> rfl

theorem State.updRx_endTransmission (t : Trunk) (tx : Transmission) :
    (s.updRx p f).endTransmission t tx = (s.endTransmission t tx).updRx p f := by
  rcases p with i | u
  · rfl
  · cases u <;> cases t <;> rfl

theorem State.updRx_endCutThrough (q : Port) (t : Trunk) (tx : Transmission) :
    (s.updRx p f).endCutThrough q t tx = (s.endCutThrough q t tx).updRx p f := by
  unfold State.endCutThrough
  rw [State.out_updRx]
  split
  · exact s.updRx_endTransmission p f t tx
  · rfl

end

/-! ## The FAILED end of a LINE (R9, R39, R40) -/

/-- A FAILED line spoils the copy that was stored, and leaves the others. -/
theorem State.settleCopy_failed (s : State) (a : LineArrival) (pixels : List Byte) (t : Trunk) :
    s.settleCopy a .failed pixels t = if a.decisions.get t = .stored then s.setCut t a.stream else s := by
  unfold State.settleCopy
  cases h : a.decisions.get t <;> rfl

theorem State.stillOpen_iff (s : State) (a : LineArrival) :
    s.StillOpen a ↔ (s.streamRec a.stream).flow.isOpen = true ∧ a.fate = .belongs (s.streamRec a.stream).flow.epoch := Iff.rfl

theorem State.StillOpen.congr {s t : State} {a : LineArrival} (h : t.streamRec a.stream = s.streamRec a.stream) :
    t.StillOpen a ↔ s.StillOpen a := by
  rw [State.stillOpen_iff, State.stillOpen_iff, h]

/-- What a FAILED line leaves of the hub where it still belongs to the open frame (R40). -/
def State.spoilCopies (s : State) (a : LineArrival) : State :=
  let s := if a.decisions.ta = .stored then s.setCut .ta a.stream else s
  if a.decisions.tb = .stored then s.setCut .tb a.stream else s

theorem State.settleLine_failed_open {s : State} {a : LineArrival} (h : s.StillOpen a) (p : Port) (bytes : List Byte) :
    s.settleLine p a .failed bytes = s.spoilCopies a := by
  rw [State.settleLine_open h, if_pos rfl, State.settleCopy_failed, State.settleCopy_failed]
  rfl

theorem State.settleLine_failed_closed {s : State} {a : LineArrival} (h : ¬s.StillOpen a) (p : Port) (bytes : List Byte) :
    s.settleLine p a .failed bytes = s := by
  rw [State.settleLine_closed h, if_pos rfl]

@[simp] theorem State.spoilCopies_frame (s : State) (a : LineArrival) :
    (s.spoilCopies a).cams = s.cams ∧ (s.spoilCopies a).trunks = s.trunks ∧ (s.spoilCopies a).channels = s.channels ∧
    (s.spoilCopies a).orders = s.orders ∧ (s.spoilCopies a).alerts = s.alerts := by
  unfold State.spoilCopies
  dsimp only
  (repeat' split) <;> simp

theorem State.updRx_spoilCopies (s : State) (p : Port) (f : Receiver → Receiver) (a : LineArrival) :
    (s.updRx p f).spoilCopies a = (s.spoilCopies a).updRx p f := by
  unfold State.spoilCopies
  dsimp only
  (repeat' split) <;> simp [State.updRx_setCut]

theorem State.settleLine_failed_frame (s : State) (p : Port) (a : LineArrival) (bytes : List Byte) :
    (s.settleLine p a .failed bytes).cams = s.cams ∧ (s.settleLine p a .failed bytes).trunks = s.trunks ∧
    (s.settleLine p a .failed bytes).channels = s.channels ∧ (s.settleLine p a .failed bytes).orders = s.orders ∧
    (s.settleLine p a .failed bytes).alerts = s.alerts := by
  by_cases h : s.StillOpen a
  · rw [State.settleLine_failed_open h]
    exact s.spoilCopies_frame a
  · rw [State.settleLine_failed_closed h]
    exact ⟨rfl, rfl, rfl, rfl, rfl⟩

theorem State.updRx_settleLine_failed (s : State) (p : Port) (f : Receiver → Receiver) (q : Port) (a : LineArrival) (bytes : List Byte) :
    (s.updRx p f).settleLine q a .failed bytes = (s.settleLine q a .failed bytes).updRx p f := by
  have ho : (s.updRx p f).StillOpen a ↔ s.StillOpen a :=
    State.StillOpen.congr (State.streamRec_congr (s.updRx_frame p f).1 a.stream)
  by_cases h : s.StillOpen a
  · rw [State.settleLine_failed_open h, State.settleLine_failed_open (ho.2 h), State.updRx_spoilCopies]
  · rw [State.settleLine_failed_closed h, State.settleLine_failed_closed (fun g => h (ho.1 g))]

theorem State.reportLineEnd_of_some {s : State} {p : Port} {a : LineArrival} (h : (s.rx p).arrival = some a) (report : EndReport)
    (bytes : List Byte) : s.reportLineEnd p report bytes =
      (((s.updRx p (fun x => { x with arrival := none })).endCutThrough p .ta (a.transmission report bytes)).endCutThrough p .tb
        (a.transmission report bytes)).settleLine p a report bytes := by
  unfold State.reportLineEnd
  rw [h]

/-- A change of a receiver that is not about its LINE can be made before its LINE fails, or after. -/
theorem State.updRx_reportLineEnd_failed (s : State) (p : Port) (f : Receiver → Receiver) (ha : ∀ x, (f x).arrival = x.arrival)
    (hn : ∀ x : Receiver, f { x with arrival := none } = { f x with arrival := none }) (bytes : List Byte) :
    (s.updRx p f).reportLineEnd p .failed bytes = (s.reportLineEnd p .failed bytes).updRx p f := by
  cases h : (s.rx p).arrival with
  | none =>
    have h' : ((s.updRx p f).rx p).arrival = none := by rw [State.rx_updRx_self, ha, h]
    rw [State.reportLineEnd_of_none h, State.reportLineEnd_of_none h']
  | some a =>
    have h' : ((s.updRx p f).rx p).arrival = some a := by rw [State.rx_updRx_self, ha, h]
    have hswap : (s.updRx p f).updRx p (fun x => { x with arrival := none }) =
        (s.updRx p (fun x => { x with arrival := none })).updRx p f := by
      rw [State.updRx_updRx, State.updRx_updRx]
      exact State.updRx_congr (hn (s.rx p)).symm
    rw [State.reportLineEnd_of_some h, State.reportLineEnd_of_some h', hswap, State.updRx_endCutThrough, State.updRx_endCutThrough,
      State.updRx_settleLine_failed]

theorem State.setIgnoring_reportLineEnd_failed (s : State) (p : Port) (b : Bool) (bytes : List Byte) :
    (s.setIgnoring p b).reportLineEnd p .failed bytes = (s.reportLineEnd p .failed bytes).setIgnoring p b :=
  s.updRx_reportLineEnd_failed p (fun x => { x with ignoring := b }) (fun _ => rfl) (fun _ => rfl) bytes

/-- The receivers after a FAILED line: no LINE is in arrival, and nothing is counted. -/
theorem State.rx_reportLineEnd_failed (s : State) (p q : Port) (bytes : List Byte) :
    (s.reportLineEnd p .failed bytes).rx q = if q = p then { s.rx p with arrival := none } else s.rx q := by
  cases h : (s.rx p).arrival with
  | none =>
    rw [State.reportLineEnd_of_none h]
    split
    next e => rw [e, ← h]
    next => rfl
  | some a =>
    obtain ⟨hcams, htrunks, _⟩ := State.settleLine_failed_frame (((s.updRx p (fun x => { x with arrival := none })).endCutThrough p .ta
      (a.transmission .failed bytes)).endCutThrough p .tb (a.transmission .failed bytes)) p a bytes
    rw [State.reportLineEnd_of_some h, State.rx_congr hcams htrunks, State.rx_endCutThrough, State.rx_endCutThrough, State.rx_updRx]

/-- A FAILED line leaves every block but the ports and the cut flags. -/
theorem State.reportLineEnd_failed_frame (s : State) (p : Port) (bytes : List Byte) :
    (s.reportLineEnd p .failed bytes).channels = s.channels ∧ (s.reportLineEnd p .failed bytes).orders = s.orders ∧
    (s.reportLineEnd p .failed bytes).alerts = s.alerts := by
  cases h : (s.rx p).arrival with
  | none =>
    rw [State.reportLineEnd_of_none h]
    exact ⟨rfl, rfl, rfl⟩
  | some a =>
    rw [State.reportLineEnd_of_some h]
    obtain ⟨_, _, hchannels, horders, halerts⟩ := State.settleLine_failed_frame (((s.updRx p
      (fun x => { x with arrival := none })).endCutThrough p .ta (a.transmission .failed bytes)).endCutThrough p .tb
      (a.transmission .failed bytes)) p a bytes
    exact ⟨by rw [hchannels]; simp, by rw [horders]; simp, by rw [halerts]; simp⟩

end Sys2Proof.Machine

/-! # Proofs: the header of a LINE is decided, and its good end settled (R2, R9, R10, R12, R24, R26, R38) -/

namespace Sys2Proof.Machine

/-! ## The LINE that some bytes hold (entries 4, 5) -/

theorem holdsLine_iff {p : Port} {k : Fin 256} {frame line : Nat} {bytes : List Byte} (hl : hasLineHeader bytes = true) :
    holdsLine p k frame line bytes = true ↔ HoldsLine p k frame line bytes := by
  unfold holdsLine HoldsLine streamOf
  cases p with
  | cam i => simp [hl, isTrunkPort, @eq_comm _ frame, @eq_comm _ line]
  | trunk u => simp [hl, isTrunkPort, @eq_comm _ frame, @eq_comm _ line, @eq_comm _ k, and_assoc]

theorem State.isUnformed_iff (s : State) (p : Port) (bytes : List Byte) :
    s.isUnformed p bytes = true ↔ ∃ u, (s.rx p).unformed = some u ∧ HoldsLine p u.stream u.frame u.line bytes := by
  unfold State.isUnformed
  cases (s.rx p).unformed with
  | none => simp
  | some u =>
    by_cases hl : hasLineHeader bytes = true
    · simp [hl, holdsLine_iff hl]
    · simp [hl, HoldsLine]

theorem State.isUnformed_of_none {s : State} {p : Port} (h : (s.rx p).unformed = none) (bytes : List Byte) :
    s.isUnformed p bytes = false := by
  unfold State.isUnformed
  rw [h]

theorem State.headerTaken_of_holds {s : State} {p : Port} {a : LineArrival} {bytes : List Byte} (ha : (s.rx p).arrival = some a)
    (h : HoldsLine p a.stream a.frame a.line bytes) : s.headerTaken p bytes = true := by
  unfold State.headerTaken
  rw [ha]
  exact (holdsLine_iff h.1).2 h

theorem State.headerTaken_eq_false {s : State} {p : Port} {bytes : List Byte} (hl : hasLineHeader bytes = true)
    (h : ∀ a, (s.rx p).arrival = some a → ¬HoldsLine p a.stream a.frame a.line bytes) : s.headerTaken p bytes = false := by
  unfold State.headerTaken
  split
  next a ha => exact Bool.eq_false_of_not_eq_true (fun g => h a ha ((holdsLine_iff hl).1 g))
  next => rfl

/-! ## A packet that is over -/

section
variable {s : State} (h : s.held = false) (p : Port) (bytes : List Byte)
include h

theorem exec_packetEnd : exec (.packetEnd p bytes) s = .next (s.packetOver p bytes false (fun s => s.packetEnd p bytes)) :=
  exec_of_running h _

theorem exec_poisonedArrival :
    exec (.poisonedArrival p bytes) s = .next (s.packetOver p bytes false (fun s => s.poisonedArrival p bytes)) :=
  exec_of_running h _

theorem exec_framingFault (cause : FramingCause) : exec (.framingFault p cause bytes) s =
    .next (s.packetOver p bytes (decide (cause ≠ .startInside)) (fun s => s.framingFault p cause bytes)) :=
  exec_of_running h _

end

theorem State.packetOver_formed {s : State} {p : Port} {bytes : List Byte} (hr : s.receives p = true)
    (hu : s.isUnformed p bytes = false) (goesOn : Bool) (f : State → State) :
    s.packetOver p bytes goesOn f = f (s.clearUnformed p) := by
  unfold State.packetOver
  rw [hr, hu]
  rfl

@[simp] theorem State.receives_clearUnformed (s : State) (p : Port) : (s.clearUnformed p).receives p = s.receives p := by
  rw [State.receives_eq, State.receives_eq]
  simp [State.clearUnformed, State.counts_updRx]

/-- A packet that a port forms is over as at the port without a mark. -/
theorem State.packetOver_clearUnformed {s : State} {p : Port} {bytes : List Byte} (hr : s.receives p = true)
    (hu : s.isUnformed p bytes = false) (goesOn : Bool) (f : State → State) :
    s.packetOver p bytes goesOn f = (s.clearUnformed p).packetOver p bytes goesOn f := by
  have hnone : ((s.clearUnformed p).rx p).unformed = none := by simp [State.clearUnformed]
  rw [State.packetOver_formed hr hu,
    State.packetOver_formed (by rw [State.receives_clearUnformed, hr]) (State.isUnformed_of_none hnone bytes),
    State.clearUnformed_of_none hnone]

/-! ## A header -/

theorem State.takeHeader_low {line : Nat} (h : line ≤ 719) (s : State) (p : Port) (stream : Byte) (frame : Nat) :
    s.takeHeader p stream frame line =
      ((s.reportLineEnd p .failed []).setIgnoring p false).switchLineHeader p (s.arrivalStream p stream) frame line := by
  unfold State.takeHeader
  rw [if_neg (by omega)]

theorem State.takeHeader_high {line : Nat} (h : 719 < line) (s : State) (p : Port) (stream : Byte) (frame : Nat) :
    s.takeHeader p stream frame line =
      ((s.judgeHighLine p).setIgnoring p true).markUnformed p ⟨s.arrivalStream p stream, frame, line⟩ := by
  unfold State.takeHeader
  rw [if_pos h]

theorem State.judgeHighLine_of_none {s : State} {p : Port} (h : (s.rx p).arrival = none) : s.judgeHighLine p = s.countShape p := by
  unfold State.judgeHighLine
  rw [State.reportLineEnd_of_none h]

/-- LINE_HEADER at a port between packets (R9). -/
theorem State.BetweenPackets.exec_lineHeader {s : State} {p : Port} (h : s.BetweenPackets p) (stream : Byte) (frame line : BitVec 16) :
    exec (.lineHeader p stream frame line) s = .next (s.takeHeader p stream frame.toNat line.toNat) := by
  rw [exec_of_running h.running]
  simp only [State.onCommand, h.forms, if_true, State.clearUnformed_of_none h.forming]

theorem State.BetweenPackets.takeHeader_low {s : State} {p : Port} (h : s.BetweenPackets p) (stream : Byte) (frame : Nat) {line : Nat}
    (hl : line ≤ 719) : s.takeHeader p stream frame line = s.switchLineHeader p (s.arrivalStream p stream) frame line := by
  rw [State.takeHeader_low hl, State.reportLineEnd_of_none h.noLine, State.setIgnoring_of_eq h.listens]

/-! ## What the switch decides of a header (R24, R26, R38) -/

section
variable (s : State) (p : Port) (k : Fin 256) (frame line : Nat)

theorem State.headerLine_belongs {n : Nat} (h : (s.headerLine p k frame line).fate = .belongs n) (u : Trunk) :
    (s.headerLine p k frame line).decisions.get u = s.lineDecision u (s.streamRec k) := by
  have h' : (s.streamRec k).lineFate p frame = .belongs n := h
  unfold State.headerLine
  simp only [h']
  cases u <;> rfl

theorem State.headerLine_astray (h : ∀ n, (s.headerLine p k frame line).fate ≠ .belongs n) (u : Trunk) :
    (s.headerLine p k frame line).decisions.get u = .offRoute := by
  have h' : ∀ n, (s.streamRec k).lineFate p frame ≠ .belongs n := h
  unfold State.headerLine
  cases hf : (s.streamRec k).lineFate p frame with
  | belongs n => exact absurd hf (h' n)
  | unrouted => cases u <;> rfl
  | misrouted => cases u <;> rfl
  | stray => cases u <;> rfl

/-- An output cuts a line through when it is free of everything, on the route, and the copies so far were whole (R38). -/
theorem State.lineDecision_cutThrough (u : Trunk) (r : StreamRecord) : s.lineDecision u r = .cutThrough ↔
    (r.entry.sendTo.get u = true ∧ r.entry.cutThrough.get u = true ∧ s.trunkUp u = true ∧ (s.out u).sending = .idle ∧
      (s.out u).mgmt = [] ∧ (s.out u).video = [] ∧ r.flow.cut.get u = false) := by
  unfold State.lineDecision State.canCutThrough
  cases hs : r.entry.sendTo.get u
  · simp
  · cases hu : s.trunkUp u
    · simp
    · cases hc : r.flow.cut.get u
      · simp [and_assoc]
      · simp

theorem State.lineDecision_of_down {u : Trunk} {r : StreamRecord} (hs : r.entry.sendTo.get u = true) (hu : s.trunkUp u = false) :
    s.lineDecision u r = .discardedDown := by
  simp [State.lineDecision, hs, hu]

theorem State.lineDecision_of_cut {u : Trunk} {r : StreamRecord} (hs : r.entry.sendTo.get u = true) (hu : s.trunkUp u = true)
    (hc : r.flow.cut.get u = true) : s.lineDecision u r = .discardedCut := by
  simp [State.lineDecision, hs, hu, hc]

theorem State.lineDecision_of_uncut {u : Trunk} {r : StreamRecord} (hs : r.entry.sendTo.get u = true) (hu : s.trunkUp u = true)
    (hc : r.flow.cut.get u = false) : s.lineDecision u r = .cutThrough ∨ s.lineDecision u r = .stored := by
  unfold State.lineDecision
  rw [hs, hu, hc]
  cases s.canCutThrough u r
  · exact .inr rfl
  · exact .inl rfl

theorem State.out_applyDecision (t u : Trunk) (d : LineDecision) : (s.applyDecision p k t d).out u =
    if u = t ∧ d = .cutThrough then { s.out u with sending := .cutting p } else s.out u := by
  cases d with
  | cutThrough =>
    rw [State.applyDecision, State.out_updOut]
    by_cases e : u = t
    · subst e
      rw [if_pos rfl, if_pos ⟨rfl, rfl⟩]
    · rw [if_neg e, if_neg (fun g => e g.1)]
  | discardedDown => simp [State.applyDecision]
  | offRoute => simp [State.applyDecision]
  | discardedCut => simp [State.applyDecision]
  | stored => simp [State.applyDecision]

/-- The outputs after a header: one that cuts the line through, the others as they were. -/
theorem State.out_switchLineHeader (u : Trunk) : (s.switchLineHeader p k frame line).out u =
    if (s.headerLine p k frame line).decisions.get u = .cutThrough then { s.out u with sending := .cutting p } else s.out u := by
  rw [State.switchLineHeader_eq, State.out_applyDecision, State.out_applyDecision, State.out_updRx]
  cases u <;> simp

/-- A decision changes nothing of the stream records but a cut flag. -/
theorem State.cut_applyDecision (t u : Trunk) (d : LineDecision) :
    ((s.applyDecision p k t d).streamRec k).flow.cut.get u =
      if u = t ∧ d = .discardedDown then true else (s.streamRec k).flow.cut.get u := by
  cases d with
  | discardedDown =>
    rw [State.applyDecision]
    by_cases e : u = t
    · subst e
      rw [State.cut_setCut_self, if_pos ⟨rfl, rfl⟩]
    · rw [if_neg (fun g => e g.1)]
      exact (State.setCut_copy_of_ne s k e).2.2
  | cutThrough => simp [State.applyDecision, State.streamRec]
  | offRoute => simp [State.applyDecision]
  | discardedCut => simp [State.applyDecision]
  | stored => simp [State.applyDecision]

theorem State.cut_switchLineHeader {u : Trunk} (h : (s.headerLine p k frame line).decisions.get u = .discardedDown) :
    ((s.switchLineHeader p k frame line).streamRec k).flow.cut.get u = true := by
  rw [State.switchLineHeader_eq, State.cut_applyDecision, State.cut_applyDecision]
  cases u <;> simp [h]

theorem StreamRecord.lineFate_unrouted {r : StreamRecord} (h : r.entry.valid = false) : r.lineFate p frame = .unrouted := by
  unfold StreamRecord.lineFate
  rw [StreamEntry.lookup_unrouted h]

theorem StreamRecord.lineFate_misrouted {r : StreamRecord} (h : r.entry.valid = true) (ho : r.entry.origin ≠ p) :
    r.lineFate p frame = .misrouted := by
  unfold StreamRecord.lineFate
  rw [StreamEntry.lookup_misrouted h ho]

theorem StreamRecord.lineFate_stray {r : StreamRecord} (h : r.entry.valid = true) (ho : r.entry.origin = p)
    (hm : ¬(r.flow.isOpen = true ∧ r.flow.frame = frame)) : r.lineFate p frame = .stray := by
  unfold StreamRecord.lineFate
  rw [StreamEntry.lookup_routed h ho]
  exact if_neg (by simpa using hm)

theorem StreamRecord.lineFate_belongs {r : StreamRecord} (h : r.entry.valid = true) (ho : r.entry.origin = p)
    (hm : r.flow.isOpen = true ∧ r.flow.frame = frame) : r.lineFate p frame = .belongs r.flow.epoch := by
  unfold StreamRecord.lineFate
  rw [StreamEntry.lookup_routed h ho]
  exact if_pos (by simpa using hm)

end

/-! ## The end of the LINE in arrival -/

theorem State.MemoryCanonical.congr {s t : State} (h : s.MemoryCanonical) (hc : t.channels = s.channels) (hf : t.flash = s.flash) :
    t.MemoryCanonical := by
  obtain ⟨hflash, hrows⟩ := h
  exact ⟨hf ▸ hflash, fun c i => (State.channel_congr hc c).symm ▸ hrows c i⟩

/-- What the end of the LINE in arrival does, from any state that differs from `s` in neither lines nor memory. -/
theorem State.InLine.ends {s x : State} {p : Port} {a : LineArrival} (h : s.InLine p a) (hc : s.CuttingHasArrival)
    (hm : s.MemoryCanonical) (hx : s.SameLines x) (hch : x.channels = s.channels) (hf : x.flash = s.flash) (report : EndReport)
    (bytes : List Byte) : x.LineEnded p a report bytes (x.reportLineEnd p report bytes) :=
  State.reportLineEnd_ends ((hx.arrival p).trans h.arrives) (hx.cutting hc) (hm.congr hch hf) report bytes

/-- The header of the LINE in arrival is not taken again. -/
theorem State.InLine.ensureHeader {s : State} {p : Port} {a : LineArrival} (h : s.InLine p a) {bytes : List Byte}
    (hb : HoldsLine p a.stream a.frame a.line bytes) : (s.setIgnoring p false).ensureHeader p bytes = s := by
  rw [State.setIgnoring_of_eq h.listens, State.ensureHeader, State.headerTaken_of_holds h.arrives hb, if_pos rfl]

theorem State.InLine.exec_packetEnd {s : State} {p : Port} {a : LineArrival} (h : s.InLine p a) {bytes : List Byte}
    (hb : HoldsLine p a.stream a.frame a.line bytes) (hn : a.line ≤ 719) (hlen : bytes.length ≤ 2568) :
    exec (.packetEnd p bytes) s = .next (s.judgeArrival p bytes) := by
  have hover : s.packetOver p bytes false (fun s => s.packetEnd p bytes) = s.packetEnd p bytes :=
    packetOver_forming h.forms h.forming bytes false _
  have hjudge : s.packetEnd p bytes = s.judgeArrival p bytes := by
    obtain ⟨hl, _, hline, _⟩ := id hb
    unfold State.packetEnd
    rw [if_neg (by simpa [Config.longestPacket] using hlen), if_pos hl, if_neg (by omega), h.ensureHeader hb]
  rw [exec_of_running h.running]
  exact congrArg _ (hover.trans hjudge)

theorem holdsLine_wire {p : Port} {given k : Fin 256} {frame line : Nat} {pixels : List Byte} (hf : frame < 65536) (hn : line ≤ 719)
    (hp : pixels.length = 2560) (hk : ∀ u, p = .trunk u → given = k) :
    HoldsLine p k frame line (Packet.line given frame line pixels).wire ∧ (Packet.line given frame line pixels).wire.length = 2568 := by
  have hlen : (Packet.line given frame line pixels).wire.length = 2568 := by
    simp [Packet.wire_eq, Packet.body, length_byte2, hp]
  have hl : hasLineHeader (Packet.line given frame line pixels).wire = true := by
    unfold hasLineHeader
    rw [hlen]
    rfl
  have hread := readPacket_of_line hl (readPacket_line true given hf (by omega) hp)
  injection hread with hstream hframe hline
  exact ⟨⟨hl, hframe.symm, hline.symm, fun u e => hstream.symm.trans (hk u e)⟩, hlen⟩

theorem State.InLine.exec_wire {s : State} {p : Port} {a : LineArrival} (h : s.InLine p a) {given : Fin 256} {pixels : List Byte}
    (hf : a.frame < 65536) (hn : a.line ≤ 719) (hp : pixels.length = 2560) (hk : ∀ u, p = .trunk u → given = a.stream) :
    exec (.packetEnd p (Packet.line given a.frame a.line pixels).wire) s =
      .next (s.handLine p a.frame a.line pixels (Packet.line given a.frame a.line pixels).wire) := by
  obtain ⟨hb, hlen⟩ := holdsLine_wire hf hn hp hk
  rw [h.exec_packetEnd hb hn hlen.le, State.judgeArrival, judgePacket_wire (readPacket_line _ given hf (by omega) hp)]
  rfl

/-! ## A good LINE at a camera port (R12, R70) -/

theorem State.cameraLine_other {s : State} {i : Fin 8} {frame line : Nat}
    (h : ∀ f, (Tab.get s.cams i).openFrame = some f → f.frame = frame → line ∈ f.good) (pixels : List Byte) :
    s.cameraLine i frame line pixels = s := by
  unfold State.cameraLine
  split
  next => rfl
  next f hf =>
    have hno : ¬((f.frame = frame && !f.good.contains line) = true) := by
      simpa using h f hf
    rw [if_neg hno]

theorem State.cameraLine_first {s : State} {i : Fin 8} {frame line : Nat} {f : OpenFrame} (ho : (Tab.get s.cams i).openFrame = some f)
    (hf : f.frame = frame) (hl : line ∉ f.good) (pixels : List Byte) :
    s.cameraLine i frame line pixels =
      (s.updCam i (fun c => { c with openFrame := some { f with good := insertLine line f.good } })).updLens i
        (fun l => { l with measure := l.measure.map (fun m => m.addLine line pixels) }) := by
  have hyes : (f.frame = frame && !f.good.contains line) = true := by simp [hf, hl]
  unfold State.cameraLine
  rw [ho]
  exact if_pos hyes

/-! ## The statement -/

/-- Settles O10: the header by what the switch decides, the good end by `State.InLine.ends`, the mark by the packet that is over. -/
theorem lineHeaderIsDecided : Obligations.LineHeaderIsDecided := by
  refine ⟨?_, ?_, ?_⟩
  · intro p stream frame line s h
    rw [h.exec_lineHeader]
    refine ⟨fun hl => ?_, fun hl => ?_⟩
    · rw [State.takeHeader_high hl, State.judgeHighLine_of_none h.noLine]
      unfold State.countShape State.setIgnoring State.markUnformed State.updArrivals
      rw [State.updRx_updRx, State.updRx_updRx]
      rfl
    · rw [h.takeHeader_low stream frame.toNat hl]
      obtain ⟨k, hk⟩ : ∃ k, s.arrivalStream p stream = k := ⟨_, rfl⟩
      rw [hk]
      have hrx := fun q => s.rx_switchLineHeader p q k frame.toNat line.toNat
      have hout := s.out_switchLineHeader p k frame.toNat line.toNat
      refine ⟨_, s.headerLine p k frame.toNat line.toNat, rfl, by rw [hrx, if_pos rfl], ?_, ?_, rfl, rfl,
        fun hv => StreamRecord.lineFate_unrouted p _ hv, fun hv ho => StreamRecord.lineFate_misrouted p _ hv ho,
        fun hv ho hm => StreamRecord.lineFate_stray p _ hv ho hm, fun hv ho hopen hframe =>
          StreamRecord.lineFate_belongs p _ hv ho ⟨hopen, hframe⟩, fun u => ?_, fun u hu => by rw [hout, if_neg hu], fun u n hn hs => ?_,
        fun q => ?_, ?_, ?_, ?_, ?_, ?_, ?_⟩
      · rintro i rfl
        exact hk.symm
      · rintro u rfl
        exact hk.symm
      · by_cases hb : ∃ n, (s.headerLine p k frame.toNat line.toNat).fate = .belongs n
        · obtain ⟨n, hn⟩ := hb
          have hcut := s.lineDecision_cutThrough u (s.streamRec k)
          rw [← s.headerLine_belongs p k frame.toNat line.toNat hn u] at hcut
          refine ⟨fun ⟨_, hd⟩ => ⟨⟨n, hn⟩, hcut.1 hd⟩, fun ⟨_, hd⟩ => ?_⟩
          have hthrough := hcut.2 hd
          exact ⟨by rw [hout, if_pos hthrough], hthrough⟩
        · have hoff := s.headerLine_astray p k frame.toNat line.toNat (fun n hn => hb ⟨n, hn⟩) u
          refine ⟨fun ⟨_, hd⟩ => ?_, fun ⟨hd, _⟩ => absurd hd hb⟩
          cases hoff.symm.trans hd
      · have hd := s.headerLine_belongs p k frame.toNat line.toNat hn u
        refine ⟨fun hu => ?_, fun hu hc => ?_, fun hu hc => ?_⟩
        · have hdown := hd.trans (s.lineDecision_of_down hs hu)
          exact ⟨hdown, s.cut_switchLineHeader p k frame.toNat line.toNat hdown⟩
        · exact hd.trans (s.lineDecision_of_cut hs hu hc)
        · rw [hd]
          exact s.lineDecision_of_uncut hs hu hc
      · rw [hrx]
        split
        next e => rw [e]
        next => rfl
      all_goals simp
  · intro p a given pixels s h hc hm hf hn hp hk bytes received
    have hcount : s.countReceived p = received := State.updRx_congr
      (f := fun x => { x with counters := { x.counters with received := bumpTraffic x.counters.received } })
      (g := fun x => { x with ignoring := false, counters := { x.counters with received := min (x.counters.received + 1) 65535 } })
      (by rw [h.listens]; rfl)
    have hlines : s.SameLines received := hcount ▸ (State.SameLines.refl s).updArrivals p _
    have hframe : ∀ i, (Tab.get received.cams i).openFrame = (Tab.get s.cams i).openFrame := fun i => (s.cam_updRx p _ i).2.2.2
    have hexec := h.exec_wire hf hn hp hk
    refine ⟨fun hcase => ?_, fun i f hi ho hfr hnew => ?_⟩
    · refine ⟨_, hexec, ?_⟩
      have hhand : s.handLine p a.frame a.line pixels bytes = received.reportLineEnd p .good bytes := by
        unfold State.handLine
        rw [hcount]
        rcases hcase with ⟨u, rfl⟩ | ⟨i, rfl, hother⟩
        · rfl
        · dsimp only
          rw [State.cameraLine_other (fun f hf => hother f ((hframe i).symm.trans hf))]
      exact hhand ▸ h.ends hc hm hlines (by simp [received]) (by simp [received]) .good bytes
    · refine ⟨_, hexec, ?_⟩
      subst hi
      have hhand : s.handLine (.cam i) a.frame a.line pixels bytes =
          ((received.updCam i (fun x => { x with openFrame := some { f with good := insertLine a.line f.good } })).updLens i
            (fun l => { l with measure := l.measure.map (fun m => m.addLine a.line pixels) })).reportLineEnd (.cam i) .good bytes := by
        unfold State.handLine
        rw [hcount]
        dsimp only
        rw [State.cameraLine_first ((hframe i).trans ho) hfr hnew]
      exact hhand ▸ h.ends hc hm ((hlines.setOpenFrame i _).updLens i _) (by simp [received]) (by simp [received]) .good bytes
  · intro p s hh quiet
    refine ⟨fun given => ⟨fun i e => e ▸ rfl, fun u e => e ▸ rfl⟩, fun hr stream frame line => ?_, fun bytes => ?_⟩
    · rw [exec_of_running hh]
      have hno : ¬(s.receives p = true) := by simp [hr]
      simp only [State.onCommand, if_neg hno]
      unfold State.setIgnoring State.markUnformed
      rw [State.updRx_updRx]
    · dsimp only
      rw [← State.isUnformed_iff]
      refine ⟨fun hq => ?_, fun hr hu x hx => ?_⟩
      · refine ⟨?_, ?_, fun cause => ?_⟩
        · rw [exec_packetEnd hh, State.packetOver_quiet hq]
        · rw [exec_poisonedArrival hh, State.packetOver_quiet hq]
        · rw [exec_framingFault hh, State.packetOver_quiet hq]
      · have hheld : x.held = false := by rw [hx]; simpa using hh
        have hover : ∀ goesOn f, s.packetOver p bytes goesOn f = x.packetOver p bytes goesOn f := fun goesOn f => by
          rw [hx]
          exact State.packetOver_clearUnformed hr (Bool.eq_false_of_not_eq_true hu) goesOn f
        refine ⟨?_, ?_, fun cause => ?_⟩
        · rw [exec_packetEnd hh, exec_packetEnd hheld, hover]
        · rw [exec_poisonedArrival hh, exec_poisonedArrival hheld, hover]
        · rw [exec_framingFault hh, exec_framingFault hheld, hover]

end Sys2Proof.Machine

/-! # Proofs: faulty packets are counted, and a LINE under way ends FAILED (R1, R6, R9, entries 5, 32) -/

namespace Sys2Proof.Machine

/-! ## What a command that ends or cuts a packet does, by the packet's first bytes -/

theorem length_of_hasLineHeader {bytes : List Byte} (h : hasLineHeader bytes = true) : 6 ≤ bytes.length := by
  unfold hasLineHeader at h
  simp only [Bool.and_eq_true, decide_eq_true_eq] at h
  exact h.2

theorem byteAt_of_hasLineHeader {bytes : List Byte} (h : hasLineHeader bytes = true) : byteAt bytes 0 = 2 := by
  unfold hasLineHeader at h
  simp only [Bool.and_eq_true, decide_eq_true_eq] at h
  exact h.1

section
variable (s : State) (p : Port) {bytes : List Byte}

theorem State.framingFault_plain (h : hasLineHeader bytes = false) (cause : FramingCause) :
    s.framingFault p cause bytes =
      ((s.countFraming p).reportLineEnd p .failed bytes).setIgnoring p (decide (cause = .overLong)) := by
  unfold State.framingFault
  rw [if_neg (by simp [h]), if_neg (by simp [h])]

theorem State.framingFault_high (h : hasLineHeader bytes = true) (hn : 719 < wordAt bytes 4) (cause : FramingCause) :
    s.framingFault p cause bytes = (s.judgeHighLine p).setIgnoring p (decide (cause ≠ .startInside)) := by
  unfold State.framingFault
  rw [if_pos (by simp [h, hn])]

theorem State.framingFault_low (h : hasLineHeader bytes = true) (hn : wordAt bytes 4 ≤ 719) (cause : FramingCause) :
    s.framingFault p cause bytes = (((((s.setIgnoring p false).ensureHeader p bytes).countFraming p).reportLineEnd p .failed
      bytes)).setIgnoring p (decide (cause = .overLong)) := by
  unfold State.framingFault
  rw [if_neg (by simp [hn]), if_pos h]

theorem State.packetEnd_long (hl : 2568 < bytes.length) : s.packetEnd p bytes = s.overLongEnd p bytes := by
  unfold State.packetEnd
  rw [if_pos (by simpa [Config.longestPacket] using hl)]

theorem State.packetEnd_plain (hl : bytes.length ≤ 2568) (h : hasLineHeader bytes = false) :
    s.packetEnd p bytes = ((s.reportLineEnd p .failed []).setIgnoring p false).judgeArrival p bytes := by
  unfold State.packetEnd
  rw [if_neg (by simpa [Config.longestPacket] using hl), if_neg (by simp [h])]

theorem State.packetEnd_high (hl : bytes.length ≤ 2568) (h : hasLineHeader bytes = true) (hn : 719 < wordAt bytes 4) :
    s.packetEnd p bytes = (s.judgeHighLine p).setIgnoring p false := by
  unfold State.packetEnd
  rw [if_neg (by simpa [Config.longestPacket] using hl), if_pos h, if_pos hn]

theorem State.packetEnd_low (hl : bytes.length ≤ 2568) (h : hasLineHeader bytes = true) (hn : wordAt bytes 4 ≤ 719) :
    s.packetEnd p bytes = ((s.setIgnoring p false).ensureHeader p bytes).judgeArrival p bytes := by
  unfold State.packetEnd
  rw [if_neg (by simpa [Config.longestPacket] using hl), if_pos h, if_neg (by omega)]

theorem State.poisonedArrival_long (hl : 2568 < bytes.length) : s.poisonedArrival p bytes = s.overLongEnd p bytes := by
  unfold State.poisonedArrival
  rw [if_pos (by simpa [Config.longestPacket] using hl)]

theorem State.poisonedArrival_plain (hl : bytes.length ≤ 2568) (h : hasLineHeader bytes = false) :
    s.poisonedArrival p bytes = ((s.reportLineEnd p .failed []).setIgnoring p false).discardPoisoned p bytes := by
  unfold State.poisonedArrival
  rw [if_neg (by simpa [Config.longestPacket] using hl), if_neg (by simp [h])]

theorem State.poisonedArrival_high (hl : bytes.length ≤ 2568) (h : hasLineHeader bytes = true) (hn : 719 < wordAt bytes 4) :
    s.poisonedArrival p bytes = (s.judgeHighLine p).setIgnoring p false := by
  unfold State.poisonedArrival
  rw [if_neg (by simpa [Config.longestPacket] using hl), if_pos h, if_pos hn]

theorem State.poisonedArrival_short (hl : bytes.length < 2568) (h : hasLineHeader bytes = true) (hn : wordAt bytes 4 ≤ 719) :
    s.poisonedArrival p bytes = ((s.setIgnoring p false).ensureHeader p bytes).discardPoisoned p bytes := by
  unfold State.poisonedArrival
  rw [if_neg (by simp [Config.longestPacket]; omega), if_pos h, if_neg (by omega)]
  dsimp only
  rw [if_neg (by simp [Config.longestPacket]; omega)]

theorem State.poisonedArrival_full (hl : bytes.length = 2568) (h : hasLineHeader bytes = true) (hn : wordAt bytes 4 ≤ 719) :
    s.poisonedArrival p bytes =
      ((((s.setIgnoring p false).ensureHeader p bytes).countPoisoned p).countReceived p).reportLineEnd p .poisoned bytes := by
  unfold State.poisonedArrival
  rw [if_neg (by simp [Config.longestPacket]; omega), if_pos h, if_neg (by omega)]
  dsimp only
  rw [if_pos (by simpa [Config.longestPacket] using hl)]

end

/-! ## The judging of R6 -/

theorem judgePacket_short {bytes : List Byte} (h : bytes.length < 3) (atTrunk : Bool) : judgePacket atTrunk bytes = .error .shape := by
  unfold judgePacket
  rw [if_pos h]

theorem judgePacket_check {bytes : List Byte} (h : 3 ≤ bytes.length) (hc : passesCheck bytes = false) (atTrunk : Bool) :
    judgePacket atTrunk bytes = .error .check := by
  unfold judgePacket
  rw [if_neg (by omega), if_pos (by simp [hc])]

theorem judgePacket_shape {bytes : List Byte} (h : 3 ≤ bytes.length) (hc : passesCheck bytes = true) {atTrunk : Bool}
    (hr : readPacket atTrunk bytes = none) : judgePacket atTrunk bytes = .error .shape := by
  unfold judgePacket
  rw [if_neg (by omega), if_neg (by simp [hc]), hr]

theorem readPacket_line_none {bytes : List Byte} (h : hasLineHeader bytes = true) (hl : bytes.length ≠ 2568) (atTrunk : Bool) :
    readPacket atTrunk bytes = none := by
  unfold readPacket
  simp [byteAt_of_hasLineHeader h, hl]

theorem State.judgeArrival_error {p : Port} {bytes : List Byte} {fault : PacketFault}
    (h : judgePacket (isTrunkPort p) bytes = .error fault) (s : State) :
    s.judgeArrival p bytes = (s.countFault p fault).reportLineEnd p .failed bytes := by
  unfold State.judgeArrival
  rw [h]

/-! ## A LINE whose header comes with the command that ends or cuts it -/

@[simp] theorem State.arrivalStream_setIgnoring (s : State) (p : Port) (b : Bool) (given : Byte) :
    (s.setIgnoring p b).arrivalStream p given = s.arrivalStream p given := by
  cases p <;> simp [State.arrivalStream, State.setIgnoring]

/-- The header that a command brings with its packet, at a port with no LINE in arrival. -/
theorem State.ensureHeader_fresh {s : State} {p : Port} (ha : (s.rx p).arrival = none) {bytes : List Byte}
    (hn : wordAt bytes 4 ≤ 719) : (s.setIgnoring p false).ensureHeader p bytes =
      (s.setIgnoring p false).switchLineHeader p (s.arrivalStream p (bytes.getD 1 0)) (wordAt bytes 2) (wordAt bytes 4) := by
  have ha' : ((s.setIgnoring p false).rx p).arrival = none := by simp [State.setIgnoring, ha]
  have hno : (s.setIgnoring p false).headerTaken p bytes = false := by
    unfold State.headerTaken
    rw [ha']
  rw [State.ensureHeader, hno, if_neg (by simp), State.takeHeader_low hn, State.reportLineEnd_of_none ha',
    State.setIgnoring_of_eq (by simp [State.setIgnoring]), State.arrivalStream_setIgnoring]

/-- Of a hub where a LINE's header was taken and the LINE failed at once, what shows at the port and elsewhere: `count` is what the
fault counts. -/
theorem State.ensureHeader_fails {s : State} {p : Port} (ha : (s.rx p).arrival = none) {bytes : List Byte}
    (hn : wordAt bytes 4 ≤ 719) (count : ArrivalCounters → ArrivalCounters) :
    let t := (((s.setIgnoring p false).ensureHeader p bytes).updArrivals p count).reportLineEnd p .failed bytes
    (t.rx p).arrival = none ∧ (t.rx p).ignoring = false ∧ (t.rx p).counters = count (s.rx p).counters ∧
    t.channels = s.channels ∧ t.lenses = s.lenses ∧ t.orders = s.orders ∧ t.selector = s.selector ∧ t.screens = s.screens ∧
    t.views = s.views ∧ t.alerts = s.alerts ∧ t.flash = s.flash := by
  rw [State.ensureHeader_fresh ha hn]
  intro t
  have hrx : t.rx p = { s.rx p with ignoring := false, arrival := none, counters := count (s.rx p).counters } := by
    rw [State.rx_reportLineEnd_failed, if_pos rfl, State.updArrivals, State.rx_updRx_self, State.rx_switchLineHeader, if_pos rfl,
      State.setIgnoring, State.rx_updRx_self]
  obtain ⟨hchannels, horders, halerts⟩ := State.reportLineEnd_failed_frame (((s.setIgnoring p false).switchLineHeader p
    (s.arrivalStream p (bytes.getD 1 0)) (wordAt bytes 2) (wordAt bytes 4)).updArrivals p count) p bytes
  refine ⟨by rw [hrx], by rw [hrx], by rw [hrx], hchannels.trans ?_, ?_, horders.trans ?_, ?_, ?_, ?_, halerts.trans ?_, ?_⟩
  all_goals simp [t, State.updArrivals]

/-! ## The header first, or with the command (entry 5) -/

theorem wordAt_lt (bytes : List Byte) (i : Nat) : wordAt bytes i < 65536 := by
  have h0 := (bytes.getD i 0).isLt
  have h1 := (bytes.getD (i + 1) 0).isLt
  unfold wordAt byteAt
  omega

theorem State.counts_reportLineEnd_failed (s : State) (p q : Port) (bytes : List Byte) :
    (s.reportLineEnd p .failed bytes).counts q = s.counts q := by
  cases h : (s.rx p).arrival with
  | none => rw [State.reportLineEnd_of_none h]
  | some a =>
    have hc : ∀ {x y : State}, x.cams = y.cams → x.counts q = y.counts q := fun e => by
      cases q <;> simp [State.counts, e]
    rw [State.reportLineEnd_of_some h, hc (State.settleLine_failed_frame ..).1, State.counts_endCutThrough, State.counts_endCutThrough,
      State.counts_updRx]

/-- What a header leaves of the receiver, from `s` to `h`: a LINE in arrival, or a mark. -/
theorem State.takeHeader_receiver (s : State) (p : Port) (stream : Byte) (frame line : Nat) :
    ((s.takeHeader p stream frame line).rx p).link = (s.rx p).link ∧ ((s.takeHeader p stream frame line).rx p).hold = (s.rx p).hold ∧
    (s.takeHeader p stream frame line).counts p = s.counts p := by
  by_cases hl : line ≤ 719
  · rw [State.takeHeader_low hl]
    refine ⟨?_, ?_, ?_⟩
    · rw [State.rx_switchLineHeader, if_pos rfl, State.setIgnoring, State.rx_updRx_self, State.rx_reportLineEnd_failed, if_pos rfl]
    · rw [State.rx_switchLineHeader, if_pos rfl, State.setIgnoring, State.rx_updRx_self, State.rx_reportLineEnd_failed, if_pos rfl]
    · rw [State.counts_switchLineHeader, State.setIgnoring, State.counts_updRx, State.counts_reportLineEnd_failed]
  · rw [State.takeHeader_high (by omega)]
    unfold State.markUnformed State.setIgnoring State.judgeHighLine State.countShape State.updArrivals
    refine ⟨?_, ?_, ?_⟩
    · rw [State.rx_updRx_self, State.rx_updRx_self, State.rx_updRx_self, State.rx_reportLineEnd_failed, if_pos rfl]
    · rw [State.rx_updRx_self, State.rx_updRx_self, State.rx_updRx_self, State.rx_reportLineEnd_failed, if_pos rfl]
    · rw [State.counts_updRx, State.counts_updRx, State.counts_updRx, State.counts_reportLineEnd_failed]

/-- LINE_HEADER at a port that forms packets and leaves no LINE unformed. -/
theorem exec_lineHeader_forming {s : State} {p : Port} (hh : s.held = false) (hr : s.receives p = true) (hu : (s.rx p).unformed = none)
    (bytes : List Byte) :
    exec (.lineHeader p (bytes.getD 1 0) (BitVec.ofNat 16 (wordAt bytes 2)) (BitVec.ofNat 16 (wordAt bytes 4))) s =
      .next (s.takeHeader p (bytes.getD 1 0) (wordAt bytes 2) (wordAt bytes 4)) := by
  have htake : ∀ i, (BitVec.ofNat 16 (wordAt bytes i)).toNat = wordAt bytes i := fun i =>
    Nat.mod_eq_of_lt (wordAt_lt bytes i)
  rw [exec_of_running hh]
  simp only [State.onCommand, hr, if_true, State.clearUnformed_of_none hu, htake]

theorem holdsLine_of_header {p : Port} {s : State} {bytes : List Byte} (hl : hasLineHeader bytes = true) :
    HoldsLine p (s.arrivalStream p (bytes.getD 1 0)) (wordAt bytes 2) (wordAt bytes 4) bytes :=
  ⟨hl, rfl, rfl, fun u e => by rw [e]; rfl⟩

section
variable {s : State} {p : Port} {bytes : List Byte}

/-- The header of a LINE that is formed: the command takes it now if it was not taken before (entry 5). -/
theorem State.ensureHeader_takeHeader (hl : hasLineHeader bytes = true) (hn : wordAt bytes 4 ≤ 719)
    (ha : ∀ a, (s.rx p).arrival = some a → ¬HoldsLine p a.stream a.frame a.line bytes) :
    (s.setIgnoring p false).ensureHeader p bytes = s.takeHeader p (bytes.getD 1 0) (wordAt bytes 2) (wordAt bytes 4) ∧
    ((s.takeHeader p (bytes.getD 1 0) (wordAt bytes 2) (wordAt bytes 4)).setIgnoring p false).ensureHeader p bytes =
      s.takeHeader p (bytes.getD 1 0) (wordAt bytes 2) (wordAt bytes 4) := by
  refine ⟨?_, ?_⟩
  · have hno : (s.setIgnoring p false).headerTaken p bytes = false := by
      refine State.headerTaken_eq_false hl fun a h => ha a ?_
      rwa [State.setIgnoring, State.rx_updRx_self] at h
    rw [State.ensureHeader, hno, if_neg (by simp), State.takeHeader_low hn, State.takeHeader_low hn,
      State.setIgnoring_reportLineEnd_failed, State.arrivalStream_setIgnoring]
    congr 1
    exact State.setIgnoring_of_eq (by simp [State.setIgnoring])
  · have hrx := ((s.reportLineEnd p .failed []).setIgnoring p false).rx_switchLineHeader p p
      (s.arrivalStream p (bytes.getD 1 0)) (wordAt bytes 2) (wordAt bytes 4)
    rw [if_pos rfl] at hrx
    rw [State.takeHeader_low hn, State.setIgnoring_of_eq (by rw [hrx]; simp [State.setIgnoring]), State.ensureHeader,
      State.headerTaken_of_holds (by rw [hrx]) (holdsLine_of_header hl), if_pos rfl]

theorem State.isOverLongRest_of_short (h : bytes.length ≤ 2568 ∨ (s.rx p).ignoring = false) : s.isOverLongRest p bytes = false := by
  unfold State.isOverLongRest
  rcases h with h | h
  · simp [Config.longestPacket, h]
  · simp [h]

theorem State.overLongEnd_first (h : (s.rx p).ignoring = false) :
    s.overLongEnd p bytes = (s.framingFault p .overLong bytes).setIgnoring p false := by
  unfold State.overLongEnd
  rw [State.isOverLongRest_of_short (.inr h), if_neg (by simp)]

/-- What every link that goes DOWN does besides its packet (R2, R16). -/
def State.dropLink (s : State) (p : Port) : State :=
  ((s.updRx p (fun x => { x with link := .down, unformed := none, ignoring := false })).offer (.link p .up .down)).portLost p

/-- A packet that is cut by its link's going DOWN is a framing fault, unless the port does not form or ignores it (R2, R10). -/
theorem State.linkDown_opened (h : (s.rx p).link = .up) (hr : s.isOverLongRest p bytes = false) (hc : s.counts p = true)
    (hu : s.isUnformed p bytes = false) :
    s.linkDown p (some bytes) = (s.framingFault p .idleOrInvalid bytes).dropLink p := by
  unfold State.linkDown
  rw [if_pos h]
  simp [hr, hc, hu, State.dropLink]

theorem State.linkDown_unformed (h : (s.rx p).link = .up) (hu : s.isUnformed p bytes = true) :
    s.linkDown p (some bytes) = (s.reportLineEnd p .failed bytes).dropLink p := by
  unfold State.linkDown
  rw [if_pos h]
  simp [hu, State.dropLink]

theorem State.link_of_receives (h : s.receives p = true) : (s.rx p).link = .up := by
  rw [State.receives_eq] at h
  simp only [Bool.and_eq_true, decide_eq_true_eq] at h
  exact h.1.1

theorem State.counts_of_receives (h : s.receives p = true) : s.counts p = true := by
  rw [State.receives_eq] at h
  simp only [Bool.and_eq_true] at h
  exact h.2

/-- The commands of `s` and `h` that end or cut a packet do the same. -/
structure State.EndsAlike (s h : State) (p : Port) (bytes : List Byte) : Prop where
  fault : ∀ cause, exec (.framingFault p cause bytes) s = exec (.framingFault p cause bytes) h
  ends : exec (.packetEnd p bytes) s = exec (.packetEnd p bytes) h
  poisoned : exec (.poisonedArrival p bytes) s = exec (.poisonedArrival p bytes) h
  down : exec (.linkDown p (some bytes)) s = exec (.linkDown p (some bytes)) h

theorem exec_linkDown (hh : s.held = false) (p : Port) (arrived : Option (List Byte)) :
    exec (.linkDown p arrived) s = .next (s.linkDown p arrived) := exec_of_running hh _

/-- A LINE that the port forms ends alike, whether its header came before or comes with the command that ends it (entry 5). -/
theorem State.endsAlike_low (hh : s.held = false) (hr : s.receives p = true) (hu : (s.rx p).unformed = none)
    (hl : hasLineHeader bytes = true) (hn : wordAt bytes 4 ≤ 719) (hlen : bytes.length ≤ 2568 ∨ (s.rx p).ignoring = false)
    (ha : ∀ a, (s.rx p).arrival = some a → ¬HoldsLine p a.stream a.frame a.line bytes) :
    s.EndsAlike (s.takeHeader p (bytes.getD 1 0) (wordAt bytes 2) (wordAt bytes 4)) p bytes := by
  obtain ⟨hnow, hbefore⟩ := State.ensureHeader_takeHeader hl hn ha
  obtain ⟨hlink, hhold, hcounts⟩ := s.takeHeader_receiver p (bytes.getD 1 0) (wordAt bytes 2) (wordAt bytes 4)
  have hheld : (s.takeHeader p (bytes.getD 1 0) (wordAt bytes 2) (wordAt bytes 4)).held = false := by simpa using hh
  have hrx : (s.takeHeader p (bytes.getD 1 0) (wordAt bytes 2) (wordAt bytes 4)).rx p =
      { s.rx p with ignoring := false, arrival := some (((s.reportLineEnd p .failed []).setIgnoring p false).headerLine p
        (s.arrivalStream p (bytes.getD 1 0)) (wordAt bytes 2) (wordAt bytes 4)) } := by
    rw [State.takeHeader_low hn, State.rx_switchLineHeader, if_pos rfl, State.setIgnoring, State.rx_updRx_self,
      State.rx_reportLineEnd_failed, if_pos rfl]
  generalize s.takeHeader p (bytes.getD 1 0) (wordAt bytes 2) (wordAt bytes 4) = h at *
  have hunformed : (h.rx p).unformed = none := by rw [hrx, ← hu]
  have hignoring : (h.rx p).ignoring = false := by rw [hrx]
  have hreceives : h.receives p = true := by
    rw [State.receives_eq, hlink, hhold, hcounts, ← State.receives_eq]
    exact hr
  have hfault : ∀ cause, s.framingFault p cause bytes = h.framingFault p cause bytes := fun cause => by
    rw [State.framingFault_low s p hl hn, State.framingFault_low h p hl hn, hnow, hbefore]
  have hlong : 2568 < bytes.length → s.overLongEnd p bytes = h.overLongEnd p bytes := fun hb => by
    rw [State.overLongEnd_first (hlen.resolve_left (by omega)), State.overLongEnd_first hignoring, hfault]
  refine ⟨fun cause => ?_, ?_, ?_, ?_⟩
  · rw [exec_framingFault hh, exec_framingFault hheld, State.packetOver_forming hr hu, State.packetOver_forming hreceives hunformed,
      hfault]
  · rw [exec_packetEnd hh, exec_packetEnd hheld, State.packetOver_forming hr hu, State.packetOver_forming hreceives hunformed]
    by_cases hb : bytes.length ≤ 2568
    · rw [State.packetEnd_low s p hb hl hn, State.packetEnd_low h p hb hl hn, hnow, hbefore]
    · rw [State.packetEnd_long s p (by omega), State.packetEnd_long h p (by omega), hlong (by omega)]
  · rw [exec_poisonedArrival hh, exec_poisonedArrival hheld, State.packetOver_forming hr hu,
      State.packetOver_forming hreceives hunformed]
    rcases Nat.lt_trichotomy bytes.length 2568 with hb | hb | hb
    · rw [State.poisonedArrival_short s p hb hl hn, State.poisonedArrival_short h p hb hl hn, hnow, hbefore]
    · rw [State.poisonedArrival_full s p hb hl hn, State.poisonedArrival_full h p hb hl hn, hnow, hbefore]
    · rw [State.poisonedArrival_long s p hb, State.poisonedArrival_long h p hb, hlong hb]
  · rw [exec_linkDown hh, exec_linkDown hheld,
      State.linkDown_opened (State.link_of_receives hr) (State.isOverLongRest_of_short hlen) (State.counts_of_receives hr)
        (State.isUnformed_of_none hu bytes),
      State.linkDown_opened (State.link_of_receives hreceives) (State.isOverLongRest_of_short (.inr hignoring))
        (State.counts_of_receives hreceives) (State.isUnformed_of_none hunformed bytes), hfault]

/-- The same of a LINE with a line number above 719 (R9). -/
theorem State.endsAlike_high (hh : s.held = false) (hr : s.receives p = true) (hu : (s.rx p).unformed = none)
    (hl : hasLineHeader bytes = true) (hn : 719 < wordAt bytes 4) (hlen : bytes.length ≤ 2568 ∨ (s.rx p).ignoring = false) :
    s.EndsAlike (s.takeHeader p (bytes.getD 1 0) (wordAt bytes 2) (wordAt bytes 4)) p bytes := by
  have hheld : (s.takeHeader p (bytes.getD 1 0) (wordAt bytes 2) (wordAt bytes 4)).held = false := by simpa using hh
  obtain ⟨hlink, _, _⟩ := s.takeHeader_receiver p (bytes.getD 1 0) (wordAt bytes 2) (wordAt bytes 4)
  have hj : (s.judgeHighLine p).rx p =
      { s.rx p with arrival := none, counters := { (s.rx p).counters with shape := bumpError (s.rx p).counters.shape } } := by
    rw [State.judgeHighLine, State.countShape, State.updArrivals, State.rx_updRx_self, State.rx_reportLineEnd_failed, if_pos rfl]
  have hmarked := State.takeHeader_high hn s p (bytes.getD 1 0) (wordAt bytes 2)
  rw [State.markUnformed, State.setIgnoring, State.updRx_updRx] at hmarked
  rw [hmarked] at hheld hlink ⊢
  obtain ⟨h, hdef⟩ : ∃ h, (s.judgeHighLine p).updRx p (fun x => { x with
      unformed := some ⟨s.arrivalStream p (bytes.getD 1 0), wordAt bytes 2, wordAt bytes 4⟩, ignoring := true }) = h := ⟨_, rfl⟩
  rw [hdef] at hheld hlink ⊢
  have hunformed : h.isUnformed p bytes = true := by
    refine (h.isUnformed_iff p bytes).2
      ⟨⟨s.arrivalStream p (bytes.getD 1 0), wordAt bytes 2, wordAt bytes 4⟩, ?_, holdsLine_of_header (s := s) hl⟩
    rw [← hdef, State.rx_updRx_self]
  have hquiet : ∀ goesOn f, h.packetOver p bytes goesOn f = (s.judgeHighLine p).setIgnoring p goesOn := fun goesOn f => by
    rw [State.packetOver_quiet (.inr hunformed), ← hdef, State.updRx_updRx]
    exact State.updRx_congr (f := fun x => { x with unformed := none, ignoring := goesOn }) (g := fun x => { x with ignoring := goesOn })
      (by rw [hj, ← hu])
  have hlong : 2568 < bytes.length → s.overLongEnd p bytes = (s.judgeHighLine p).setIgnoring p false := fun hb => by
    rw [State.overLongEnd_first (hlen.resolve_left (by omega)), State.framingFault_high s p hl hn]
    unfold State.setIgnoring
    rw [State.updRx_updRx]
  refine ⟨fun cause => ?_, ?_, ?_, ?_⟩
  · rw [exec_framingFault hh, exec_framingFault hheld, State.packetOver_forming hr hu, hquiet, State.framingFault_high s p hl hn]
  · rw [exec_packetEnd hh, exec_packetEnd hheld, State.packetOver_forming hr hu, hquiet]
    by_cases hb : bytes.length ≤ 2568
    · rw [State.packetEnd_high s p hb hl hn]
    · rw [State.packetEnd_long s p (by omega), hlong (by omega)]
  · rw [exec_poisonedArrival hh, exec_poisonedArrival hheld, State.packetOver_forming hr hu, hquiet]
    by_cases hb : bytes.length ≤ 2568
    · rw [State.poisonedArrival_high s p hb hl hn]
    · rw [State.poisonedArrival_long s p (by omega), hlong (by omega)]
  · have hdrop : (s.framingFault p .idleOrInvalid bytes).dropLink p = (h.reportLineEnd p .failed bytes).dropLink p := by
      have hnone : (h.rx p).arrival = none := by rw [← hdef, State.rx_updRx_self, hj]
      rw [State.framingFault_high s p hl hn, State.reportLineEnd_of_none hnone, ← hdef]
      unfold State.dropLink State.setIgnoring
      rw [State.updRx_updRx, State.updRx_updRx]
    rw [exec_linkDown hh, exec_linkDown hheld,
      State.linkDown_opened (State.link_of_receives hr) (State.isOverLongRest_of_short hlen) (State.counts_of_receives hr)
        (State.isUnformed_of_none hu bytes),
      State.linkDown_unformed (hlink.trans (State.link_of_receives hr)) hunformed, hdrop]

theorem State.endsAlike (hh : s.held = false) (hr : s.receives p = true) (hu : (s.rx p).unformed = none)
    (hl : hasLineHeader bytes = true) (hlen : bytes.length ≤ 2568 ∨ (s.rx p).ignoring = false)
    (ha : ∀ a, (s.rx p).arrival = some a → ¬HoldsLine p a.stream a.frame a.line bytes) :
    s.EndsAlike (s.takeHeader p (bytes.getD 1 0) (wordAt bytes 2) (wordAt bytes 4)) p bytes := by
  rcases Nat.lt_or_ge 719 (wordAt bytes 4) with hn | hn
  · exact State.endsAlike_high hh hr hu hl hn hlen
  · exact State.endsAlike_low hh hr hu hl hn hlen ha

end

/-! ## The statement -/

/-- Cut-through copies keep their lines when a receiver changes in all but its LINE. -/
theorem State.CuttingHasArrival.updRx {s : State} {p : Port} {f : Receiver → Receiver} (h : s.CuttingHasArrival)
    (ha : (f (s.rx p)).arrival = (s.rx p).arrival) : (s.updRx p f).CuttingHasArrival := by
  intro u q hu
  obtain ⟨a, hs, hd⟩ := h u q ((s.out_updRx p u f) ▸ hu)
  refine ⟨a, ?_, hd⟩
  rw [State.rx_updRx]
  split
  next e => rw [ha, ← e, hs]
  next => exact hs

/-- What the end of the LINE in arrival does after a change of its receiver that is not about it. -/
theorem State.InLine.endsAt {s : State} {p : Port} {a : LineArrival} (h : s.InLine p a) (hc : s.CuttingHasArrival)
    (hm : s.MemoryCanonical) {f : Receiver → Receiver} (hf : (f (s.rx p)).arrival = (s.rx p).arrival) (report : EndReport)
    (bytes : List Byte) : (s.updRx p f).LineEnded p a report bytes ((s.updRx p f).reportLineEnd p report bytes) :=
  State.reportLineEnd_ends (by rw [State.rx_updRx_self, hf, h.arrives]) (hc.updRx hf) (hm.congr (by simp) (by simp)) report bytes

theorem State.countFraming_setIgnoring (s : State) (p : Port) (b : Bool) : (s.countFraming p).setIgnoring p b = s.updRx p (fun x =>
    { x with ignoring := b, counters := { x.counters with framing := min (x.counters.framing + 1) 255 } }) := by
  unfold State.countFraming State.setIgnoring State.updArrivals
  rw [State.updRx_updRx]
  rfl

theorem State.countShape_setIgnoring (s : State) (p : Port) (b : Bool) : (s.countShape p).setIgnoring p b = s.updRx p (fun x =>
    { x with ignoring := b, counters := { x.counters with shape := min (x.counters.shape + 1) 255 } }) := by
  unfold State.countShape State.setIgnoring State.updArrivals
  rw [State.updRx_updRx]
  rfl

theorem State.setIgnoring_countShape (s : State) (p : Port) (b : Bool) : (s.setIgnoring p b).countShape p = s.updRx p (fun x =>
    { x with ignoring := b, counters := { x.counters with shape := min (x.counters.shape + 1) 255 } }) := by
  unfold State.countShape State.setIgnoring State.updArrivals
  rw [State.updRx_updRx]
  rfl

theorem State.setIgnoring_countCheck (s : State) (p : Port) (b : Bool) : (s.setIgnoring p b).countFault p .check = s.updRx p (fun x =>
    { x with ignoring := b, counters := { x.counters with check := min (x.counters.check + 1) 255 } }) := by
  unfold State.countFault State.setIgnoring State.updArrivals
  dsimp only
  rw [State.updRx_updRx]
  rfl

/-- Settles O9: at a port with no LINE in arrival, at one with a LINE in arrival, and with the header in the same command or before. -/
theorem faultyPacketsAreCounted : Obligations.FaultyPacketsAreCounted := by
  intro p s faulty check shape sameElsewhere
  refine ⟨fun hh hr ha hu => ?_, fun a h hc hm => ?_, fun hh hr hu bytes t hl hlen ha ht => ?_⟩
  · have hfault : ∀ cause bytes, exec (.framingFault p cause bytes) s = .next (s.framingFault p cause bytes) := fun cause bytes => by
      rw [exec_framingFault hh, State.packetOver_forming hr hu]
    have hends : ∀ bytes, exec (.packetEnd p bytes) s = .next (s.packetEnd p bytes) := fun bytes => by
      rw [exec_packetEnd hh, State.packetOver_forming hr hu]
    have hquiet : ((s.setIgnoring p false).rx p).arrival = none := by simp [State.setIgnoring, ha]
    have hjudged : ∀ bytes fault, bytes.length ≤ 2568 → hasLineHeader bytes = false →
        judgePacket (isTrunkPort p) bytes = .error fault → s.packetEnd p bytes = (s.setIgnoring p false).countFault p fault := by
      intro bytes fault hlen hl hj
      rw [State.packetEnd_plain s p hlen hl, State.reportLineEnd_of_none ha, State.judgeArrival_error hj]
      refine State.reportLineEnd_of_none ?_ .failed bytes
      cases fault <;> simp [State.countFault, State.countShape, State.updArrivals, hquiet]
    refine ⟨fun cause bytes hl => ?_, fun cause bytes hl hn => ?_, fun cause bytes hl hn => ?_, fun bytes hlen => ?_,
      fun bytes h3 hlen hl hck => ?_, fun bytes h3 hlen hl hck hrd => ?_, fun bytes hlen hl hn => ?_, fun bytes hlen hl hn hck => ?_⟩
    · rw [hfault, State.framingFault_plain s p hl, State.reportLineEnd_of_none, State.countFraming_setIgnoring]
      simp [State.countFraming, State.updArrivals, ha]
    · rw [hfault, State.framingFault_high s p hl hn, State.judgeHighLine_of_none ha, State.countShape_setIgnoring]
    · obtain ⟨harr, _, hcount, hrest⟩ :=
        State.ensureHeader_fails ha hn (fun c => { c with framing := bumpError c.framing })
      rw [hfault, State.framingFault_low s p hl hn]
      unfold State.countFraming
      refine ⟨_, rfl, ?_, ?_, ?_, ?_⟩
      · simpa [State.setIgnoring] using harr
      · simp [State.setIgnoring]
      · simp only [State.setIgnoring, State.rx_updRx_self, faulty]
        exact hcount
      · simpa [sameElsewhere, State.setIgnoring] using hrest
    · have hl : hasLineHeader bytes = false := by
        by_contra hl
        have := length_of_hasLineHeader (Bool.eq_true_of_not_eq_false hl)
        omega
      rw [hends, hjudged bytes .shape (by omega) hl (judgePacket_short hlen _)]
      exact congrArg _ (s.setIgnoring_countShape p false)
    · rw [hends, hjudged bytes .check hlen hl (judgePacket_check h3 hck _), State.setIgnoring_countCheck]
    · rw [hends, hjudged bytes .shape hlen hl (judgePacket_shape h3 hck hrd)]
      exact congrArg _ (s.setIgnoring_countShape p false)
    · rw [hends, State.packetEnd_high s p hlen hl hn, State.judgeHighLine_of_none ha, State.countShape_setIgnoring]
    · have h6 := length_of_hasLineHeader hl
      obtain ⟨harr, _, hcount, hrest⟩ := State.ensureHeader_fails ha hn (fun c => { c with check := bumpError c.check })
      rw [hends, State.packetEnd_low s p hlen hl hn, State.judgeArrival_error (judgePacket_check (by omega) hck _)]
      refine ⟨_, rfl, harr, ?_, hrest⟩
      simp only [check, State.rx_updRx_self]
      exact hcount
  · refine ⟨fun cause bytes hb => ?_, fun bytes hlen hb hn => ⟨fun hck => ?_, fun hck hshort => ?_⟩⟩
    · have hfault : s.framingFault p cause bytes = (faulty cause).reportLineEnd p .failed bytes := by
        have hsame : s.framingFault p cause bytes =
            ((s.countFraming p).reportLineEnd p .failed bytes).setIgnoring p (decide (cause = .overLong)) := by
          rcases hb with hl | ⟨hb, hn⟩
          · exact State.framingFault_plain s p hl cause
          · obtain ⟨hl, _, hline, _⟩ := id hb
            rw [State.framingFault_low s p hl (by omega), h.ensureHeader hb]
        rw [hsame, ← State.setIgnoring_reportLineEnd_failed, State.countFraming_setIgnoring]
      refine ⟨_, by rw [exec_framingFault h.running, State.packetOver_forming h.forms h.forming], ?_⟩
      rw [hfault]
      exact h.endsAt hc hm rfl .failed bytes
    · have h6 := length_of_hasLineHeader hb.1
      have hcheck : s.countFault p .check = check :=
        (congrArg (fun x => State.countFault x p .check) (State.setIgnoring_of_eq h.listens)).symm.trans (s.setIgnoring_countCheck p false)
      refine ⟨_, h.exec_packetEnd hb hn hlen, ?_⟩
      rw [State.judgeArrival_error (judgePacket_check (by omega) hck _), hcheck]
      exact h.endsAt hc hm rfl .failed bytes
    · have h6 := length_of_hasLineHeader hb.1
      have hshape : s.countFault p .shape = shape false :=
        (congrArg (fun x => State.countFault x p .shape) (State.setIgnoring_of_eq h.listens)).symm.trans (s.setIgnoring_countShape p false)
      refine ⟨_, h.exec_packetEnd hb hn hlen, ?_⟩
      rw [State.judgeArrival_error (judgePacket_shape (by omega) hck (readPacket_line_none hb.1 hshort _)), hshape]
      exact h.endsAt hc hm rfl .failed bytes
  · have htake := exec_lineHeader_forming hh hr hu bytes
    rw [ht] at htake
    injection htake with htake
    have halike := State.endsAlike hh hr hu hl hlen ha
    rw [htake]
    exact ⟨halike.fault, halike.ends, halike.poisoned, halike.down⟩

end Sys2Proof.Machine

/-! # Proofs: a poisoned packet is discarded and counted, or is a LINE (R7, R9, R51, entries 5, 6) -/

namespace Sys2Proof.Machine

/-! ## What leaves the poisoned counter of a trunk port -/

/-- The poisoned counter of a trunk port. -/
def State.poisonedCount (s : State) (u : Trunk) : Nat := (s.trunks.get u).counters.poisoned

theorem State.poisonedCount_congr {s t : State} (h : t.trunks = s.trunks) (u : Trunk) : t.poisonedCount u = s.poisonedCount u := by
  unfold State.poisonedCount
  rw [h]

section
variable (s : State) (u : Trunk)

@[simp] theorem State.poisonedCount_updRx (p : Port) (f : Receiver → Receiver) : (s.updRx p f).poisonedCount u = s.poisonedCount u := by
  cases p with
  | cam i => rfl
  | trunk t => cases t <;> cases u <;> rfl

@[simp] theorem State.poisonedCount_updArrivals (p : Port) (f : ArrivalCounters → ArrivalCounters) :
    (s.updArrivals p f).poisonedCount u = s.poisonedCount u := s.poisonedCount_updRx u p _

@[simp] theorem State.poisonedCount_updOut (t : Trunk) (f : Output → Output) : (s.updOut t f).poisonedCount u = s.poisonedCount u := by
  cases t <;> cases u <;> rfl

@[simp] theorem State.poisonedCount_countQueueCuts (t : Trunk) (n : Nat) : (s.countQueueCuts t n).poisonedCount u = s.poisonedCount u := by
  cases t <;> cases u <;> rfl

@[simp] theorem State.poisonedCount_setCut (t : Trunk) (k : Fin 256) : (s.setCut t k).poisonedCount u = s.poisonedCount u := rfl

@[simp] theorem State.poisonedCount_deliver (e : StreamEntry) (f : Channel → Channel) :
    (s.deliver e f).poisonedCount u = s.poisonedCount u := State.poisonedCount_congr (State.deliver_frame ..).2.1 u

@[simp] theorem State.poisonedCount_endTransmission (t : Trunk) (tx : Transmission) :
    (s.endTransmission t tx).poisonedCount u = s.poisonedCount u := by
  cases t <;> cases u <;> rfl

@[simp] theorem State.poisonedCount_endCutThrough (p : Port) (t : Trunk) (tx : Transmission) :
    (s.endCutThrough p t tx).poisonedCount u = s.poisonedCount u := by
  unfold State.endCutThrough
  split
  · exact s.poisonedCount_endTransmission u t tx
  · rfl

@[simp] theorem State.poisonedCount_offerLine (t : Trunk) (k : Fin 256) (p : Packet) :
    (s.offerLine t k p).poisonedCount u = s.poisonedCount u := by
  unfold State.offerLine
  (repeat' split) <;> simp

@[simp] theorem State.poisonedCount_settleCopy (a : LineArrival) (report : EndReport) (pixels : List Byte) (t : Trunk) :
    (s.settleCopy a report pixels t).poisonedCount u = s.poisonedCount u := by
  unfold State.settleCopy
  split <;> simp

@[simp] theorem State.poisonedCount_countHeaderCut (a : LineArrival) (t : Trunk) :
    (s.countHeaderCut a t).poisonedCount u = s.poisonedCount u := by
  unfold State.countHeaderCut
  split <;> simp

@[simp] theorem State.poisonedCount_settleLine (p : Port) (a : LineArrival) (report : EndReport) (bytes : List Byte) :
    (s.settleLine p a report bytes).poisonedCount u = s.poisonedCount u := by
  by_cases h : s.StillOpen a
  · rw [State.settleLine_open h]
    split <;> simp
  · rw [State.settleLine_closed h]
    split
    · rfl
    · split <;> simp [State.countUnrouted, State.countMisrouted, State.countStray]

@[simp] theorem State.poisonedCount_reportLineEnd (p : Port) (report : EndReport) (bytes : List Byte) :
    (s.reportLineEnd p report bytes).poisonedCount u = s.poisonedCount u := by
  cases h : (s.rx p).arrival with
  | none => rw [State.reportLineEnd_of_none h]
  | some a => simp [State.reportLineEnd_of_some h]

@[simp] theorem State.poisonedCount_switchLineHeader (p : Port) (k : Fin 256) (frame line : Nat) :
    (s.switchLineHeader p k frame line).poisonedCount u = s.poisonedCount u := by
  have happly : ∀ (x : State) t d, (x.applyDecision p k t d).poisonedCount u = x.poisonedCount u := fun x t d => by
    cases d <;> simp [State.applyDecision]
  rw [State.switchLineHeader_eq, happly, happly, State.poisonedCount_updRx]

/-- A poisoned arrival is counted at its trunk port (R7). -/
theorem State.poisonedCount_countPoisoned : (s.countPoisoned (.trunk u)).poisonedCount u = min (s.poisonedCount u + 1) 255 := by
  cases u <;> rfl

end

@[simp] theorem State.rx_countPoisoned (s : State) (p q : Port) : (s.countPoisoned p).rx q = s.rx q := by
  cases p with
  | cam i => rfl
  | trunk u => exact s.rx_updTrunkCounters u _ q

/-! ## The count of a poisoned packet that is not handed on (R7) -/

/-- A trunk port counts it poisoned, a camera port as a shape fault. -/
def State.countDiscarded (s : State) (p : Port) : State :=
  match p with
  | .trunk _ => s.countPoisoned p
  | .cam _ => s.countShape p

theorem State.discardPoisoned_eq (s : State) (p : Port) (bytes : List Byte) :
    s.discardPoisoned p bytes = (s.countDiscarded p).reportLineEnd p .failed bytes := by
  cases p <;> rfl

theorem State.countDiscarded_trunk {s : State} {u : Trunk} (h : (s.rx (.trunk u)).ignoring = false) :
    s.countDiscarded (.trunk u) = (s.updRx (.trunk u) (fun x => { x with ignoring := false })).updTrunkCounters u
      (fun c => { c with poisoned := min (c.poisoned + 1) 255 }) := by
  rw [State.updRx_same s (.trunk u) _ (by rw [← h])]
  rfl

theorem State.countDiscarded_cam {s : State} {i : Fin 8} (h : (s.rx (.cam i)).ignoring = false) :
    s.countDiscarded (.cam i) = s.updRx (.cam i) (fun x =>
      { x with ignoring := false, counters := { x.counters with shape := min (x.counters.shape + 1) 255 } }) := by
  have hshape := s.setIgnoring_countShape (.cam i) false
  rw [State.setIgnoring_of_eq h] at hshape
  exact hshape

theorem State.SameLines.countDiscarded {s t : State} (h : s.SameLines t) (p : Port) : s.SameLines (t.countDiscarded p) := by
  unfold State.countDiscarded
  cases p with
  | trunk u => exact h.countPoisoned _
  | cam i => exact h.updArrivals _ _

@[simp] theorem State.countDiscarded_frame (s : State) (p : Port) : (s.countDiscarded p).streams = s.streams ∧
    (s.countDiscarded p).channels = s.channels ∧ (s.countDiscarded p).orders = s.orders ∧ (s.countDiscarded p).flash = s.flash := by
  cases p <;> exact ⟨rfl, rfl, rfl, rfl⟩

/-! ## A poisoned LINE at its channel (R51) -/

theorem Channel.line_poisoned {c : Channel} {i : Fin 3} {frame : Nat} (h : c.intake = .filling i frame) (line : Nat)
    (pixels : List Byte) : ((c.line frame line pixels true).slot i).good = (c.slot i).good := by
  have hline : c.line frame line pixels true =
      (c.updSlot i (Slot.poisonedLine line pixels)).count (fun k => { k with poisoned := bumpTraffic k.poisoned }) := by
    simp [Channel.line, h]
  rw [hline, Channel.slot_count, Channel.slot_updSlot_self]
  unfold Slot.poisonedLine
  split <;> rfl

/-! ## A LINE whose header came in the same step (entry 5) -/

/-- A header changes nothing of the stream records but cut flags. -/
theorem State.streamRec_switchLineHeader (s : State) (p : Port) (k j : Fin 256) (frame line : Nat) :
    ((s.switchLineHeader p k frame line).streamRec j).entry = (s.streamRec j).entry ∧
    ((s.switchLineHeader p k frame line).streamRec j).flow.isOpen = (s.streamRec j).flow.isOpen ∧
    ((s.switchLineHeader p k frame line).streamRec j).flow.epoch = (s.streamRec j).flow.epoch := by
  have happly : ∀ (x : State) t d, ((x.applyDecision p k t d).streamRec j).entry = (x.streamRec j).entry ∧
      ((x.applyDecision p k t d).streamRec j).flow.isOpen = (x.streamRec j).flow.isOpen ∧
      ((x.applyDecision p k t d).streamRec j).flow.epoch = (x.streamRec j).flow.epoch := fun x t d => by
    cases d with
    | discardedDown =>
      unfold State.applyDecision State.setCut
      by_cases e : j = k
      · subst e
        simp
      · simp [e]
    | cutThrough => exact ⟨rfl, rfl, rfl⟩
    | offRoute => exact ⟨rfl, rfl, rfl⟩
    | discardedCut => exact ⟨rfl, rfl, rfl⟩
    | stored => exact ⟨rfl, rfl, rfl⟩
  obtain ⟨he₁, ho₁, hp₁⟩ := happly ((s.updRx p (fun x => { x with arrival := some (s.headerLine p k frame line) })).applyDecision p k .ta
    ((s.headerLine p k frame line).decisions.get .ta)) .tb ((s.headerLine p k frame line).decisions.get .tb)
  obtain ⟨he₂, ho₂, hp₂⟩ := happly (s.updRx p (fun x => { x with arrival := some (s.headerLine p k frame line) })) .ta
    ((s.headerLine p k frame line).decisions.get .ta)
  have hrec : (s.updRx p (fun x => { x with arrival := some (s.headerLine p k frame line) })).streamRec j = s.streamRec j :=
    State.streamRec_congr (by simp) j
  rw [hrec] at he₂ ho₂ hp₂
  rw [State.switchLineHeader_eq]
  exact ⟨he₁.trans he₂, ho₁.trans ho₂, hp₁.trans hp₂⟩

/-- What the end of a LINE in arrival leaves of its receiver, and what it counts received. -/
theorem State.rx_reportLineEnd (s : State) (p : Port) (report : EndReport) (bytes : List Byte) :
    ((s.reportLineEnd p report bytes).rx p).arrival = none ∧
    ((s.reportLineEnd p report bytes).rx p).counters.received = (s.rx p).counters.received := by
  have hsettle : ∀ (x : State) a, ((x.settleLine p a report bytes).rx p).arrival = (x.rx p).arrival ∧
      ((x.settleLine p a report bytes).rx p).counters.received = (x.rx p).counters.received := fun x a => by
    by_cases h : x.StillOpen a
    · rw [State.settleLine_open h]
      split <;> simp
    · rw [State.settleLine_closed h]
      split
      · exact ⟨rfl, rfl⟩
      · split <;> simp [State.countUnrouted, State.countMisrouted, State.countStray, State.updArrivals]
  cases h : (s.rx p).arrival with
  | none =>
    rw [State.reportLineEnd_of_none h]
    exact ⟨h, rfl⟩
  | some a =>
    obtain ⟨harr, hreceived⟩ := hsettle (((s.updRx p (fun x => { x with arrival := none })).endCutThrough p .ta
      (a.transmission report bytes)).endCutThrough p .tb (a.transmission report bytes)) a
    rw [State.reportLineEnd_of_some h, harr, hreceived]
    simp

section
variable {s y : State} {p : Port} {a : LineArrival} (ha : (y.rx p).arrival = some a) (bytes : List Byte)
include ha

/-- A LINE without a valid entry is counted unrouted at its end, and reaches no channel (R24). -/
theorem State.reportLineEnd_unrouted (hf : a.fate = .unrouted) (report : EndReport) (hr : report ≠ .failed) :
    ((y.reportLineEnd p report bytes).rx p).counters.unrouted = min ((y.rx p).counters.unrouted + 1) 65535 ∧
    (y.reportLineEnd p report bytes).channels = y.channels := by
  have hclosed : ∀ x : State, x.settleLine p a report bytes = x.countUnrouted p := fun x => by
    rw [State.settleLine_closed (fun h => by rw [h.2] at hf; cases hf), if_neg hr, hf]
  rw [State.reportLineEnd_of_some ha, hclosed]
  refine ⟨?_, by simp⟩
  rw [State.countUnrouted, State.updArrivals, State.rx_updRx_self]
  simp [bumpTraffic, Config.trafficMax]

/-- A LINE of the open frame reaches the channel of its stream (R26, R29). -/
theorem State.channel_reportLineEnd (ho : y.StillOpen a) {c : Fin 12} (hc : (y.streamRec a.stream).entry.channel = some c)
    (report : EndReport) (hr : report ≠ .failed) :
    (y.reportLineEnd p report bytes).channel c =
      (y.channel c).line a.frame a.line ((bytes.drop 6).take 2560) (decide (report = .poisoned)) := by
  rw [State.reportLineEnd_of_some ha]
  generalize hx : ((y.updRx p (fun x => { x with arrival := none })).endCutThrough p .ta
      (a.transmission report bytes)).endCutThrough p .tb (a.transmission report bytes) = x
  have hrec : x.streamRec a.stream = y.streamRec a.stream := State.streamRec_congr (by rw [← hx]; simp) _
  have hchannel : x.channels = y.channels := by rw [← hx]; simp
  have hopen : x.StillOpen a := (State.StillOpen.congr hrec).2 ho
  rw [State.settleLine_open hopen, if_neg hr, State.channel_deliver, hrec, if_pos hc,
    State.channel_congr (s := y) (by simp [hchannel])]

end

/-! ## The statement -/

theorem exec_poisonedArrival_forming {s : State} {p : Port} (hh : s.held = false) (hr : s.receives p = true)
    (hu : (s.rx p).unformed = none) (bytes : List Byte) :
    exec (.poisonedArrival p bytes) s = .next (s.poisonedArrival p bytes) := by
  rw [exec_poisonedArrival hh, State.packetOver_forming hr hu]

section
variable {s : State} {p : Port} {bytes : List Byte}

/-- A poisoned packet that is no LINE, between packets. -/
theorem State.BetweenPackets.poisonedArrival_plain (h : s.BetweenPackets p) (hlen : bytes.length ≤ 2568)
    (hl : hasLineHeader bytes = false) : s.poisonedArrival p bytes = s.countDiscarded p := by
  rw [State.poisonedArrival_plain s p hlen hl, State.reportLineEnd_of_none h.noLine, State.setIgnoring_of_eq h.listens,
    State.discardPoisoned_eq]
  exact State.reportLineEnd_of_none ((((State.SameLines.refl s).countDiscarded p).arrival p).trans h.noLine) .failed bytes

/-- A LINE with a line number above 719 (R9). -/
theorem State.BetweenPackets.poisonedArrival_high (h : s.BetweenPackets p) (hlen : bytes.length ≤ 2568)
    (hl : hasLineHeader bytes = true) (hn : 719 < wordAt bytes 4) : s.poisonedArrival p bytes = s.countShape p := by
  rw [State.poisonedArrival_high s p hlen hl hn, State.judgeHighLine_of_none h.noLine]
  exact State.setIgnoring_of_eq (by simp [State.countShape, State.updArrivals, h.listens])

/-- A LINE's header that comes with its end is handed on first (entry 5). -/
theorem State.BetweenPackets.ensureHeader (h : s.BetweenPackets p) (hn : wordAt bytes 4 ≤ 719) :
    (s.setIgnoring p false).ensureHeader p bytes =
      s.switchLineHeader p (s.arrivalStream p (bytes.getD 1 0)) (wordAt bytes 2) (wordAt bytes 4) := by
  rw [State.ensureHeader_fresh h.noLine hn, State.setIgnoring_of_eq h.listens]

/-- A short LINE between packets is counted, and its header's copies fail at once (entries 5, 6). -/
theorem State.BetweenPackets.poisonedShort (h : s.BetweenPackets p) (hlen : bytes.length < 2568) (hl : hasLineHeader bytes = true)
    (hn : wordAt bytes 4 ≤ 719) :
    let t := s.poisonedArrival p bytes
    (t.rx p).arrival = none ∧ t.channels = s.channels ∧ t.orders = s.orders ∧
    (∀ u, p = .trunk u → (t.rx p).counters = (s.rx p).counters ∧
      (t.trunks.get u).counters.poisoned = min ((s.trunks.get u).counters.poisoned + 1) 255) ∧
    ∀ i, p = .cam i → (t.rx p).counters = { (s.rx p).counters with shape := min ((s.rx p).counters.shape + 1) 255 } := by
  intro t
  have ht : t = (((s.setIgnoring p false).ensureHeader p bytes).countDiscarded p).reportLineEnd p .failed bytes := by
    rw [← State.discardPoisoned_eq]
    exact State.poisonedArrival_short s p hlen hl hn
  have hframe := State.reportLineEnd_failed_frame (((s.setIgnoring p false).ensureHeader p bytes).countDiscarded p) p bytes
  rw [← ht, h.ensureHeader hn] at hframe
  obtain ⟨hchannels, horders, _⟩ := hframe
  refine ⟨ht ▸ (State.rx_reportLineEnd ..).1, hchannels.trans (by simp), horders.trans (by simp), ?_, ?_⟩
  · rintro u rfl
    refine ⟨?_, ?_⟩
    · rw [ht, State.rx_reportLineEnd_failed, if_pos rfl, h.ensureHeader hn, State.countDiscarded, State.rx_countPoisoned,
        State.rx_switchLineHeader, if_pos rfl]
    · show t.poisonedCount u = min (s.poisonedCount u + 1) 255
      rw [ht, h.ensureHeader hn]
      simp [State.countDiscarded, State.poisonedCount_countPoisoned]
  · rintro i rfl
    rw [ht, State.rx_reportLineEnd_failed, if_pos rfl, h.ensureHeader hn, State.countDiscarded, State.countShape, State.updArrivals,
      State.rx_updRx_self, State.rx_switchLineHeader, if_pos rfl]
    rfl

/-- A full LINE between packets: the state in which its end is reported, with its counts and the line in arrival (entry 5). -/
theorem State.BetweenPackets.poisonedFull (h : s.BetweenPackets p) (hlen : bytes.length = 2568) (hl : hasLineHeader bytes = true)
    (hn : wordAt bytes 4 ≤ 719) : ∃ y : State, s.poisonedArrival p bytes = y.reportLineEnd p .poisoned bytes ∧
      y.rx p = { s.rx p with
        arrival := some (s.headerLine p (s.arrivalStream p (bytes.getD 1 0)) (wordAt bytes 2) (wordAt bytes 4))
        counters := { (s.rx p).counters with received := min ((s.rx p).counters.received + 1) 65535 } } ∧
      y.channels = s.channels ∧
      (∀ k, (y.streamRec k).entry = (s.streamRec k).entry ∧ (y.streamRec k).flow.isOpen = (s.streamRec k).flow.isOpen ∧
        (y.streamRec k).flow.epoch = (s.streamRec k).flow.epoch) ∧
      ∀ u, p = .trunk u → y.poisonedCount u = min (s.poisonedCount u + 1) 255 := by
  obtain ⟨x, hx⟩ : ∃ x, s.switchLineHeader p (s.arrivalStream p (bytes.getD 1 0)) (wordAt bytes 2) (wordAt bytes 4) = x := ⟨_, rfl⟩
  refine ⟨(x.countPoisoned p).countReceived p, ?_, ?_, ?_, fun k => ?_, ?_⟩
  · rw [State.poisonedArrival_full s p hlen hl hn, h.ensureHeader hn, hx]
  · rw [State.countReceived, State.updArrivals, State.rx_updRx_self, State.rx_countPoisoned, ← hx, State.rx_switchLineHeader,
      if_pos rfl]
    rfl
  · simp [← hx]
  · have hrec : ((x.countPoisoned p).countReceived p).streamRec k = x.streamRec k := State.streamRec_congr (by simp) k
    rw [hrec, ← hx]
    exact s.streamRec_switchLineHeader p _ k _ _
  · rintro u rfl
    have hcount : ((x.countPoisoned (.trunk u)).countReceived (.trunk u)).poisonedCount u = min (x.poisonedCount u + 1) 255 := by
      rw [State.countReceived, State.poisonedCount_updArrivals, State.poisonedCount_countPoisoned]
    rw [hcount, ← hx, State.poisonedCount_switchLineHeader]

end

/-- Settles O14: between packets by length and line number, and at a LINE in arrival by `State.InLine.ends`. -/
theorem poisonedArrivalIsCounted : Obligations.PoisonedArrivalIsCounted := by
  intro p bytes s hm hlen discarded handedOn
  have hdiscarded : (s.rx p).ignoring = false → s.countDiscarded p = discarded := fun hi => by
    cases p with
    | cam i => exact State.countDiscarded_cam hi
    | trunk u => exact State.countDiscarded_trunk hi
  refine ⟨fun h => ⟨fun hl => ?_, fun hl hn => ?_, fun hl hn hshort => ?_, fun hl hn hfull => ?_⟩,
    fun a h hc hb hn => ⟨fun hfull => ?_, fun hshort => ?_⟩⟩
  · rw [exec_poisonedArrival_forming h.running h.forms h.forming, h.poisonedArrival_plain hlen hl, hdiscarded h.listens]
  · rw [exec_poisonedArrival_forming h.running h.forms h.forming, h.poisonedArrival_high hlen hl hn]
    rfl
  · exact ⟨_, exec_poisonedArrival_forming h.running h.forms h.forming bytes, h.poisonedShort hshort hl hn⟩
  · obtain ⟨y, hy, hrx, hchannels, hrec, hpoisoned⟩ := h.poisonedFull hfull hl hn
    obtain ⟨harrival, hreceived⟩ := y.rx_reportLineEnd p .poisoned bytes
    have ha : (y.rx p).arrival = some (s.headerLine p (s.arrivalStream p (bytes.getD 1 0)) (wordAt bytes 2) (wordAt bytes 4)) := by
      rw [hrx]
    refine ⟨_, exec_poisonedArrival_forming h.running h.forms h.forming bytes, ?_⟩
    rw [hy]
    refine ⟨harrival, by rw [hreceived, hrx], fun u hu => ?_, ?_⟩
    · have hcount := (y.poisonedCount_reportLineEnd u p .poisoned bytes).trans (hpoisoned u hu)
      exact hcount
    · rintro k rfl
      refine ⟨fun hv => ?_, fun c i hv ho hopen hframe hc hfill => ?_⟩
      · obtain ⟨hcount, hch⟩ :=
          State.reportLineEnd_unrouted ha bytes (StreamRecord.lineFate_unrouted p _ hv) .poisoned (by simp)
        exact ⟨by rw [hcount, hrx], hch.trans hchannels⟩
      · obtain ⟨hentry, hopen', hepoch⟩ := hrec (s.arrivalStream p (bytes.getD 1 0))
        have hstill : y.StillOpen (s.headerLine p (s.arrivalStream p (bytes.getD 1 0)) (wordAt bytes 2) (wordAt bytes 4)) :=
          ⟨hopen'.trans hopen, (StreamRecord.lineFate_belongs p _ hv ho ⟨hopen, hframe⟩).trans
            (congrArg LineFate.belongs hepoch.symm)⟩
        have hchannel : (y.reportLineEnd p .poisoned bytes).channel c =
            (s.channel c).line (wordAt bytes 2) (wordAt bytes 4) ((bytes.drop 6).take 2560) true :=
          (State.channel_reportLineEnd ha bytes hstill ((congrArg StreamEntry.channel hentry).trans hc) .poisoned (by simp)).trans
            (congrArg (Channel.line _ _ _ true) (State.channel_congr hchannels c))
        rw [hchannel]
        obtain ⟨_, hcounters, _, _, hgood, hrow⟩ :=
          (Channel.line_took (wordAt bytes 2) (wordAt bytes 4) ((bytes.drop 6).take 2560) true (s.channel c) (hm.2 c)).filling i hfill
        refine ⟨by rw [hcounters]; rfl, ?_, fun hnew => (hrow _).trans (if_pos ⟨rfl, hnew⟩), fun r hr =>
          (hrow r).trans (if_neg fun ⟨heq, hnew⟩ => ?_)⟩
        · exact Channel.line_poisoned hfill _ _
        · exact hr.elim (fun hne => hne heq) (fun hmem => hnew (heq ▸ hmem))
  · have hhand : (s.countPoisoned p).countReceived p = handedOn := by
      have hreceived : s.countReceived p = s.updRx p (fun x => { x with
          ignoring := false, counters := { x.counters with received := min (x.counters.received + 1) 65535 } }) :=
        State.updRx_congr (f := fun x => { x with counters := { x.counters with received := bumpTraffic x.counters.received } })
          (by rw [h.listens]; rfl)
      simp only [handedOn, ← hreceived]
      cases p with
      | cam i => rfl
      | trunk u => cases u <;> rfl
    refine ⟨_, exec_poisonedArrival_forming h.running h.forms h.forming bytes, ?_⟩
    obtain ⟨hl, _, hline, _⟩ := id hb
    rw [State.poisonedArrival_full s p hfull hl (hline.le.trans hn), h.ensureHeader hb, ← hhand]
    exact h.ends hc hm (((State.SameLines.refl s).countPoisoned p).updArrivals p _) (by simp) (by simp) .poisoned bytes
  · refine ⟨_, exec_poisonedArrival_forming h.running h.forms h.forming bytes, ?_⟩
    obtain ⟨hl, _, hline, _⟩ := id hb
    rw [State.poisonedArrival_short s p hshort hl (hline.le.trans hn), h.ensureHeader hb, State.discardPoisoned_eq,
      ← hdiscarded h.listens]
    exact h.ends hc hm ((State.SameLines.refl s).countDiscarded p) (by simp) (by simp) .failed bytes

end Sys2Proof.Machine

/-! # Proofs: what origin loss makes of the outputs, and what it leaves (R28, R35, R37) -/

namespace Sys2Proof.Machine

/-! ## FRAME-CLOSE CUT at a channel is no change of its state (R52) -/

theorem Channel.abandonIntake_keeps (c : Channel) : c.abandonIntake.state = c.state ∧ c.abandonIntake.grade = c.grade := by
  unfold Channel.abandonIntake
  split <;> exact ⟨rfl, rfl⟩

theorem Channel.frameClose_cut_keeps (frame : Nat) (c : Channel) :
    (c.frameClose frame .cut).state = c.state ∧ (c.frameClose frame .cut).grade = c.grade := by
  cases h : c.intake with
  | none => simp [Channel.frameClose, h, Channel.strayPacket, Channel.count]
  | filling i f =>
    by_cases e : frame = f
    · subst e
      rw [Channel.frameClose_filling h, if_pos (.inl rfl)]
      exact c.abandonIntake_keeps
    · simp [Channel.frameClose, h, e, Channel.strayPacket, Channel.count]
  | dropping f =>
    unfold Channel.frameClose
    rw [h]
    dsimp only
    split <;> exact ⟨rfl, rfl⟩

/-- An event that changes neither state nor grade of its channel tells nobody (R62, R145). -/
theorem State.channelEvent_of_keeps {s : State} {c : Fin 12} {f : Channel → Channel}
    (h : (f (s.channel c)).state = (s.channel c).state ∧ (f (s.channel c)).grade = (s.channel c).grade) :
    s.channelEvent c f = s.updChannel c f := by
  obtain ⟨hs, hg⟩ := h
  have hs' : (Tab.get s.channels c).state = (f (Tab.get s.channels c)).state := hs.symm
  have hg' : (Tab.get s.channels c).grade = (f (Tab.get s.channels c)).grade := hg.symm
  unfold State.channelEvent
  simp [State.offerIf, hs', hg']

theorem State.deliver_cut_told (s : State) (e : StreamEntry) (frame : Nat) :
    (s.deliver e (Channel.frameClose frame .cut)).orders = s.orders ∧
    (s.deliver e (Channel.frameClose frame .cut)).alerts = s.alerts := by
  unfold State.deliver
  split
  · rw [State.channelEvent_of_keeps (Channel.frameClose_cut_keeps frame _)]
    exact ⟨rfl, rfl⟩
  · exact ⟨rfl, rfl⟩

/-! ## Induction over origin loss -/

/-- What each closing keeps, origin loss keeps. -/
theorem State.originLoss_keeps {P : State → Prop} (h : ∀ (s : State) k, P s → P (s.closeCut k)) {s : State} (hs : P s) (p : Port) :
    P (s.originLoss p) := by
  unfold State.originLoss
  induction List.finRange 256 generalizing s with
  | nil => exact hs
  | cons k rest ih =>
    rw [List.foldl_cons]
    refine ih ?_
    dsimp only
    split
    · exact h s k hs
    · exact hs

/-- Two hubs that close the same streams stay alike in what each closing keeps of both. -/
theorem State.originLoss_alike {R : State → State → Prop} (h : ∀ (s t : State) k, R s t → R (s.closeCut k) (t.closeCut k))
    (hr : ∀ (s t : State) k p, R s t → (t.streamRec k).closesFor p = (s.streamRec k).closesFor p) {s t : State} (hst : R s t) (p : Port) :
    R (s.originLoss p) (t.originLoss p) := by
  unfold State.originLoss
  induction List.finRange 256 generalizing s t with
  | nil => exact hst
  | cons k rest ih =>
    rw [List.foldl_cons, List.foldl_cons]
    refine ih ?_
    have hk : ((t.streamRec k).flow.isOpen && (t.streamRec k).entry.valid && decide ((t.streamRec k).entry.origin = p)) =
        ((s.streamRec k).flow.isOpen && (s.streamRec k).entry.valid && decide ((s.streamRec k).entry.origin = p)) := hr s t k p hst
    dsimp only
    rw [hk]
    split
    · exact h s t k hst
    · exact hst

/-- Origin loss tells nobody. -/
@[simp] theorem State.originLoss_told (s : State) (p : Port) :
    (s.originLoss p).orders = s.orders ∧ (s.originLoss p).alerts = s.alerts := by
  refine State.originLoss_keeps (P := fun x => x.orders = s.orders ∧ x.alerts = s.alerts) (fun x k hx => ?_) ⟨rfl, rfl⟩ p
  obtain ⟨horders, halerts⟩ := State.deliver_cut_told ((x.sendIfRouted (x.streamRec k).entry .ta k
    (.frameClose k (x.streamRec k).flow.frame .cut)).sendIfRouted (x.streamRec k).entry .tb k
    (.frameClose k (x.streamRec k).flow.frame .cut)) (x.streamRec k).entry (x.streamRec k).flow.frame
  obtain ⟨ho, ha⟩ := hx
  rw [← ho, ← ha]
  exact ⟨horders.trans (by simp), halerts.trans (by simp)⟩

/-! ## An output whose link is DOWN (R37) -/

theorem State.trunk_sendControl_of_ne {u t : Trunk} (h : u ≠ t) (s : State) (k : Fin 256) (p : Packet) :
    (s.sendControl t k p).trunks.get u = s.trunks.get u := by
  unfold State.sendControl State.countQueueCuts
  dsimp only
  (repeat' split) <;> simp [h]

theorem State.trunk_sendIfRouted {s : State} {u t : Trunk} (h : u ≠ t ∨ s.trunkUp u = false) (e : StreamEntry) (k : Fin 256)
    (p : Packet) : (s.sendIfRouted e t k p).trunks.get u = s.trunks.get u := by
  unfold State.sendIfRouted
  split
  · by_cases hu : u = t
    · subst hu
      rw [State.sendControl_of_down (h.resolve_left (by simp))]
    · exact State.trunk_sendControl_of_ne hu s k p
  · rfl

theorem State.trunk_closeCut_of_down {s : State} {u : Trunk} (h : s.trunkUp u = false) (k : Fin 256) :
    (s.closeCut k).trunks.get u = s.trunks.get u := by
  have hframe : (s.closeCut k).trunks = ((s.sendIfRouted (s.streamRec k).entry .ta k
      (.frameClose k (s.streamRec k).flow.frame .cut)).sendIfRouted (s.streamRec k).entry .tb k
      (.frameClose k (s.streamRec k).flow.frame .cut)).trunks := by
    simp [State.closeCut]
  rw [hframe, State.trunk_sendIfRouted (.inr (by rw [State.trunkUp_sendIfRouted, h])), State.trunk_sendIfRouted (.inr h)]

@[simp] theorem State.trunkUp_closeCut (s : State) (k : Fin 256) (u : Trunk) : (s.closeCut k).trunkUp u = s.trunkUp u := by
  rw [State.trunkUp_eq, State.rx_closeCut, ← State.trunkUp_eq]

theorem State.trunk_originLoss_of_down {s : State} {u : Trunk} (h : s.trunkUp u = false) (p : Port) :
    (s.originLoss p).trunks.get u = s.trunks.get u := by
  refine (State.originLoss_keeps (P := fun x => x.trunkUp u = false ∧ x.trunks.get u = s.trunks.get u)
    (fun x k ⟨hu, ht⟩ => ⟨?_, ?_⟩) ⟨h, rfl⟩ p).2
  · rw [State.trunkUp_closeCut, hu]
  · rw [State.trunk_closeCut_of_down hu, ht]

/-! ## Two hubs whose queues are alike at an output -/

/-- The queue cuts counted at an output. -/
def State.queueCuts (s : State) (u : Trunk) : Nat := (s.trunks.get u).counters.queueCuts

/-- At an output `u` the hubs hold the same in their queues, count the same, and route alike; their cut flags may differ. -/
structure State.QueuesAlike (u : Trunk) (s t : State) : Prop where
  up : t.trunkUp u = s.trunkUp u
  mgmt : (t.out u).mgmt = (s.out u).mgmt
  video : (t.out u).video = (s.out u).video
  waiting : (t.out u).waiting = (s.out u).waiting
  cuts : t.queueCuts u = s.queueCuts u

theorem State.QueuesAlike.refl (u : Trunk) (s : State) : s.QueuesAlike u s := ⟨rfl, rfl, rfl, rfl, rfl⟩

theorem State.QueuesAlike.trans {u : Trunk} {s t x : State} (h : s.QueuesAlike u t) (g : t.QueuesAlike u x) : s.QueuesAlike u x :=
  ⟨g.up.trans h.up, g.mgmt.trans h.mgmt, g.video.trans h.video, g.waiting.trans h.waiting, g.cuts.trans h.cuts⟩

/-- The hubs route and close their streams alike. -/
def State.RoutesAlike (s t : State) : Prop :=
  ∀ k, (t.streamRec k).entry = (s.streamRec k).entry ∧ (t.streamRec k).flow.isOpen = (s.streamRec k).flow.isOpen ∧
    (t.streamRec k).flow.frame = (s.streamRec k).flow.frame

theorem Output.control_mgmt (k : Fin 256) (p : Packet) (o : Output) : (o.control k p).1.mgmt = o.mgmt := by
  unfold Output.control
  (repeat' split) <;> rfl

/-- What a picture control packet does at an output follows from its queues. -/
theorem Output.control_congr {o q : Output} (hv : q.video = o.video) (hw : q.waiting = o.waiting) (k : Fin 256) (p : Packet) :
    (q.control k p).1.video = (o.control k p).1.video ∧ (q.control k p).1.waiting = (o.control k p).1.waiting ∧
    (q.control k p).2 = (o.control k p).2 := by
  unfold Output.control
  rw [hv, hw]
  (repeat' split) <;> simp

theorem State.queueCuts_sendControl {s : State} {u : Trunk} (h : s.trunkUp u = true) (k : Fin 256) (p : Packet) :
    (s.sendControl u k p).queueCuts u = if ((s.out u).control k p).2 = 0 then s.queueCuts u
      else bumpTraffic (s.queueCuts u) ((s.out u).control k p).2 := by
  unfold State.sendControl
  rw [if_neg (by simp [h])]
  dsimp only
  split
  · cases u <;> rfl
  · cases u <;> rfl

section
variable {s t : State} {u : Trunk}

/-- What leaves a trunk leaves its queues. -/
theorem State.QueuesAlike.of_trunk {x y : State} (h : s.QueuesAlike u t) (hs : x.trunks.get u = s.trunks.get u)
    (ht : y.trunks.get u = t.trunks.get u) : x.QueuesAlike u y := by
  have key : ∀ {a b : State}, a.trunks.get u = b.trunks.get u → a.trunkUp u = b.trunkUp u ∧ a.out u = b.out u ∧
      a.queueCuts u = b.queueCuts u := fun e => by
    unfold State.trunkUp State.out State.queueCuts
    rw [e]
    exact ⟨rfl, rfl, rfl⟩
  obtain ⟨hup, hout, hcuts⟩ := key hs
  obtain ⟨hup', hout', hcuts'⟩ := key ht
  exact ⟨by rw [hup, hup', h.up], by rw [hout, hout', h.mgmt], by rw [hout, hout', h.video], by rw [hout, hout', h.waiting],
    by rw [hcuts, hcuts', h.cuts]⟩

theorem State.QueuesAlike.sendControl (h : s.QueuesAlike u t) (v : Trunk) (k : Fin 256) (p : Packet) :
    (s.sendControl v k p).QueuesAlike u (t.sendControl v k p) := by
  obtain ⟨hup, hmgmt, hvideo, hwaiting, hcuts⟩ := id h
  by_cases e : u = v
  · subst e
    cases hu : s.trunkUp u with
    | false =>
      rw [State.sendControl_of_down hu, State.sendControl_of_down (hup.trans hu)]
      exact h
    | true =>
      obtain ⟨hv, hw, hn⟩ := Output.control_congr hvideo hwaiting k p
      have hs : (s.sendControl u k p).out u = ((s.out u).control k p).1 := by
        rw [State.out_sendControl, if_pos rfl, State.outAfter, if_pos hu]
      have ht : (t.sendControl u k p).out u = ((t.out u).control k p).1 := by
        rw [State.out_sendControl, if_pos rfl, State.outAfter, if_pos (hup.trans hu)]
      refine ⟨by simpa using hup, ?_, by rw [hs, ht, hv], by rw [hs, ht, hw], ?_⟩
      · rw [hs, ht, Output.control_mgmt, Output.control_mgmt, hmgmt]
      · rw [State.queueCuts_sendControl hu, State.queueCuts_sendControl (hup.trans hu), hn, hcuts]
  · exact h.of_trunk (State.trunk_sendControl_of_ne e s k p) (State.trunk_sendControl_of_ne e t k p)

theorem State.QueuesAlike.sendIfRouted (h : s.QueuesAlike u t) (e : StreamEntry) (v : Trunk) (k : Fin 256) (p : Packet) :
    (s.sendIfRouted e v k p).QueuesAlike u (t.sendIfRouted e v k p) := by
  unfold State.sendIfRouted
  split
  · exact h.sendControl v k p
  · exact h

theorem State.RoutesAlike.closeCut (h : s.RoutesAlike t) (k : Fin 256) : (s.closeCut k).RoutesAlike (t.closeCut k) := by
  intro j
  obtain ⟨he, ho, hf⟩ := h j
  by_cases e : j = k
  · subst e
    rw [State.streamRec_closeCut_self, State.streamRec_closeCut_self]
    exact ⟨he, rfl, hf⟩
  · rw [State.streamRec_closeCut_of_ne s e, State.streamRec_closeCut_of_ne t e]
    exact ⟨he, ho, hf⟩

theorem State.QueuesAlike.closeCut (h : s.QueuesAlike u t) (hr : s.RoutesAlike t) (k : Fin 256) :
    (s.closeCut k).QueuesAlike u (t.closeCut k) := by
  obtain ⟨he, _, hf⟩ := hr k
  have hsent := (h.sendIfRouted (s.streamRec k).entry .ta k (.frameClose k (s.streamRec k).flow.frame .cut)).sendIfRouted
    (s.streamRec k).entry .tb k (.frameClose k (s.streamRec k).flow.frame .cut)
  refine hsent.of_trunk ?_ ?_
  · simp [State.closeCut]
  · rw [← he, ← hf]
    simp [State.closeCut]

/-- Origin loss makes the same of the queues of an output, whatever the cut flags are. -/
theorem State.QueuesAlike.originLoss (h : s.QueuesAlike u t) (hr : s.RoutesAlike t) (p : Port) :
    (s.originLoss p).QueuesAlike u (t.originLoss p) := by
  refine (State.originLoss_alike (R := fun x y => x.QueuesAlike u y ∧ x.RoutesAlike y)
    (fun x y k ⟨hq, hroutes⟩ => ⟨hq.closeCut hroutes k, hroutes.closeCut k⟩) (fun x y k p ⟨_, hroutes⟩ => ?_) ⟨h, hr⟩ p).1
  obtain ⟨he, ho, _⟩ := hroutes k
  simp only [StreamRecord.closesFor, he, ho]

end

/-- Origin loss takes nothing from a management queue. -/
theorem State.mgmt_originLoss (s : State) (p : Port) (u : Trunk) : ((s.originLoss p).out u).mgmt = (s.out u).mgmt := by
  refine State.originLoss_keeps (P := fun x => (x.out u).mgmt = (s.out u).mgmt) (fun x k hx => ?_) rfl p
  rw [State.out_closeCut, ← hx]
  unfold State.outAfter
  (repeat' split)
  · exact Output.control_mgmt _ _ _
  · rfl
  · rfl

theorem State.trunks_sendControl_congr {s t : State} (h : t.trunks = s.trunks) (v : Trunk) (k : Fin 256) (p : Packet) :
    (t.sendControl v k p).trunks = (s.sendControl v k p).trunks := by
  unfold State.sendControl
  rw [State.out_congr h v, show t.trunkUp v = s.trunkUp v by unfold State.trunkUp; rw [h]]
  split
  · exact h
  · dsimp only
    split <;> simp [State.countQueueCuts, h]

theorem State.trunks_sendIfRouted_congr {s t : State} (h : t.trunks = s.trunks) (e : StreamEntry) (v : Trunk) (k : Fin 256) (p : Packet) :
    (t.sendIfRouted e v k p).trunks = (s.sendIfRouted e v k p).trunks := by
  unfold State.sendIfRouted
  split
  · exact State.trunks_sendControl_congr h v k p
  · exact h

/-- Origin loss follows from the streams and the trunks, at the outputs. -/
theorem State.trunks_originLoss_congr {s t : State} (hs : t.streams = s.streams) (ht : t.trunks = s.trunks) (p : Port) :
    (t.originLoss p).trunks = (s.originLoss p).trunks := by
  refine (State.originLoss_alike (R := fun x y => y.streams = x.streams ∧ y.trunks = x.trunks)
    (fun x y k ⟨hstreams, htrunks⟩ => ⟨?_, ?_⟩) (fun x y k p ⟨hstreams, _⟩ => ?_) ⟨hs, ht⟩ p).2
  · rw [State.closeCut_streams, State.closeCut_streams, hstreams]
  · have hk : y.streamRec k = x.streamRec k := State.streamRec_congr hstreams k
    simp only [State.closeCut, hk, State.updFlow_trunks, State.deliver_frame]
    exact State.trunks_sendIfRouted_congr (State.trunks_sendIfRouted_congr htrunks _ _ _ _) _ _ _ _
  · rw [State.streamRec_congr hstreams]

end Sys2Proof.Machine

/-! # Proofs: a LINE that fails where a port is lost, and origin loss after it (R9, R13, R28, R39, R40) -/

namespace Sys2Proof.Machine

/-! ## Changes that reach the switch by cut flags alone -/

/-- From `s` to `t` the stream records change in cut flags alone, and in those only where `spoils` says; the channels and the queues of
the outputs, but that of port `p`, stay. -/
structure State.OnlyCuts (s : State) (p : Port) (spoils : Fin 256 → Trunk → Prop) (t : State) : Prop where
  records : ∀ k, { t.streamRec k with flow := { (t.streamRec k).flow with cut := (s.streamRec k).flow.cut } } = s.streamRec k
  kept : ∀ k u, (s.streamRec k).flow.cut.get u = true → (t.streamRec k).flow.cut.get u = true
  uncut : ∀ k u, ¬spoils k u → (t.streamRec k).flow.cut.get u = (s.streamRec k).flow.cut.get u
  channels : t.channels = s.channels
  queues : ∀ u, .trunk u ≠ p → s.QueuesAlike u t

/-- A stream record with another one's cut flags. -/
theorem StreamRecord.recut_trans {a b c : StreamRecord} (h : { b with flow := { b.flow with cut := a.flow.cut } } = a)
    (g : { c with flow := { c.flow with cut := b.flow.cut } } = b) : { c with flow := { c.flow with cut := a.flow.cut } } = a := by
  rw [← h, ← g]

theorem StreamRecord.recut_keeps {a b : StreamRecord} (h : { b with flow := { b.flow with cut := a.flow.cut } } = a) :
    b.entry = a.entry ∧ b.flow.isOpen = a.flow.isOpen ∧ b.flow.frame = a.flow.frame ∧ b.flow.epoch = a.flow.epoch := by
  rw [← h]
  exact ⟨rfl, rfl, rfl, rfl⟩

section
variable {s t : State} {p : Port} {spoils : Fin 256 → Trunk → Prop}

theorem State.OnlyCuts.refl (s : State) (p : Port) (spoils : Fin 256 → Trunk → Prop) : s.OnlyCuts p spoils s :=
  ⟨fun _ => rfl, fun _ _ h => h, fun _ _ _ => rfl, rfl, fun u _ => .refl u s⟩

theorem State.OnlyCuts.trans {x : State} (h : s.OnlyCuts p spoils t) (g : t.OnlyCuts p spoils x) : s.OnlyCuts p spoils x where
  records k := StreamRecord.recut_trans (h.records k) (g.records k)
  kept k u hu := g.kept k u (h.kept k u hu)
  uncut k u hu := (g.uncut k u hu).trans (h.uncut k u hu)
  channels := g.channels.trans h.channels
  queues u hu := (h.queues u hu).trans (g.queues u hu)

/-- A change that reaches neither streams nor channels nor the other ports' trunks. -/
theorem State.OnlyCuts.of_frame (hs : t.streams = s.streams) (hc : t.channels = s.channels)
    (ht : ∀ u, .trunk u ≠ p → t.trunks.get u = s.trunks.get u) : s.OnlyCuts p spoils t where
  records k := by rw [State.streamRec_congr hs]
  kept k u hu := by rw [State.streamRec_congr hs, hu]
  uncut k u _ := by rw [State.streamRec_congr hs]
  channels := hc
  queues u hu := (State.QueuesAlike.refl u s).of_trunk rfl (ht u hu)

/-- A change of the outputs' transmissions alone. -/
theorem State.OnlyCuts.of_sending (hs : t.streams = s.streams) (hc : t.channels = s.channels) (hq : ∀ u, s.QueuesAlike u t) :
    s.OnlyCuts p spoils t where
  records k := by rw [State.streamRec_congr hs]
  kept k u hu := by rw [State.streamRec_congr hs, hu]
  uncut k u _ := by rw [State.streamRec_congr hs]
  channels := hc
  queues u _ := hq u

theorem State.OnlyCuts.setCut {v : Trunk} {k : Fin 256} (hk : spoils k v) : s.OnlyCuts p spoils (s.setCut v k) where
  records j := by
    by_cases e : j = k
    · subst e
      simp [State.setCut]
    · simp [State.setCut, e]
  kept j u hu := by
    by_cases e : j = k
    · subst e
      cases u <;> cases v <;> simp_all [State.setCut]
    · simpa [State.setCut, e] using hu
  uncut j u hu := by
    by_cases e : j = k
    · subst e
      have hne : u ≠ v := fun e => hu (e ▸ hk)
      simp [State.setCut, hne]
    · simp [State.setCut, e]
  channels := by simp
  queues u _ := (State.QueuesAlike.refl u s).of_trunk rfl (by simp)

theorem State.trunk_updRx_of_ne {u : Trunk} (h : .trunk u ≠ p) (s : State) (f : Receiver → Receiver) :
    (s.updRx p f).trunks.get u = s.trunks.get u := by
  cases p with
  | cam i => rfl
  | trunk v =>
    have e : u ≠ v := fun e => h (congrArg Port.trunk e)
    simp [State.updRx, e]

theorem State.OnlyCuts.updRx (s : State) (p : Port) (f : Receiver → Receiver) (spoils : Fin 256 → Trunk → Prop) :
    s.OnlyCuts p spoils (s.updRx p f) :=
  .of_frame (by simp) (by simp) fun _ hu => State.trunk_updRx_of_ne hu s f

theorem State.QueuesAlike.endCutThrough (u : Trunk) (s : State) (v : Trunk) (tx : Transmission) :
    s.QueuesAlike u (s.endCutThrough p v tx) := by
  unfold State.endCutThrough
  split
  · cases u <;> cases v <;> exact ⟨rfl, rfl, rfl, rfl, rfl⟩
  · exact .refl u s

theorem State.OnlyCuts.endCutThrough (s : State) (v : Trunk) (tx : Transmission) : s.OnlyCuts p spoils (s.endCutThrough p v tx) :=
  .of_sending (by simp) (by simp) fun u => .endCutThrough u s v tx

/-- A LINE that fails sets cut flags of its own stream only (R40). -/
theorem State.OnlyCuts.settleLine_failed {a : LineArrival} (ha : ∀ u, spoils a.stream u) (bytes : List Byte) :
    s.OnlyCuts p spoils (s.settleLine p a .failed bytes) := by
  by_cases h : s.StillOpen a
  · rw [State.settleLine_failed_open h]
    unfold State.spoilCopies
    dsimp only
    (repeat' split)
    · exact (State.OnlyCuts.setCut (ha _)).trans (.setCut (ha _))
    · exact .setCut (ha _)
    · exact .setCut (ha _)
    · exact .refl s p spoils
  · rw [State.settleLine_failed_closed h]
    exact .refl s p spoils

theorem State.OnlyCuts.reportLineEnd_failed (ha : ∀ a u, (s.rx p).arrival = some a → spoils a.stream u) (bytes : List Byte) :
    s.OnlyCuts p spoils (s.reportLineEnd p .failed bytes) := by
  cases h : (s.rx p).arrival with
  | none =>
    rw [State.reportLineEnd_of_none h]
    exact .refl s p spoils
  | some a =>
    rw [State.reportLineEnd_of_some h]
    exact (((State.OnlyCuts.updRx s p _ spoils).trans (.endCutThrough _ _ _)).trans (.endCutThrough _ _ _)).trans
      (.settleLine_failed (fun u => ha a u h) bytes)

theorem State.OnlyCuts.applyDecision {k : Fin 256} (hk : ∀ u, spoils k u) (s : State) (v : Trunk) (d : LineDecision) :
    s.OnlyCuts p spoils (s.applyDecision p k v d) := by
  cases d with
  | discardedDown => exact .setCut (hk v)
  | cutThrough =>
    refine .of_sending rfl rfl fun u => ?_
    cases u <;> cases v <;> exact ⟨rfl, rfl, rfl, rfl, rfl⟩
  | offRoute => exact .refl s p spoils
  | discardedCut => exact .refl s p spoils
  | stored => exact .refl s p spoils

theorem State.OnlyCuts.switchLineHeader {k : Fin 256} (hk : ∀ u, spoils k u) (s : State) (frame line : Nat) :
    s.OnlyCuts p spoils (s.switchLineHeader p k frame line) := by
  rw [State.switchLineHeader_eq]
  exact ((State.OnlyCuts.updRx s p _ spoils).trans (.applyDecision hk _ _ _)).trans (.applyDecision hk _ _ _)

end

/-! ## The LINE in arrival fails -/

/-- What the failing of the LINE in arrival keeps besides: every block but the ports and the stream records, and of a camera port all
but its receiver. -/
structure State.KeepsBlocks (s t : State) : Prop where
  cams : ∀ i, (Tab.get t.cams i).enable = (Tab.get s.cams i).enable ∧ (Tab.get t.cams i).stream = (Tab.get s.cams i).stream ∧
    (Tab.get t.cams i).profile = (Tab.get s.cams i).profile ∧ (Tab.get t.cams i).openFrame = (Tab.get s.cams i).openFrame
  lenses : t.lenses = s.lenses
  orders : t.orders = s.orders
  alerts : t.alerts = s.alerts
  blocks : t.profiles = s.profiles ∧ t.selector = s.selector ∧ t.screens = s.screens ∧ t.views = s.views ∧ t.loader = s.loader ∧
    t.flash = s.flash

/-- The LINE in arrival at `p`, if there is one, has failed, from `s` to `t`. -/
structure State.FailsArrival (s : State) (p : Port) (spoils : Fin 256 → Trunk → Prop) (t : State) : Prop where
  own : (t.rx p).arrival = none ∧ (t.rx p).link = (s.rx p).link ∧ (t.rx p).hold = (s.rx p).hold ∧
    (t.rx p).counters = (s.rx p).counters
  others : ∀ q, q ≠ p → t.rx q = s.rx q
  cuts : s.OnlyCuts p spoils t
  spoiled : ∀ a u, (s.rx p).arrival = some a → s.StillOpen a → a.decisions.get u = .stored →
    (t.streamRec a.stream).flow.cut.get u = true
  ended : s.CuttingHasArrival → ∀ u, (t.out u).sending = if (s.out u).sending = .cutting p then .idle else (s.out u).sending
  keeps : s.KeepsBlocks t

section
variable {s t : State} {p : Port} {spoils : Fin 256 → Trunk → Prop}

theorem State.KeepsBlocks.trans {x : State} (h : s.KeepsBlocks t) (g : t.KeepsBlocks x) : s.KeepsBlocks x where
  cams i := by
    obtain ⟨he, hs, hp, ho⟩ := h.cams i
    obtain ⟨ge, gs, gp, go⟩ := g.cams i
    exact ⟨ge.trans he, gs.trans hs, gp.trans hp, go.trans ho⟩
  lenses := g.lenses.trans h.lenses
  orders := g.orders.trans h.orders
  alerts := g.alerts.trans h.alerts
  blocks := by
    obtain ⟨h₁, h₂, h₃, h₄, h₅, h₆⟩ := h.blocks
    obtain ⟨g₁, g₂, g₃, g₄, g₅, g₆⟩ := g.blocks
    exact ⟨g₁.trans h₁, g₂.trans h₂, g₃.trans h₃, g₄.trans h₄, g₅.trans h₅, g₆.trans h₆⟩

theorem State.KeepsBlocks.updRx (s : State) (p : Port) (f : Receiver → Receiver) : s.KeepsBlocks (s.updRx p f) where
  cams := s.cam_updRx p f
  lenses := by simp
  orders := by simp
  alerts := by simp
  blocks := by simp

theorem State.KeepsBlocks.reportLineEnd_failed (s : State) (p : Port) (bytes : List Byte) :
    s.KeepsBlocks (s.reportLineEnd p .failed bytes) where
  cams i := by
    cases h : (s.rx p).arrival with
    | none => rw [State.reportLineEnd_of_none h]; exact ⟨rfl, rfl, rfl, rfl⟩
    | some a =>
      rw [State.reportLineEnd_of_some h, (State.settleLine_failed_frame ..).1]
      simp
  lenses := by simp
  orders := (s.reportLineEnd_failed_frame p bytes).2.1
  alerts := (s.reportLineEnd_failed_frame p bytes).2.2
  blocks := by simp

theorem State.KeepsBlocks.switchLineHeader (s : State) (p : Port) (k : Fin 256) (frame line : Nat) :
    s.KeepsBlocks (s.switchLineHeader p k frame line) where
  cams i := by
    rw [State.switchLineHeader_eq]
    simp
  lenses := by simp
  orders := by simp
  alerts := by simp
  blocks := by simp

/-- The stored copies of a LINE that fails are spoiled (R40). -/
theorem State.cut_spoilCopies {a : LineArrival} {u : Trunk} (h : a.decisions.get u = .stored) (s : State) :
    ((s.spoilCopies a).streamRec a.stream).flow.cut.get u = true := by
  unfold State.spoilCopies
  dsimp only
  cases u with
  | ta =>
    rw [if_pos (show a.decisions.ta = .stored from h)]
    split <;> simp [State.setCut]
  | tb =>
    rw [if_pos (show a.decisions.tb = .stored from h)]
    simp [State.setCut]

theorem State.FailsArrival.reportLineEnd (ha : ∀ a u, (s.rx p).arrival = some a → spoils a.stream u) (bytes : List Byte) :
    s.FailsArrival p spoils (s.reportLineEnd p .failed bytes) where
  own := by
    rw [State.rx_reportLineEnd_failed, if_pos rfl]
    exact ⟨rfl, rfl, rfl, rfl⟩
  others q hq := by rw [State.rx_reportLineEnd_failed, if_neg hq]
  cuts := .reportLineEnd_failed ha bytes
  spoiled a u h hopen hd := by
    have hrec : ∀ v tx, (((s.updRx p (fun x => { x with arrival := none })).endCutThrough p .ta v).endCutThrough p .tb tx).streamRec
        a.stream = s.streamRec a.stream := fun v tx => State.streamRec_congr (by simp) _
    rw [State.reportLineEnd_of_some h, State.settleLine_failed_open ((State.StillOpen.congr (hrec _ _)).2 hopen)]
    exact State.cut_spoilCopies hd _
  ended hc := (State.reportLineEnd_gone hc .failed bytes).sending
  keeps := .reportLineEnd_failed s p bytes

/-- What comes after, and reaches neither lines nor blocks. -/
theorem State.FailsArrival.updRx (h : s.FailsArrival p spoils t) (f : Receiver → Receiver)
    (hf : (f (t.rx p)).arrival = (t.rx p).arrival ∧ (f (t.rx p)).link = (t.rx p).link ∧ (f (t.rx p)).hold = (t.rx p).hold ∧
      (f (t.rx p)).counters = (t.rx p).counters) : s.FailsArrival p spoils (t.updRx p f) where
  own := by
    obtain ⟨h₁, h₂, h₃, h₄⟩ := h.own
    obtain ⟨f₁, f₂, f₃, f₄⟩ := hf
    rw [State.rx_updRx_self]
    exact ⟨f₁.trans h₁, f₂.trans h₂, f₃.trans h₃, f₄.trans h₄⟩
  others q hq := (State.rx_updRx_of_ne _ _ hq).trans (h.others q hq)
  cuts := h.cuts.trans (.updRx t p f spoils)
  spoiled a u ha ho hd := by
    rw [State.streamRec_congr (t.updRx_frame p f).1]
    exact h.spoiled a u ha ho hd
  ended hc u := (congrArg Output.sending (t.out_updRx p u f)).trans (h.ended hc u)
  keeps := h.keeps.trans (.updRx t p f)

/-- A LINE whose header comes with the command that cuts its packet: the LINE in arrival fails, then this one (entry 5). -/
def State.headerFails (s : State) (p : Port) (bytes : List Byte) : State :=
  (s.takeHeader p (bytes.getD 1 0) (wordAt bytes 2) (wordAt bytes 4)).reportLineEnd p .failed bytes

theorem State.FailsArrival.headerFails {bytes : List Byte} (hn : wordAt bytes 4 ≤ 719)
    (ha : ∀ a u, (s.rx p).arrival = some a → spoils a.stream u) (hk : ∀ u, spoils (s.arrivalStream p (bytes.getD 1 0)) u) :
    s.FailsArrival p spoils (s.headerFails p bytes) := by
  have hfirst : s.FailsArrival p spoils ((s.reportLineEnd p .failed []).setIgnoring p false) :=
    (State.FailsArrival.reportLineEnd ha []).updRx _ ⟨rfl, rfl, rfl, rfl⟩
  unfold State.headerFails
  rw [State.takeHeader_low hn]
  generalize (s.reportLineEnd p .failed []).setIgnoring p false = x at hfirst
  obtain ⟨k, hkey⟩ : ∃ k, s.arrivalStream p (bytes.getD 1 0) = k := ⟨_, rfl⟩
  rw [hkey] at hk ⊢
  have hheader := x.rx_switchLineHeader p p k (wordAt bytes 2) (wordAt bytes 4)
  rw [if_pos rfl] at hheader
  have hlast : x.OnlyCuts p spoils ((x.switchLineHeader p k (wordAt bytes 2) (wordAt bytes 4)).reportLineEnd p .failed bytes) := by
    refine (State.OnlyCuts.switchLineHeader hk x _ _).trans (.reportLineEnd_failed (fun a u harr => ?_) bytes)
    rw [hheader] at harr
    cases harr
    exact hk u
  refine ⟨?_, fun q hq => ?_, hfirst.cuts.trans hlast, fun a u harr ho hd => hlast.kept _ u (hfirst.spoiled a u harr ho hd), fun hc u => ?_, ?_⟩
  · rw [State.rx_reportLineEnd_failed, if_pos rfl, hheader]
    obtain ⟨_, hown⟩ := hfirst.own
    exact ⟨rfl, hown⟩
  · rw [State.rx_reportLineEnd_failed, if_neg hq, State.rx_switchLineHeader, if_neg hq, hfirst.others q hq]
  · have hx : x.CuttingHasArrival := fun v q hv => by
      rw [hfirst.ended hc v] at hv
      split at hv
      next => cases hv
      next hne =>
        rw [hfirst.others q (fun e => hne (e ▸ hv))]
        exact hc v q hv
    have hnone := hfirst.own.1
    have hcutting : (x.switchLineHeader p k (wordAt bytes 2) (wordAt bytes 4)).CuttingHasArrival := fun v q hv => by
      rw [State.switchLineHeader_sending] at hv
      rw [State.rx_switchLineHeader]
      split at hv
      next hd =>
        injection hv with hv
        exact ⟨_, by rw [if_pos hv.symm], hd⟩
      next =>
        obtain ⟨a, harr, hd⟩ := hx v q hv
        have hq : q ≠ p := fun e => by
          rw [e, hnone] at harr
          cases harr
        exact ⟨a, by rw [if_neg hq, harr], hd⟩
    rw [(State.reportLineEnd_gone hcutting .failed bytes).sending u, State.switchLineHeader_sending, ← hfirst.ended hc u]
    have hidle : (x.headerLine p k (wordAt bytes 2) (wordAt bytes 4)).decisions.get u = .cutThrough → (x.out u).sending = .idle := by
      intro hd
      by_cases hb : ∃ n, (x.headerLine p k (wordAt bytes 2) (wordAt bytes 4)).fate = .belongs n
      · obtain ⟨n, hn⟩ := hb
        rw [x.headerLine_belongs p k _ _ hn u] at hd
        obtain ⟨_, _, _, hi, _⟩ := (x.lineDecision_cutThrough u _).1 hd
        exact hi
      · rw [x.headerLine_astray p k _ _ (fun n hn => hb ⟨n, hn⟩) u] at hd
        cases hd
    split
    next hd => rw [if_pos rfl, hidle hd]
    next hd =>
      rw [if_neg]
      intro hs
      obtain ⟨a, harr, _⟩ := hx u p hs
      rw [hnone] at harr
      cases harr
  · exact (hfirst.keeps.trans (.switchLineHeader x p k _ _)).trans (.reportLineEnd_failed _ p bytes)

end

end Sys2Proof.Machine

/-! # Proofs: a link that goes DOWN (R2, R9, R12, R13, R16, R28, R37, R40, R73, entry 10) -/

namespace Sys2Proof.Machine

/-! ## Origin loss after cut flags alone (R13, R28) -/

section
variable {s t : State} {p : Port} {spoils : Fin 256 → Trunk → Prop}

theorem StreamRecord.closesFor_congr {a b : StreamRecord} (h : { b with flow := { b.flow with cut := a.flow.cut } } = a) (p : Port) :
    b.closesFor p = a.closesFor p := by
  obtain ⟨he, ho, _⟩ := StreamRecord.recut_keeps h
  simp only [StreamRecord.closesFor, he, ho]

theorem StreamRecord.closesFor_iff (r : StreamRecord) (p : Port) :
    r.closesFor p = true ↔ r.flow.isOpen = true ∧ r.entry.valid = true ∧ r.entry.origin = p := by
  simp [StreamRecord.closesFor, and_assoc]

/-- The cut flags after origin loss are those before. -/
theorem State.cut_originLoss (s : State) (p : Port) (k : Fin 256) : ((s.originLoss p).streamRec k).flow.cut = (s.streamRec k).flow.cut := by
  rw [State.streamRec_originLoss]
  split <;> rfl

/-- In a consistent hub the entry of a bound stream is valid (R20, R21). -/
theorem State.ChannelsConsistent.valid (h : s.ChannelsConsistent) {c : Fin 12} {k : Fin 256} (hc : (s.channel c).stream = some k) :
    (s.streamRec k).entry.channel = some c ∧ (s.streamRec k).entry.valid = true := by
  obtain ⟨_, hnames, hreset⟩ := h
  have hk := (hnames k c).2 hc
  refine ⟨hk, ?_⟩
  by_contra hv
  rw [hreset k (Bool.eq_false_of_not_eq_true hv)] at hk
  cases hk

theorem State.ChannelsConsistent.bound (h : s.ChannelsConsistent) {c : Fin 12} {k : Fin 256} (hk : (s.streamRec k).entry.channel = some c) :
    (s.channel c).stream = some k := by
  obtain ⟨_, hnames, _⟩ := h
  exact (hnames k c).1 hk

theorem State.OnlyCuts.originLost (h : s.OnlyCuts p spoils t) {ended : Fin 256 → Prop}
    (hs : ∀ k u, spoils k u → ended k ∨ (p = .trunk u ∧ (s.streamRec k).flow.isOpen = true ∧ (s.streamRec k).entry.sendTo.get u = true))
    (hc : ∀ k u, p = .trunk u → (s.streamRec k).flow.isOpen = true → (s.streamRec k).entry.sendTo.get u = true →
      (t.streamRec k).flow.cut.get u = true) : s.OriginLost p ended (t.originLoss p) := by
  have hcloses : ∀ k, (t.streamRec k).closesFor p = (s.streamRec k).closesFor p := fun k =>
    StreamRecord.closesFor_congr (h.records k) p
  have hkeeps := fun k => StreamRecord.recut_keeps (h.records k)
  refine ⟨fun k => ?_, fun k u hp ho hu => ?_, fun k u hk hu => ?_, fun hcc c k hck horigin hopen => ?_, fun hcc c hc => ?_,
    fun u hu => ?_⟩
  · rw [State.streamRec_originLoss, hcloses]
    by_cases hk : (s.streamRec k).closesFor p = true
    · obtain ⟨ho, hv, hg⟩ := (StreamRecord.closesFor_iff _ p).1 hk
      rw [if_pos hk, if_pos ⟨hv, hg⟩]
      conv_rhs => rw [← h.records k]
    · rw [if_neg hk, h.records k]
      split
      next hvalid =>
        have hclosed : (s.streamRec k).flow.isOpen = false :=
          Bool.eq_false_of_not_eq_true fun ho => hk ((StreamRecord.closesFor_iff _ p).2 ⟨ho, hvalid.1, hvalid.2⟩)
        rw [← hclosed]
      next => rfl
  · rw [State.cut_originLoss]
    exact hc k u hp ho hu
  · rw [State.cut_originLoss]
    exact h.uncut k u fun hsp => (hs k u hsp).elim hk hu
  · obtain ⟨hchannel, hvalid⟩ := hcc.valid hck
    obtain ⟨he, _, hframe, _⟩ := hkeeps k
    rw [State.channel_originLoss_of_closes t p c k ((hcloses k).trans ((StreamRecord.closesFor_iff _ p).2 ⟨hopen, hvalid, horigin⟩))
      (by rw [he, hchannel]), hframe, State.channel_congr h.channels]
    intro j hj
    rw [(hkeeps j).1] at hj
    have hj' := hcc.bound hj
    rw [hck] at hj'
    cases hj'
    rfl
  · rw [State.channel_originLoss_of_ne t p c, State.channel_congr h.channels]
    intro k hk hck
    rw [hcloses, StreamRecord.closesFor_iff] at hk
    obtain ⟨ho, _, horigin⟩ := hk
    rw [(hkeeps k).1] at hck
    exact hc k (hcc.bound hck) ⟨horigin, ho⟩
  · have hroutes : s.RoutesAlike t := fun k => by
      obtain ⟨he, ho, hf, _⟩ := hkeeps k
      exact ⟨he, ho, hf⟩
    obtain ⟨_, hmgmt, hvideo, hwaiting, hcuts⟩ := (h.queues u hu).originLoss hroutes p
    exact ⟨hmgmt.trans (s.mgmt_originLoss p u), hvideo, hwaiting, hcuts⟩

/-- What follows origin loss and reaches neither streams, channels nor trunks. -/
theorem State.OriginLost.congr {ended : Fin 256 → Prop} (h : s.OriginLost p ended t) {x : State} (hs : x.streams = t.streams)
    (hc : x.channels = t.channels) (ht : x.trunks = t.trunks) : s.OriginLost p ended x where
  streams k := by rw [State.streamRec_congr hs]; exact h.streams k
  cut k u := by rw [State.streamRec_congr hs]; exact h.cut k u
  uncut k u := by rw [State.streamRec_congr hs]; exact h.uncut k u
  closed hcc c k := by rw [State.channel_congr hc]; exact h.closed hcc c k
  others hcc c := by rw [State.channel_congr hc]; exact h.others hcc c
  outputs u := by rw [State.out_congr ht, ht]; exact h.outputs u

end

/-! ## The open frame of a camera port that is lost (R12, R73, R76) -/

theorem Lens.notJudged_end (v : Verdict) (l : Lens) :
    (l.notJudged v).2 = if l.state = .learning ∧ 254 ≤ l.nonJudged then some .tooDark else none := by
  unfold Lens.notJudged bumpError Config.errorMax
  dsimp only
  by_cases hl : l.state = .learning
  · by_cases hn : 254 ≤ l.nonJudged
    · rw [if_pos hl, if_pos (by omega), if_pos ⟨hl, hn⟩]
    · rw [if_pos hl, if_neg (by omega), if_neg (fun h => hn h.2)]
  · rw [if_neg hl, if_neg (fun h => hl h.1)]

theorem Lens.notJudged_state {l : Lens} (h : l.state ≠ .learning) (v : Verdict) : (l.notJudged v).1.state = l.state := by
  unfold Lens.notJudged
  rw [if_neg h]

/-- An event that leaves the stated grade is seen by no alert entry (R80, R145). -/
theorem State.alerts_lensEvent {s : State} {i : Fin 8} {f : Lens → Lens × Option LearnEnd}
    (h : (f (s.lens i)).1.stated = (s.lens i).stated) : (s.lensEvent i f).alerts = s.alerts := by
  unfold State.lensEvent
  dsimp only
  rw [if_neg (by simp [h])]
  split <;> simp

theorem State.orders_lensEvent {s : State} {i : Fin 8} {f : Lens → Lens × Option LearnEnd}
    (h : (f (s.lens i)).1.stated = (s.lens i).stated) : (s.lensEvent i f).orders =
      (f (s.lens i)).2.elim s.orders (fun e => s.orders.offer (.learnEnd i e)) := by
  rw [State.lensEvent_orders, h]
  cases (f (s.lens i)).2 <;> simp

/-- What the loss of a camera port's frame leaves, from `s` to `t`. -/
structure State.LosesFrame (s : State) (i : Fin 8) (t : State) : Prop where
  camera : (Tab.get t.cams i).openFrame = none ∧ (t.lens i).half = none
  verdict : (Tab.get s.cams i).openFrame.isSome = true → (t.lens i).verdict = some .incomplete ∧ (t.lens i).measure = none
  state : (t.lens i).stated = (s.lens i).stated ∧ ((s.lens i).state ≠ .learning → (t.lens i).state = (s.lens i).state)
  lenses : ∀ j, j ≠ i → t.lens j = s.lens j
  cams : ∀ j, (Tab.get t.cams j).enable = (Tab.get s.cams j).enable ∧ (Tab.get t.cams j).stream = (Tab.get s.cams j).stream ∧
    (Tab.get t.cams j).profile = (Tab.get s.cams j).profile ∧ (Tab.get t.cams j).rx = (Tab.get s.cams j).rx
  others : ∀ j, j ≠ i → Tab.get t.cams j = Tab.get s.cams j
  orders : t.orders = if (Tab.get s.cams i).openFrame.isSome ∧ (s.lens i).state = .learning ∧ 254 ≤ (s.lens i).nonJudged then
    s.orders.offer (.learnEnd i .tooDark) else s.orders
  alerts : t.alerts = s.alerts

theorem State.losesFrame (s : State) (i : Fin 8) : s.LosesFrame i (s.loseCameraFrame i) := by
  cases h : (Tab.get s.cams i).openFrame with
  | none =>
    have hs : s.loseCameraFrame i = s.updLens i (fun l => { l with half := none }) := by
      rw [State.loseCameraFrame, State.endOpenFrame_of_none h]
    rw [hs]
    exact ⟨⟨h, by simp⟩, by simp [h], by simp, fun j hj => by simp [hj], fun j => ⟨rfl, rfl, rfl, rfl⟩, fun j _ => rfl,
      by simp [h], rfl⟩
  | some f =>
    have hsome : (Tab.get s.cams i).openFrame.isSome = true := by simp [h]
    obtain ⟨hverdict, _, hmeasure, hstated⟩ := Lens.notJudged_fields .incomplete { s.lens i with measure := none, half := none }
    have hevent : s.endOpenFrame i false = (s.updCam i (fun c => { c with openFrame := none })).lensEvent i
        (Lens.frameEnd (s.profileOf i) false) := State.endOpenFrame_of_some hsome false
    have hends := Lens.notJudged_end .incomplete { s.lens i with measure := none, half := none }
    have hlens := State.lens_endOpenFrame hsome
    refine ⟨⟨?_, by simp [State.loseCameraFrame]⟩, fun _ => ?_, ⟨?_, fun hl => ?_⟩, fun j hj => ?_, fun j => ?_, fun j hj => ?_, ?_, ?_⟩
    · simp [State.loseCameraFrame, hevent]
    · simp [State.loseCameraFrame, hlens, hverdict, hmeasure]
    · simp [State.loseCameraFrame, hlens, hstated]
    · simpa [State.loseCameraFrame, hlens] using
        Lens.notJudged_state (l := { s.lens i with measure := none, half := none }) hl .incomplete
    · simp [State.loseCameraFrame, hevent, hj]
    · by_cases e : j = i
      · subst e
        simp [State.loseCameraFrame, hevent]
      · simp [State.loseCameraFrame, hevent, e]
    · simp [State.loseCameraFrame, hevent, hj]
    · have hkeep : (Lens.frameEnd (s.profileOf i) false (s.lens i)).1.stated = (s.lens i).stated := by
        rw [Lens.frameEnd_incomplete, hstated]
      rw [State.loseCameraFrame, State.updLens_orders, hevent,
        State.orders_lensEvent (s := s.updCam i (fun c => { c with openFrame := none })) hkeep, State.lens_updCam]
      rw [Lens.frameEnd_incomplete, hends]
      by_cases hd : (s.lens i).state = .learning ∧ 254 ≤ (s.lens i).nonJudged
      · rw [if_pos hd, if_pos ⟨hsome, hd⟩]
        rfl
      · rw [if_neg hd, if_neg (fun g => hd g.2)]
        rfl
    · rw [State.loseCameraFrame, State.updLens_alerts, hevent, State.alerts_lensEvent]
      · rfl
      · rw [Lens.frameEnd_incomplete]
        exact hstated

/-! ## A port that is lost (R12, R13, R37) -/

/-- What a lost port gives up before the switch hears of origin loss: a camera port its frame, a trunk port its output. -/
def State.lostAtPort (s : State) (p : Port) : State :=
  match p with
  | .cam i => s.loseCameraFrame i
  | .trunk t => s.outputLinkDown t

theorem State.portLost_eq (s : State) (p : Port) : s.portLost p = (s.lostAtPort p).originLoss p := rfl

theorem State.streamRec_outputLinkDown (s : State) (u : Trunk) (k : Fin 256) :
    (s.outputLinkDown u).streamRec k = (s.streamRec k).linkLost u := by
  unfold State.outputLinkDown State.streamRec
  simp [Tab.get]

/-- What the loss of its link does to a stream record (R37). -/
theorem StreamRecord.linkLost_cases (r : StreamRecord) (u : Trunk) :
    { r.linkLost u with flow := { (r.linkLost u).flow with cut := r.flow.cut } } = r ∧
    (∀ v, r.flow.cut.get v = true → (r.linkLost u).flow.cut.get v = true) ∧
    (∀ v, ¬(v = u ∧ r.flow.isOpen = true ∧ r.entry.sendTo.get u = true) → (r.linkLost u).flow.cut.get v = r.flow.cut.get v) ∧
    (r.flow.isOpen = true → r.entry.sendTo.get u = true → (r.linkLost u).flow.cut.get u = true) := by
  unfold StreamRecord.linkLost
  by_cases h : r.flow.isOpen = true ∧ r.entry.sendTo.get u = true
  · rw [if_pos (by simp [h])]
    refine ⟨rfl, fun v hv => ?_, fun v hv => ?_, fun _ _ => by simp⟩
    · by_cases e : v = u
      · simp [e]
      · simpa [e] using hv
    · have e : v ≠ u := fun e => hv ⟨e, h⟩
      simp [e]
  · rw [if_neg (by simpa using h)]
    exact ⟨rfl, fun _ hv => hv, fun _ _ => rfl, fun ho hs => absurd ⟨ho, hs⟩ h⟩

theorem State.OnlyCuts.lostAtPort {s : State} {p : Port} {spoils : Fin 256 → Trunk → Prop}
    (h : ∀ k u, p = .trunk u → (s.streamRec k).flow.isOpen = true → (s.streamRec k).entry.sendTo.get u = true → spoils k u) :
    s.OnlyCuts p spoils (s.lostAtPort p) := by
  cases p with
  | cam i => exact .of_frame (by simp [State.lostAtPort]) (by simp [State.lostAtPort]) (by simp [State.lostAtPort])
  | trunk v =>
    refine ⟨fun k => ?_, fun k u hu => ?_, fun k u hu => ?_, by simp [State.lostAtPort], fun u hu => ?_⟩
    · obtain ⟨hrecord, _⟩ := (s.streamRec k).linkLost_cases v
      rw [State.lostAtPort, State.streamRec_outputLinkDown]
      exact hrecord
    · obtain ⟨_, hkept, _⟩ := (s.streamRec k).linkLost_cases v
      rw [State.lostAtPort, State.streamRec_outputLinkDown]
      exact hkept u hu
    · obtain ⟨_, _, huncut, _⟩ := (s.streamRec k).linkLost_cases v
      rw [State.lostAtPort, State.streamRec_outputLinkDown]
      refine huncut u fun ⟨e, ho, hs⟩ => hu ?_
      subst e
      exact h k u rfl ho hs
    · have e : u ≠ v := fun e => hu (congrArg Port.trunk e)
      refine (State.QueuesAlike.refl u s).of_trunk rfl ?_
      simp [State.lostAtPort, State.outputLinkDown, e]

/-- The streams that are open on a lost output's route get their cut flag for it (R37). -/
theorem State.cut_lostAtPort {s : State} {p : Port} {k : Fin 256} {u : Trunk} (hp : p = .trunk u)
    (ho : (s.streamRec k).flow.isOpen = true) (hs : (s.streamRec k).entry.sendTo.get u = true) :
    ((s.lostAtPort p).streamRec k).flow.cut.get u = true := by
  subst hp
  obtain ⟨_, _, _, hcut⟩ := (s.streamRec k).linkLost_cases u
  rw [State.lostAtPort, State.streamRec_outputLinkDown]
  exact hcut ho hs

/-- What a lost port leaves besides streams, channels and the queues of the other outputs, from `s` to `t`. -/
structure State.LosesPort (s : State) (p : Port) (t : State) : Prop where
  rx : ∀ q, t.rx q = s.rx q
  quiet : ∀ u, p = .trunk u → (s.rx p).link = .down → (t.out u).Quiet ∧ (t.trunks.get u).counters = (s.trunks.get u).counters
  trunk : ∀ u, p = .trunk u → t.orders = s.orders
  camera : ∀ i, p = .cam i → s.LosesFrame i t
  lenses : ∀ i, .cam i ≠ p → t.lens i = s.lens i
  sending : ∀ u, .trunk u ≠ p → (t.out u).sending = (s.out u).sending
  alerts : t.alerts = s.alerts
  blocks : t.profiles = s.profiles ∧ t.selector = s.selector ∧ t.screens = s.screens ∧ t.views = s.views ∧ t.loader = s.loader ∧
    t.flash = s.flash

theorem State.LosesFrame.congr {s t x : State} {i : Fin 8} (h : s.LosesFrame i t) (hc : x.cams = t.cams) (hl : x.lenses = t.lenses)
    (ho : x.orders = t.orders) (ha : x.alerts = t.alerts) : s.LosesFrame i x := by
  have hlens : ∀ j, x.lens j = t.lens j := fun j => by
    unfold State.lens
    rw [hl]
  exact ⟨by rw [hc, hlens]; exact h.camera, by rw [hlens]; exact h.verdict, by rw [hlens]; exact h.state,
    fun j hj => (hlens j).trans (h.lenses j hj), by rw [hc]; exact h.cams, by rw [hc]; exact h.others, ho.trans h.orders,
    ha.trans h.alerts⟩

theorem State.losesPort (s : State) (p : Port) : s.LosesPort p (s.portLost p) := by
  have hsame : ∀ x : State, ∀ u, ((x.originLoss p).out u).sending = (x.out u).sending := fun x =>
    ((State.SameLines.refl x).originLoss p).sending
  rw [State.portLost_eq]
  cases p with
  | cam i =>
    have hframe := s.losesFrame i
    refine ⟨fun q => ?_, fun u e => (nomatch e), fun u e => (nomatch e), fun j hj => ?_, fun j hj => ?_, fun u _ => ?_, ?_, ?_⟩
    · rw [State.rx_originLoss, State.lostAtPort, State.loseCameraFrame, State.rx_updLens, State.rx_endOpenFrame]
    · cases hj
      exact hframe.congr (by simp [State.lostAtPort]) (by simp [State.lostAtPort]) (by simp [State.lostAtPort])
        (by simp [State.lostAtPort])
    · have hlens : ((s.lostAtPort (.cam i)).originLoss (.cam i)).lens j = (s.loseCameraFrame i).lens j := by
        simp [State.lens, State.lostAtPort]
      exact hlens.trans (hframe.lenses j (fun e => hj (congrArg Port.cam e)))
    · rw [hsame, State.out_congr (s := s) (by simp [State.lostAtPort])]
    · rw [(State.originLoss_told ..).2]
      exact hframe.alerts
    · simp [State.lostAtPort]
  | trunk v =>
    refine ⟨fun q => ?_, fun u e hd => ?_, fun u _ => ?_, fun i e => (nomatch e), fun i _ => ?_, fun u hu => ?_, ?_, ?_⟩
    · rw [State.rx_originLoss, State.lostAtPort, State.rx_outputLinkDown]
    · cases e
      have hdown : (s.outputLinkDown v).trunkUp v = false := by
        rw [State.trunkUp_eq, State.rx_outputLinkDown, hd]
        rfl
      rw [State.out, State.lostAtPort, State.trunk_originLoss_of_down hdown]
      simp [State.outputLinkDown, Output.Quiet]
    · simp [State.lostAtPort]
    · simp [State.lens, State.lostAtPort]
    · have e : u ≠ v := fun e => hu (congrArg Port.trunk e)
      rw [hsame]
      simp [State.lostAtPort, State.outputLinkDown, State.out, e]
    · simp [State.lostAtPort]
    · simp [State.lostAtPort]

/-! ## The packet that the link's going DOWN cuts (R2, R9) -/

/-- The streams whose LINE a command ends that cuts a packet of these bytes: the LINE in arrival, and the one whose header comes with it. -/
def State.endsStream (s : State) (p : Port) (bytes : List Byte) (k : Fin 256) : Prop :=
  s.arrivesAt p k ∨ (hasLineHeader bytes = true ∧ s.arrivalStream p (bytes.getD 1 0) = k)

section
variable {s : State} {p : Port} {bytes : List Byte}

/-- The LINE in arrival fails, and so does one whose header comes with the fault; then the fault is counted. -/
theorem State.framingFault_counts (hh : ¬(hasLineHeader bytes = true ∧ 719 < wordAt bytes 4)) (cause : FramingCause) :
    ∃ x b, s.framingFault p cause bytes = (x.countFraming p).setIgnoring p b ∧
      s.FailsArrival p (fun k _ => s.endsStream p bytes k) x := by
  have harrives : ∀ a u, (s.rx p).arrival = some a → (fun k (_ : Trunk) => s.endsStream p bytes k) a.stream u :=
    fun a _ ha => .inl ⟨a, ha, rfl⟩
  have hswap : ∀ x : State, (x.countFraming p).reportLineEnd p .failed bytes = (x.reportLineEnd p .failed bytes).countFraming p :=
    fun x => x.updRx_reportLineEnd_failed p (fun x => { x with counters := { x.counters with framing := bumpError x.counters.framing } })
      (fun _ => rfl) (fun _ => rfl) bytes
  have hfails := State.FailsArrival.reportLineEnd (spoils := fun k _ => s.endsStream p bytes k) harrives bytes
  by_cases hl : hasLineHeader bytes = true
  · have hn : wordAt bytes 4 ≤ 719 := Nat.not_lt.1 fun hn => hh ⟨hl, hn⟩
    rw [State.framingFault_low s p hl hn, hswap]
    refine ⟨_, _, rfl, ?_⟩
    by_cases ha : ∃ a, (s.rx p).arrival = some a ∧ HoldsLine p a.stream a.frame a.line bytes
    · obtain ⟨a, ha, hb⟩ := ha
      have harr : ((s.setIgnoring p false).rx p).arrival = some a := by rw [State.setIgnoring, State.rx_updRx_self, ha]
      rw [State.ensureHeader, State.headerTaken_of_holds harr hb, if_pos rfl, State.setIgnoring_reportLineEnd_failed]
      exact hfails.updRx _ ⟨rfl, rfl, rfl, rfl⟩
    · rw [(State.ensureHeader_takeHeader hl hn fun a h hb => ha ⟨a, h, hb⟩).1]
      exact .headerFails hn harrives fun _ => .inr ⟨hl, rfl⟩
  · rw [State.framingFault_plain s p (Bool.eq_false_of_not_eq_true hl), hswap]
    exact ⟨_, _, rfl, hfails⟩

/-- What the port holds of the packet is forgotten when the link is DOWN. -/
theorem State.setIgnoring_dropLink (s : State) (p : Port) (b : Bool) : (s.setIgnoring p b).dropLink p = s.dropLink p := by
  unfold State.dropLink State.setIgnoring
  rw [State.updRx_updRx]

/-- Whether a packet is open at a port that counts and forms it, when the link goes DOWN. -/
def State.openPacket (s : State) (p : Port) (arrived : Option (List Byte)) : Prop :=
  (arrived.isSome = true ∨ (s.rx p).arrival.isSome = true) ∧ s.counts p = true ∧
    ∀ u, (s.rx p).unformed = some u → ¬HoldsLine p u.stream u.frame u.line (arrived.getD [])

theorem State.isOverLongRest_iff (s : State) (p : Port) (bytes : List Byte) :
    s.isOverLongRest p bytes = true ↔ (s.rx p).ignoring = true ∧ 2568 < bytes.length := by
  simp [State.isOverLongRest, Config.longestPacket]

/-- Whether the port counts it, and does not ignore it as the rest of an over-long packet. -/
def State.countsCut (s : State) (p : Port) (arrived : Option (List Byte)) : Prop :=
  s.openPacket p arrived ∧ ¬((s.rx p).ignoring = true ∧ 2568 < (arrived.getD []).length)

theorem State.countsCut_iff (s : State) (p : Port) (arrived : Option (List Byte)) :
    ((arrived.isSome || (s.rx p).arrival.isSome) && s.counts p && !s.isUnformed p (arrived.getD []) &&
      !s.isOverLongRest p (arrived.getD [])) = true ↔ s.countsCut p arrived := by
  rw [State.countsCut, State.openPacket, ← State.isOverLongRest_iff]
  have hu := s.isUnformed_iff p (arrived.getD [])
  cases hb : s.isUnformed p (arrived.getD []) with
  | true =>
    obtain ⟨u, hu', hl⟩ := hu.1 hb
    simp only [Bool.not_true, Bool.and_false, Bool.false_and, Bool.false_eq_true, false_iff]
    exact fun ⟨⟨_, _, hno⟩, _⟩ => hno u hu' hl
  | false =>
    have hno : ∀ u, (s.rx p).unformed = some u → ¬HoldsLine p u.stream u.frame u.line (arrived.getD []) := fun u hu' hl => by
      rw [hu.2 ⟨u, hu', hl⟩] at hb
      cases hb
    simp only [Bool.and_eq_true, Bool.or_eq_true, Bool.not_false, and_true, Bool.not_eq_true', Bool.not_eq_true]
    exact ⟨fun ⟨⟨h₁, h₂⟩, h₃⟩ => ⟨⟨h₁, h₂, hno⟩, h₃⟩, fun ⟨⟨h₁, h₂, _⟩, h₃⟩ => ⟨⟨h₁, h₂⟩, h₃⟩⟩

/-- A link that goes DOWN: the LINE in arrival fails, the open packet is counted, then the port is lost. -/
theorem State.linkDown_counts (hup : (s.rx p).link = .up) (arrived : Option (List Byte)) :
    ∃ x count, s.linkDown p arrived = (x.updArrivals p count).dropLink p ∧
      s.FailsArrival p (fun k _ => s.endsStream p (arrived.getD []) k) x ∧
      (s.countsCut p arrived → hasLineHeader (arrived.getD []) = true ∧ 719 < wordAt (arrived.getD []) 4 →
        ∀ c, count c = { c with shape := min (c.shape + 1) 255 }) ∧
      (s.countsCut p arrived → ¬(hasLineHeader (arrived.getD []) = true ∧ 719 < wordAt (arrived.getD []) 4) →
        ∀ c, count c = { c with framing := min (c.framing + 1) 255 }) ∧
      (¬s.countsCut p arrived → ∀ c, count c = c) := by
  obtain ⟨bytes, hbytes⟩ : ∃ b, arrived.getD [] = b := ⟨_, rfl⟩
  have harrives : ∀ a u, (s.rx p).arrival = some a → (fun k (_ : Trunk) => s.endsStream p bytes k) a.stream u :=
    fun a _ ha => .inl ⟨a, ha, rfl⟩
  have hcounted : ((arrived.isSome || (s.rx p).arrival.isSome) && s.counts p && !s.isUnformed p bytes &&
      !s.isOverLongRest p bytes) = true ↔ s.countsCut p arrived := hbytes ▸ s.countsCut_iff p arrived
  have hdown : s.linkDown p arrived = (if ((arrived.isSome || (s.rx p).arrival.isSome) && s.counts p && !s.isUnformed p bytes &&
      !s.isOverLongRest p bytes) = true then s.framingFault p .idleOrInvalid bytes else s.reportLineEnd p .failed bytes).dropLink p := by
    unfold State.linkDown
    rw [if_pos hup]
    simp only [hbytes]
    rfl
  rw [hbytes, hdown]
  by_cases ho : s.countsCut p arrived
  · rw [if_pos (hcounted.2 ho)]
    by_cases hh : hasLineHeader bytes = true ∧ 719 < wordAt bytes 4
    · rw [State.framingFault_high s p hh.1 hh.2, State.setIgnoring_dropLink]
      exact ⟨_, _, rfl, .reportLineEnd harrives [], fun _ _ _ => rfl, fun _ hn => absurd hh hn, fun hn => absurd ho hn⟩
    · obtain ⟨x, b, hx, hfails⟩ := State.framingFault_counts (s := s) (p := p) hh .idleOrInvalid
      rw [hx, State.setIgnoring_dropLink]
      exact ⟨x, _, rfl, hfails, fun _ hn => absurd hn hh, fun _ _ _ => rfl, fun hn => absurd ho hn⟩
  · rw [if_neg (fun h => ho (hcounted.1 h))]
    have hid : (s.reportLineEnd p .failed bytes).updArrivals p (fun c => c) = s.reportLineEnd p .failed bytes :=
      State.updRx_same _ _ _ rfl
    exact ⟨s.reportLineEnd p .failed bytes, fun c => c, by rw [hid], .reportLineEnd harrives bytes, fun h => absurd h ho,
      fun h => absurd h ho, fun _ _ => rfl⟩

end

/-! ## Origin loss at a lost port, and the LINE that failed there -/

section
variable {s x y t : State} {p : Port} {spoils more : Fin 256 → Trunk → Prop} {ended : Fin 256 → Prop}

theorem State.OnlyCuts.mono (h : s.OnlyCuts p spoils t) (hm : ∀ k u, spoils k u → more k u) :
    s.OnlyCuts p more t :=
  ⟨h.records, h.kept, fun k u hu => h.uncut k u (fun g => hu (hm k u g)), h.channels, h.queues⟩

theorem State.OnlyCuts.portLost (h : s.OnlyCuts p (fun k _ => ended k) y) : s.OriginLost p ended (y.portLost p) := by
  have hkeeps := fun k => StreamRecord.recut_keeps (h.records k)
  have hopen : ∀ k u, (s.streamRec k).flow.isOpen = true → (s.streamRec k).entry.sendTo.get u = true →
      (y.streamRec k).flow.isOpen = true ∧ (y.streamRec k).entry.sendTo.get u = true := fun k u ho hs => by
    obtain ⟨he, hopen, _⟩ := hkeeps k
    exact ⟨hopen.trans ho, by rw [he, hs]⟩
  rw [State.portLost_eq]
  refine ((h.mono fun k u => .inl).trans (.lostAtPort fun k u hp ho hs => .inr ⟨hp, ?_, ?_⟩)).originLost (fun _ _ hk => hk)
    fun k u hp ho hs => State.cut_lostAtPort hp (hopen k u ho hs).1 (hopen k u ho hs).2
  · obtain ⟨_, hopen, _⟩ := hkeeps k
    rw [← hopen, ho]
  · obtain ⟨he, _⟩ := hkeeps k
    rw [← he, hs]

theorem State.FailsArrival.portLost (h : s.FailsArrival p spoils x) (hc : x.OnlyCuts p more y)
    (hs : ∀ u, (y.out u).sending = (x.out u).sending) : s.ArrivalFailed p (y.portLost p) where
  spoiled a u ha ho hd := by
    rw [State.portLost_eq, State.cut_originLoss]
    exact (State.OnlyCuts.lostAtPort (spoils := fun _ _ => True) fun _ _ _ _ _ => trivial).kept _ u
      (hc.kept _ u (h.spoiled a u ha ho hd))
  ended hcut u hu := ((y.losesPort p).sending u hu).trans ((hs u).trans (h.ended hcut u))

theorem State.ArrivalFailed.congr (h : s.ArrivalFailed p t) (hs : x.streams = t.streams) (ht : x.trunks = t.trunks) :
    s.ArrivalFailed p x where
  spoiled a u := by rw [State.streamRec_congr hs]; exact h.spoiled a u
  ended hc u := by rw [State.out_congr ht]; exact h.ended hc u

end

/-! ## The statement -/

/-- The port at the moment its link is DOWN, its packet and LINE dealt with and its notice offered, before its neighbours hear of it. -/
def State.linkDropped (s : State) (p : Port) (count : ArrivalCounters → ArrivalCounters) : State :=
  (s.updRx p (fun x => { x with link := .down, unformed := none, ignoring := false, counters := count x.counters })).offer
    (.link p .up .down)

theorem State.dropLink_updArrivals (s : State) (p : Port) (count : ArrivalCounters → ArrivalCounters) :
    (s.updArrivals p count).dropLink p = (s.linkDropped p count).portLost p := by
  unfold State.dropLink State.linkDropped State.updArrivals
  rw [State.updRx_updRx]

theorem State.linkDropped_frame (s : State) (p : Port) (count : ArrivalCounters → ArrivalCounters) :
    (s.linkDropped p count).orders = s.orders.offer (.link p .up .down) ∧ (s.linkDropped p count).lenses = s.lenses ∧
    (s.linkDropped p count).alerts = s.alerts ∧ (s.linkDropped p count).views = s.views ∧ (s.linkDropped p count).screens = s.screens ∧
    (s.linkDropped p count).selector = s.selector ∧ (s.linkDropped p count).profiles = s.profiles ∧
    (s.linkDropped p count).loader = s.loader ∧ (s.linkDropped p count).flash = s.flash := by
  simp [State.linkDropped]

theorem State.openFrame_linkDropped (s : State) (p : Port) (count : ArrivalCounters → ArrivalCounters) (i : Fin 8) :
    (Tab.get (s.linkDropped p count).cams i).openFrame = (Tab.get s.cams i).openFrame := by
  simp [State.linkDropped]

theorem State.OnlyCuts.linkDropped (s : State) (p : Port) (count : ArrivalCounters → ArrivalCounters)
    (spoils : Fin 256 → Trunk → Prop) : s.OnlyCuts p spoils (s.linkDropped p count) :=
  (State.OnlyCuts.updRx s p _ spoils).trans (.of_frame rfl rfl fun _ _ => rfl)

/-- Settles O16: `State.linkDown_counts` for the packet, `State.losesPort` for the port, `State.OnlyCuts.portLost` for the streams. -/
theorem linkDownLosesThePort : Obligations.LinkDownLosesThePort := by
  intro p arrived s hh
  refine ⟨fun hdown => ?_, fun hup => ?_⟩
  · rw [exec_linkDown hh, State.linkDown, if_neg (by rw [hdown]; exact nofun)]
  · obtain ⟨x, count, hlost, hfails, hshape, hframing, hnone⟩ := State.linkDown_counts hup arrived
    rw [State.dropLink_updArrivals] at hlost
    obtain ⟨horders, hlenses, halerts, hviews, hscreens, hselector, hprofiles, hloader, hflash⟩ := x.linkDropped_frame p count
    have hcuts := State.OnlyCuts.linkDropped x p count
    have hframe := x.openFrame_linkDropped p count
    have hrx : (x.linkDropped p count).rx p =
        { x.rx p with link := .down, unformed := none, ignoring := false, counters := count (x.rx p).counters } := x.rx_updRx_self p _
    have hothers : ∀ q, q ≠ p → (x.linkDropped p count).rx q = x.rx q := fun q hq => State.rx_updRx_of_ne x _ hq
    have hout : ∀ u, (x.linkDropped p count).out u = x.out u := fun u => x.out_updRx p u _
    generalize x.linkDropped p count = y at *
    obtain ⟨hnoLine, _, hhold, hcounters⟩ := hfails.own
    obtain ⟨kprofiles, kselector, kscreens, kviews, kloader, kflash⟩ := hfails.keeps.blocks
    have hlens : ∀ i, y.lens i = s.lens i := fun i => by rw [State.lens, hlenses, hfails.keeps.lenses, ← State.lens]
    have hopened : ∀ i, (Tab.get y.cams i).openFrame = (Tab.get s.cams i).openFrame := fun i => by
      obtain ⟨_, _, _, hkept⟩ := hfails.keeps.cams i
      exact (hframe i).trans hkept
    have hlinked : y.orders = s.orders.offer (.link p .up .down) := by rw [horders, hfails.keeps.orders]
    have hport := y.losesPort p
    obtain ⟨gprofiles, gselector, gscreens, gviews, gloader, gflash⟩ := hport.blocks
    have hcount : ((y.portLost p).rx p).counters = count (s.rx p).counters := by rw [hport.rx, hrx, ← hcounters]
    refine ⟨y.portLost p, ?_⟩
    intro bytes opened high ignored linked
    have hcut : s.countsCut p arrived ↔ opened ∧ ¬ignored := Iff.rfl
    refine ⟨by rw [exec_linkDown hh, hlost], by rw [hport.rx, hrx], by rw [hport.rx, hrx, ← hnoLine], by rw [hport.rx, hrx, ← hhold],
      by rw [hport.rx, hrx], by rw [hport.rx, hrx], fun ho hn hi => ?_, fun hor => ?_, fun ho hn hi => ?_, fun hor => ?_,
      fun u hp => ?_, fun i hp => ?_, ?_, fun i hp => ?_, fun u hp => ?_, ?_, ?_, fun q hq => ?_, fun i hi => ?_, ?_⟩
    · rw [hcount, hframing (hcut.2 ⟨ho, hi⟩) hn]
    · rw [hcount]
      by_cases hc : s.countsCut p arrived
      · obtain ⟨ho, hi⟩ := hcut.1 hc
        have hh : high := hor.elim (fun hno => absurd ho hno) (fun hor => hor.resolve_right hi)
        rw [hshape hc hh]
      · rw [hnone hc]
    · rw [hcount, hshape (hcut.2 ⟨ho, hi⟩) hn]
    · rw [hcount]
      by_cases hc : s.countsCut p arrived
      · obtain ⟨ho, hi⟩ := hcut.1 hc
        have hh : ¬high := hor.elim (fun hno => absurd ho hno) (fun hor => hor.resolve_right hi)
        rw [hframing hc hh]
      · rw [hnone hc]
    · rw [hport.trunk u hp, hlinked]
    · rw [(hport.camera i hp).orders, hopened, hlens, hlinked]
    · rw [hport.alerts, halerts, hfails.keeps.alerts]
    · obtain ⟨hnone, hhalf⟩ := (hport.camera i hp).camera
      exact ⟨hnone, hhalf, fun ho => (hport.camera i hp).verdict (by rw [hopened, ho])⟩
    · exact (hport.quiet u hp (by rw [hrx])).1
    · exact (hfails.cuts.trans (hcuts _)).portLost
    · exact hfails.portLost (hcuts fun _ _ => True) fun u => by rw [hout]
    · rw [hport.rx, hothers q hq, hfails.others q hq]
    · rw [hport.lenses i hi, hlens]
    · exact ⟨gviews.trans (hviews.trans kviews), gscreens.trans (hscreens.trans kscreens), gselector.trans (hselector.trans kselector),
        gprofiles.trans (hprofiles.trans kprofiles), gloader.trans (hloader.trans kloader), gflash.trans (hflash.trans kflash)⟩

end Sys2Proof.Machine

/-! # Proofs: RESTART-PORT (R13, R15, R16, R28, R37, R40, R98, entry 10) -/

namespace Sys2Proof.Machine

/-! ## The LINE in arrival is abandoned (R9, R15) -/

section
variable {s : State} {p : Port}

theorem State.abandonArrival_of_none (h : (s.rx p).arrival = none) : s.abandonArrival p = s := by
  unfold State.abandonArrival
  rw [h]

theorem State.abandonArrival_of_some {a : LineArrival} (h : (s.rx p).arrival = some a) :
    ∃ bytes, s.abandonArrival p =
      ({ s with freeUsed := s.freeUsed + 1 }.reportLineEnd p .failed bytes).markUnformed p ⟨a.stream, a.frame, a.line⟩ := by
  refine ⟨List.replicate 6 0 ++ Config.arrivedTail s.freeUsed, ?_⟩
  unfold State.abandonArrival
  rw [h]

theorem State.FailsArrival.abandonArrival (s : State) (p : Port) :
    s.FailsArrival p (fun k _ => s.arrivesAt p k) (s.abandonArrival p) := by
  have hspoils : ∀ a (u : Trunk), (s.rx p).arrival = some a → (fun k (_ : Trunk) => s.arrivesAt p k) a.stream u :=
    fun a _ ha => ⟨a, ha, rfl⟩
  cases h : (s.rx p).arrival with
  | none =>
    rw [State.abandonArrival_of_none h]
    have hfails := State.FailsArrival.reportLineEnd (spoils := fun k _ => s.arrivesAt p k) hspoils []
    rwa [State.reportLineEnd_of_none h] at hfails
  | some a =>
    obtain ⟨bytes, hs⟩ := State.abandonArrival_of_some h
    obtain ⟨hown, hothers, hcuts, hspoiled, hended, hkeeps⟩ := State.FailsArrival.reportLineEnd
      (s := { s with freeUsed := s.freeUsed + 1 }) (spoils := fun k _ => s.arrivesAt p k) hspoils bytes
    obtain ⟨records, kept, uncut, channels, queues⟩ := hcuts
    obtain ⟨cams, lenses, orders, alerts, blocks⟩ := hkeeps
    rw [hs]
    have hfails : s.FailsArrival p (fun k _ => s.arrivesAt p k) ({ s with freeUsed := s.freeUsed + 1 }.reportLineEnd p .failed bytes) :=
      ⟨hown, hothers, ⟨records, kept, uncut, channels, fun u hu => (queues u hu).of_trunk rfl rfl⟩, hspoiled, hended,
        ⟨cams, lenses, orders, alerts, blocks⟩⟩
    exact hfails.updRx _ ⟨rfl, rfl, rfl, rfl⟩

/-- The rest of an abandoned LINE is not formed. -/
theorem State.unformed_abandonArrival {a : LineArrival} (h : (s.rx p).arrival = some a) :
    ((s.abandonArrival p).rx p).unformed = some ⟨a.stream, a.frame, a.line⟩ := by
  obtain ⟨bytes, hs⟩ := State.abandonArrival_of_some h
  rw [hs, State.markUnformed, State.rx_updRx_self]

/-- What an abandoned LINE counts at an output: the transmission that cuts it through ends, and has been sent (R31, R39). -/
theorem State.trunkCounters_endCutThrough (s : State) (p : Port) (v u : Trunk) (tx : Transmission) :
    ((s.endCutThrough p v tx).trunks.get u).counters = if u = v ∧ (s.out u).sending = .cutting p then
      { (s.trunks.get u).counters with sent := min ((s.trunks.get u).counters.sent + 1) 65535 } else (s.trunks.get u).counters := by
  unfold State.endCutThrough State.endTransmission
  by_cases hv : (s.out v).sending = .cutting p
  · rw [if_pos hv]
    by_cases e : u = v
    · subst e
      rw [if_pos ⟨rfl, hv⟩]
      simp [bumpTraffic, Config.trafficMax]
    · rw [if_neg (fun h => e h.1)]
      simp [e]
  · rw [if_neg hv, if_neg]
    rintro ⟨rfl, h⟩
    exact hv h

theorem State.trunkCounters_abandonArrival (s : State) (p : Port) (u : Trunk) :
    ((s.abandonArrival p).trunks.get u).counters = { (s.trunks.get u).counters with
      sent := if (s.out u).sending = .cutting p ∧ (s.rx p).arrival.isSome = true then min ((s.trunks.get u).counters.sent + 1) 65535
        else (s.trunks.get u).counters.sent } := by
  cases h : (s.rx p).arrival with
  | none =>
    rw [State.abandonArrival_of_none h, if_neg (fun g => nomatch g.2)]
  | some a =>
    obtain ⟨bytes, hs⟩ := State.abandonArrival_of_some h
    have ha : (State.rx { s with freeUsed := s.freeUsed + 1 } p).arrival = some a := h
    rw [hs, State.markUnformed, State.trunkCounters_updRx, State.reportLineEnd_of_some ha, (State.settleLine_failed_frame ..).2.1,
      State.trunkCounters_endCutThrough, State.trunkCounters_endCutThrough, State.endCutThrough_sending, State.out_updRx,
      State.trunkCounters_updRx]
    have hout : ∀ v, State.out { s with freeUsed := s.freeUsed + 1 } v = s.out v := fun _ => rfl
    rw [hout]
    by_cases hc : (s.out u).sending = .cutting p
    · cases u <;> simp [hc]
    · cases u <;> simp [hc]

end

/-! ## The port is held DOWN (R15, R98) -/

theorem Lens.portStopped_spec (l : Lens) : l.portStopped.1.stated = l.stated ∧ l.portStopped.1.state ≠ .learning ∧
    l.portStopped.2 = if l.state = .learning then some .portRestart else none := by
  unfold Lens.portStopped
  by_cases h : l.state = .learning
  · rw [if_pos h, if_pos h]
    exact ⟨rfl, nofun, rfl⟩
  · rw [if_neg h, if_neg h]
    exact ⟨rfl, h, rfl⟩

/-- A learning that is abandoned offers LEARN-END, and no alert entry sees it (R98). -/
theorem State.stopLens_spec (s : State) (i : Fin 8) : (s.stopLens i).lens i = (s.lens i).portStopped.1 ∧
    (∀ j, j ≠ i → (s.stopLens i).lens j = s.lens j) ∧
    (s.stopLens i).orders = (if (s.lens i).state = .learning then s.orders.offer (.learnEnd i .portRestart) else s.orders) ∧
    (s.stopLens i).alerts = s.alerts := by
  obtain ⟨hstated, _, hend⟩ := (s.lens i).portStopped_spec
  refine ⟨s.lens_lensEvent_self i _, fun j hj => s.lens_lensEvent_of_ne _ hj, ?_, State.alerts_lensEvent hstated⟩
  rw [State.stopLens, State.orders_lensEvent hstated, hend]
  split <;> rfl

theorem State.offerIf_orders (s : State) (b : Bool) (n : Notice) :
    (s.offerIf b n).orders = if b = true then s.orders.offer n else s.orders := by
  cases b <;> rfl

theorem State.rx_clearErrors (s : State) (p q : Port) : (s.clearErrors p).rx q = if q = p then
    { s.rx p with counters := { (s.rx p).counters with framing := 0, check := 0, shape := 0 } } else s.rx q := by
  cases p with
  | cam i => exact s.rx_updRx (.cam i) q _
  | trunk u => exact (State.rx_updTrunkCounters ..).trans (s.rx_updRx (.trunk u) q _)

/-- The port is held DOWN, its error counters are 0, and a link that was UP is told of (R15, R16). -/
def State.holdDown (s : State) (p : Port) (wasUp : Bool) : State :=
  ((s.updRx p (fun x => { x with link := .down, hold := some Config.holdTime, ignoring := false })).clearErrors p).offerIf
    wasUp (.link p .up .down)

/-- A camera port's learning is abandoned (R98). -/
def State.stopAt (s : State) (p : Port) : State :=
  match p with
  | .cam i => s.stopLens i
  | .trunk _ => s

theorem State.restartPort_eq (s : State) (p : Port) :
    s.restartPort p = (((s.abandonArrival p).holdDown p (decide ((s.rx p).link = .up))).stopAt p).portLost p := by
  cases p <;> rfl

section
variable (s : State) (p : Port) (wasUp : Bool)

theorem State.rx_holdDown (q : Port) : (s.holdDown p wasUp).rx q = if q = p then { s.rx p with
    link := .down, hold := some 2, ignoring := false
    counters := { (s.rx p).counters with framing := 0, check := 0, shape := 0 } } else s.rx q := by
  have hoffer : (s.holdDown p wasUp).rx q = ((s.updRx p (fun x => { x with
      link := .down, hold := some Config.holdTime, ignoring := false })).clearErrors p).rx q :=
    State.rx_congr (State.offerIf_frame ..).1 (State.offerIf_frame ..).2.1 q
  rw [hoffer, State.rx_clearErrors, State.rx_updRx_self, State.rx_updRx]
  split <;> rfl

theorem State.trunk_holdDown (u : Trunk) : (s.holdDown p wasUp).out u = s.out u ∧ ((s.holdDown p wasUp).trunks.get u).counters =
    if p = .trunk u then { (s.trunks.get u).counters with poisoned := 0 } else (s.trunks.get u).counters := by
  have hoffer : (s.holdDown p wasUp).trunks = ((s.updRx p (fun x => { x with
      link := .down, hold := some Config.holdTime, ignoring := false })).clearErrors p).trunks := (State.offerIf_frame ..).2.1
  rw [State.out_congr hoffer, hoffer]
  cases p with
  | cam i => exact ⟨rfl, rfl⟩
  | trunk v => cases u <;> cases v <;> exact ⟨rfl, rfl⟩

theorem State.OnlyCuts.holdDown (spoils : Fin 256 → Trunk → Prop) : s.OnlyCuts p spoils (s.holdDown p wasUp) := by
  refine .of_frame (by simp [State.holdDown]) (by simp [State.holdDown]) fun u hu => ?_
  have hoffer : (s.holdDown p wasUp).trunks = ((s.updRx p (fun x => { x with
      link := .down, hold := some Config.holdTime, ignoring := false })).clearErrors p).trunks := (State.offerIf_frame ..).2.1
  rw [hoffer]
  cases p with
  | cam i => rfl
  | trunk v =>
    have e : u ≠ v := fun e => hu (congrArg Port.trunk e)
    simp [State.clearErrors, State.updArrivals, State.updRx, e]

theorem State.holdDown_frame : (s.holdDown p wasUp).orders = (if wasUp = true then s.orders.offer (.link p .up .down) else s.orders) ∧
    (s.holdDown p wasUp).lenses = s.lenses ∧ (s.holdDown p wasUp).alerts = s.alerts ∧ (s.holdDown p wasUp).views = s.views ∧
    (s.holdDown p wasUp).screens = s.screens ∧ (s.holdDown p wasUp).selector = s.selector ∧
    (s.holdDown p wasUp).profiles = s.profiles ∧ (s.holdDown p wasUp).loader = s.loader ∧ (s.holdDown p wasUp).flash = s.flash := by
  simp [State.holdDown, State.offerIf_orders]

theorem State.enable_holdDown (i : Fin 8) : (Tab.get (s.holdDown p wasUp).cams i).enable = (Tab.get s.cams i).enable := by
  unfold State.holdDown State.clearErrors
  cases p <;> simp

theorem State.stopAt_frame : (s.stopAt p).cams = s.cams ∧ (s.stopAt p).trunks = s.trunks ∧ (s.stopAt p).streams = s.streams ∧
    (s.stopAt p).channels = s.channels ∧ (s.stopAt p).alerts = s.alerts ∧ (s.stopAt p).views = s.views ∧
    (s.stopAt p).screens = s.screens ∧ (s.stopAt p).selector = s.selector ∧ (s.stopAt p).profiles = s.profiles ∧
    (s.stopAt p).loader = s.loader ∧ (s.stopAt p).flash = s.flash := by
  cases p with
  | cam i =>
    obtain ⟨_, _, _, halerts⟩ := s.stopLens_spec i
    simp [State.stopAt, halerts]
  | trunk u => simp [State.stopAt]

end

/-! ## The statement -/

theorem State.rx_replied (s : State) (i : Fin 2) (o : HeldOrder) (a : Answer) (q : Port) : (s.replied i o a).rx q = s.rx q :=
  State.rx_congr rfl rfl q

theorem State.replied_orders_congr {s t : State} {u : OrderUnit} (h : t.orders = u) (i : Fin 2) (o : HeldOrder) (a : Answer) :
    (t.replied i o a).orders = ({ s with orders := u }.replied i o a).orders := by
  subst h
  rfl

/-- The ports that a byte names (R15). -/
theorem portOf_eq_some {b : Byte} {p : Port}
    (h : (∃ j : Fin 8, p = .cam j ∧ b.toNat = j.val) ∨ (p = .trunk .ta ∧ b = 8) ∨ (p = .trunk .tb ∧ b = 9)) :
    portOf (byteAt [b] 0) = some p := by
  rcases h with ⟨j, rfl, hj⟩ | ⟨rfl, rfl⟩ | ⟨rfl, rfl⟩
  · have hsome : instanceOf 8 (byteAt [b] 0) = some j := instanceOf_eq_some hj.symm
    unfold portOf
    rw [hsome]
  · rfl
  · rfl

theorem State.Executes.exec_restartPort {s : State} {i : Fin 2} {o : HeldOrder} {b : Byte} (h : s.Executes i o 4 [b])
    {r : State × Answer} (hr : restartPortEffect [b] s = r) : exec .restartPort s = .next (r.1.replied i o r.2) := by
  subst hr
  rw [exec_of_running h.running]
  exact congrArg _ (h.runOrder (by decide) rfl restartPortEffect)

/-- Settles O17: the hold by `State.rx_holdDown`, the port by `State.losesPort`, the streams by `State.OnlyCuts.portLost`. -/
theorem restartPortHoldsTheLinkDown : Obligations.RestartPortHoldsTheLinkDown := by
  intro s i o b h
  refine ⟨fun hb => ?_, fun p hp => ?_⟩
  · refine h.exec_restartPort (r := (s, .refused .badField)) ?_
    have hnone : portOf (byteAt [b] 0) = none := portOf_eq_none.2 (show 9 < b.toNat by omega)
    unfold restartPortEffect
    rw [hnone]
  · have hexec := h.exec_restartPort (r := (s.restartPort p, .done false)) (by unfold restartPortEffect; rw [portOf_eq_some hp])
    rw [State.restartPort_eq] at hexec
    have hfails := State.FailsArrival.abandonArrival s p
    have hcounters := s.trunkCounters_abandonArrival p
    have hunformed := fun a => State.unformed_abandonArrival (s := s) (p := p) (a := a)
    generalize s.abandonArrival p = x at *
    generalize hwas : decide ((s.rx p).link = .up) = wasUp at hexec
    have hrx := x.rx_holdDown p wasUp
    have htrunk := x.trunk_holdDown p wasUp
    have hcuts := State.OnlyCuts.holdDown x p wasUp
    have henable := x.enable_holdDown p wasUp
    obtain ⟨horders, hlenses, halerts, hviews, hscreens, hselector, hprofiles, hloader, hflash⟩ := x.holdDown_frame p wasUp
    generalize x.holdDown p wasUp = y at *
    obtain ⟨fcams, ftrunks, fstreams, fchannels, falerts, fviews, fscreens, fselector, fprofiles, floader, fflash⟩ := y.stopAt_frame p
    have hport := (y.stopAt p).losesPort p
    have hrxs : ∀ q, ((y.stopAt p).portLost p).rx q = y.rx q := fun q => (hport.rx q).trans (State.rx_congr fcams ftrunks q)
    obtain ⟨gprofiles, gselector, gscreens, gviews, gloader, gflash⟩ := hport.blocks
    obtain ⟨kprofiles, kselector, kscreens, kviews, kloader, kflash⟩ := hfails.keeps.blocks
    obtain ⟨hnoLine, _, _, hxcounters⟩ := hfails.own
    have hstop : ∀ spoils, y.OnlyCuts p spoils (y.stopAt p) := fun spoils =>
      .of_frame fstreams fchannels fun u _ => by rw [ftrunks]
    have hlinked : y.orders = if (s.rx p).link = .up then s.orders.offer (.link p .up .down) else s.orders := by
      rw [horders, hfails.keeps.orders, ← hwas]
      simp
    have hlens : ∀ j, y.lens j = s.lens j := fun j => by rw [State.lens, hlenses, hfails.keeps.lenses, ← State.lens]
    obtain ⟨t, ht⟩ : ∃ t, (y.stopAt p).portLost p = t := ⟨_, rfl⟩
    rw [ht] at hexec hport hrxs gprofiles gselector gscreens gviews gloader gflash
    refine ⟨t.replied i o (.done false), ?_⟩
    intro linked stopped
    have hstopped : t.orders = stopped := by
      cases p with
      | cam j =>
        obtain ⟨hlensJ, _, hordersJ, _⟩ := y.stopLens_spec j
        have hnot : ((y.stopLens j).lens j).state ≠ .learning := by
          rw [hlensJ]
          exact (Lens.portStopped_spec _).2.1
        rw [(hport.camera j rfl).orders, if_neg (fun g => hnot g.2.1)]
        show (y.stopLens j).orders = _
        rw [hordersJ, hlens, hlinked]
      | trunk u => rw [hport.trunk u rfl]; exact hlinked
    refine ⟨hexec, ?_, ?_, ?_, fun a ha => ?_, ?_, ?_, ?_, fun u hu => ?_, fun j hj => ?_, ?_, ?_, fun q hq => ?_, by simp, ?_, ?_⟩
    · rw [State.rx_replied, hrxs, hrx, if_pos rfl]
    · rw [State.rx_replied, hrxs, hrx, if_pos rfl]
    · rw [State.rx_replied, hrxs, hrx, if_pos rfl, ← hnoLine]
    · rw [State.rx_replied, hrxs, hrx, if_pos rfl, ← hunformed a ha]
    · exact State.replied_orders_congr hstopped i o _
    · exact hport.alerts.trans (falerts.trans (halerts.trans hfails.keeps.alerts))
    · rw [State.rx_replied, hrxs, hrx, if_pos rfl, hxcounters]
    · obtain ⟨hquiet, hcount⟩ := hport.quiet u hu (by rw [State.rx_congr fcams ftrunks, hrx, if_pos rfl])
      refine ⟨hquiet, hcount.trans ?_⟩
      rw [ftrunks, (htrunk u).2, if_pos hu, hcounters]
    · subst hj
      obtain ⟨hlensJ, _⟩ := y.stopLens_spec j
      obtain ⟨hstated, hnot, _⟩ := (s.lens j).portStopped_spec
      obtain ⟨⟨hopen, hhalf⟩, _, ⟨hkeeps, hstate⟩, _, hcams, _⟩ := hport.camera j rfl
      have hstopJ : ((y.stopAt (.cam j)).lens j) = (s.lens j).portStopped.1 := hlensJ.trans (by rw [hlens])
      rw [hstopJ] at hkeeps hstate
      refine ⟨hopen, hhalf, ?_, hkeeps.trans hstated, ?_⟩
      · exact fun e => hnot ((hstate hnot).symm.trans e)
      · rw [(State.replied_frame ..).1, (hcams j).1, fcams, henable, (hfails.keeps.cams j).1]
    · exact ((ht ▸ ((hfails.cuts.trans (hcuts _)).trans (hstop _)).portLost).congr rfl rfl rfl)
    · refine State.ArrivalFailed.congr (t := t) ?_ rfl rfl
      rw [← ht]
      refine hfails.portLost ((hcuts fun _ _ => True).trans (hstop _)) fun u => ?_
      rw [State.out_congr ftrunks, (htrunk u).1]
    · rw [State.rx_replied, hrxs, hrx, if_neg hq, hfails.others q hq]
    · rw [State.replied_queue, List.getLast?_concat, h.hasCode]
    · exact ⟨gviews.trans (fviews.trans (hviews.trans kviews)), gscreens.trans (fscreens.trans (hscreens.trans kscreens)),
        gselector.trans (fselector.trans (hselector.trans kselector)), gprofiles.trans (fprofiles.trans (hprofiles.trans kprofiles)),
        gloader.trans (floader.trans (hloader.trans kloader)), gflash.trans (fflash.trans (hflash.trans kflash))⟩

end Sys2Proof.Machine

/-! # Proofs: SET-PORT (R10, R13, R14, R28, R95, R97, R98, entry 12) -/

namespace Sys2Proof.Machine

/-! ## A changed profile (R95, R97) -/

theorem Lens.scaleChanged_spec (l : Lens) : l.scaleChanged.1.state = .unlearned ∧ l.scaleChanged.1.half = none ∧
    (l.state = .assessing → l.scaleChanged.1.stated = .unjudged ∧ l.scaleChanged.1.baselines = .zero) ∧
    (l.state ≠ .assessing → l.scaleChanged.1.stated = l.stated) ∧
    l.scaleChanged.2 = if l.state = .learning then some .profileChanged else none := by
  unfold Lens.scaleChanged
  cases l.state <;> simp [Lens.unlearn]

/-- A changed profile offers GRADE for an ASSESSING lens that is judged, LEARN-END for a LEARNING one (R95, R97). -/
theorem State.orders_scaleChanged (s : State) (i : Fin 8) : (s.lensEvent i Lens.scaleChanged).orders =
    if (s.lens i).state = .assessing ∧ (s.lens i).stated ≠ .unjudged then s.orders.offer (.grade i (s.lens i).stated .unjudged 0)
    else if (s.lens i).state = .learning then s.orders.offer (.learnEnd i .profileChanged) else s.orders := by
  obtain ⟨hstate, _, hassessing, hother, hend⟩ := (s.lens i).scaleChanged_spec
  by_cases ha : (s.lens i).state = .assessing
  · obtain ⟨hstated, _⟩ := hassessing ha
    have hshare : gradeShare (s.lens i) (s.lens i).scaleChanged.1 = 0 := by simp [gradeShare, hstate]
    rw [ha] at hend
    rw [State.lensEvent_orders, hend, hshare, hstated, ha]
    simp
  · rw [State.orders_lensEvent (hother ha), hend]
    by_cases hl : (s.lens i).state = .learning
    · simp [hl]
    · simp [ha, hl]

/-- The evaluation of the alert entries of a port depends on the entries and on what they watch (R145). -/
theorem State.alertsOfPort_congr {s t : State} (ha : t.alerts = s.alerts)
    (hc : ∀ c : Fin 12, (t.channel c).state = (s.channel c).state ∧ (t.channel c).grade = (s.channel c).grade)
    (hl : ∀ p : Fin 8, (t.lens p).stated = (s.lens p).stated) (i : Fin 8) : (t.alertsOfPort i).alerts = (s.alertsOfPort i).alerts := by
  have hdemand : ∀ a, t.demandOf a = s.demandOf a := fun a => State.memberCalls_congr a (fun c _ => hc c) (fun p _ => hl p)
  simp only [State.alertsOfPort, State.evalAlertsWhere, ha, hdemand]

/-- The alert entries see an event at a lens record where its stated grade changes (R80, R145). -/
theorem State.alerts_lensEvent_eq (s : State) (i : Fin 8) (f : Lens → Lens × Option LearnEnd) : (s.lensEvent i f).alerts =
    if (f (s.lens i)).1.stated = (s.lens i).stated then s.alerts
    else ((s.updLens i (fun _ => (f (s.lens i)).1)).alertsOfPort i).alerts := by
  by_cases h : (f (s.lens i)).1.stated = (s.lens i).stated
  · rw [if_pos h, State.alerts_lensEvent h]
  · have hne : (s.lens i).stated ≠ (f (s.lens i)).1.stated := fun e => h e.symm
    have hoffered : ∀ (x : State) (e : Option LearnEnd),
        State.alerts (match e with | some e => x.offer (.learnEnd i e) | none => x) = x.alerts := fun x e => by cases e <;> rfl
    rw [if_neg h]
    unfold State.lensEvent
    dsimp only
    rw [if_pos hne]
    refine Eq.trans (hoffered _ _) (State.alertsOfPort_congr (by simp) (fun c => ?_) (fun p => ?_) i)
    · simp [State.channel]
    · simp [State.lens]

/-! ## What the alert entries watch, over origin loss -/

theorem State.members_originLoss (s : State) (p : Port) (c : Fin 12) :
    ((s.originLoss p).channel c).state = (s.channel c).state ∧ ((s.originLoss p).channel c).grade = (s.channel c).grade := by
  refine State.originLoss_keeps (P := fun x => (x.channel c).state = (s.channel c).state ∧ (x.channel c).grade = (s.channel c).grade)
    (fun x k ⟨hstate, hgrade⟩ => ?_) ⟨rfl, rfl⟩ p
  rw [State.channel_closeCut]
  split
  · obtain ⟨ks, kg⟩ := Channel.frameClose_cut_keeps (x.streamRec k).flow.frame (x.channel c)
    exact ⟨ks.trans hstate, kg.trans hgrade⟩
  · exact ⟨hstate, hgrade⟩

/-! ## The fields stored, and the enable or the stream number changed (R10, R13, R14, R98) -/

/-- SET-PORT turns the port off. -/
abbrev State.turnsOff (s : State) (p : Fin 8) (enable : Bool) : Prop := (Tab.get s.cams p).enable = true ∧ enable = false

/-- SET-PORT is origin loss. -/
abbrev State.losesOrigin (s : State) (p : Fin 8) (enable : Bool) (stream : Fin 256) : Prop :=
  (Tab.get s.cams p).enable = true ∧ (enable = false ∨ (Tab.get s.cams p).stream ≠ stream)

/-- The hub with the three fields stored. -/
def State.storePort (s : State) (p : Fin 8) (enable : Bool) (stream : Fin 256) (profile : Fin 4) : State :=
  s.updCam p (fun c => { c with enable := enable, stream := stream, profile := profile })

/-- The hub when the change of the enable or of the stream number has had its effects. -/
def State.enableStored (s : State) (p : Fin 8) (enable : Bool) (stream : Fin 256) (profile : Fin 4) : State :=
  if (Tab.get s.cams p).enable && !enable then (s.storePort p enable stream profile).disablePort p
  else if (Tab.get s.cams p).enable && (Tab.get s.cams p).stream ≠ stream then (s.storePort p enable stream profile).originLoss (.cam p)
  else s.storePort p enable stream profile

/-- What it has made of the hub, from `s` to `t`. -/
structure State.EnableDone (s : State) (p : Fin 8) (enable : Bool) (stream : Fin 256) (profile : Fin 4) (t : State) : Prop where
  stored : (Tab.get t.cams p).enable = enable ∧ (Tab.get t.cams p).stream = stream ∧ (Tab.get t.cams p).profile = profile
  kept : (Tab.get t.cams p).rx.link = (Tab.get s.cams p).rx.link ∧ (Tab.get t.cams p).rx.counters = (Tab.get s.cams p).rx.counters
  on : ¬s.turnsOff p enable → (Tab.get t.cams p).rx = (Tab.get s.cams p).rx ∧ t.lens p = s.lens p
  off : s.turnsOff p enable → (Tab.get t.cams p).openFrame = none ∧ (Tab.get t.cams p).rx.arrival = none ∧ (t.lens p).half = none ∧
    ∀ a, (Tab.get s.cams p).rx.arrival = some a → (Tab.get t.cams p).rx.unformed = some ⟨a.stream, a.frame, a.line⟩
  lens : (t.lens p).stated = (s.lens p).stated ∧ (t.lens p).state =
    if s.turnsOff p enable ∧ (s.lens p).state = .learning then .unlearned else (s.lens p).state
  others : ∀ j, j ≠ p → Tab.get t.cams j = Tab.get s.cams j ∧ t.lens j = s.lens j
  still : ¬s.losesOrigin p enable stream → t.streams = s.streams ∧ t.channels = s.channels ∧ t.trunks = s.trunks
  lost : s.losesOrigin p enable stream → s.OriginLost (.cam p) (fun k => s.turnsOff p enable ∧ s.arrivesAt (.cam p) k) t
  failed : s.turnsOff p enable → s.ArrivalFailed (.cam p) t
  renamed : s.losesOrigin p enable stream → ¬s.turnsOff p enable → ∀ u, t.out u = (s.originLoss (.cam p)).out u
  orders : t.orders = if s.turnsOff p enable ∧ (s.lens p).state = .learning then s.orders.offer (.learnEnd p .portRestart) else s.orders
  alerts : t.alerts = s.alerts
  members : ∀ c, (t.channel c).state = (s.channel c).state ∧ (t.channel c).grade = (s.channel c).grade
  blocks : t.profiles = s.profiles ∧ t.selector = s.selector ∧ t.screens = s.screens ∧ t.views = s.views ∧ t.loader = s.loader ∧
    t.flash = s.flash

section
variable (s : State) (p : Fin 8) (enable : Bool) (stream : Fin 256) (profile : Fin 4)

theorem State.rx_storePort (q : Port) : (s.storePort p enable stream profile).rx q = s.rx q := State.rx_updCam_of_eq rfl q

theorem State.storePort_frame : (s.storePort p enable stream profile).trunks = s.trunks ∧
    (s.storePort p enable stream profile).streams = s.streams ∧ (s.storePort p enable stream profile).channels = s.channels :=
  ⟨rfl, rfl, rfl⟩

theorem State.OnlyCuts.storePort (spoils : Fin 256 → Trunk → Prop) :
    s.OnlyCuts (.cam p) spoils (s.storePort p enable stream profile) := .of_frame rfl rfl fun _ _ => rfl

theorem State.storePort_done (h : ¬s.losesOrigin p enable stream) :
    s.EnableDone p enable stream profile (s.storePort p enable stream profile) := by
  have hoff : ¬s.turnsOff p enable := fun ⟨he, hd⟩ => h ⟨he, .inl hd⟩
  refine ⟨by simp [State.storePort], by simp [State.storePort], fun _ => ⟨by simp [State.storePort], rfl⟩, fun g => absurd g hoff,
    ⟨rfl, by rw [if_neg (fun g => hoff g.1)]; rfl⟩, fun j hj => ⟨by simp [State.storePort, hj], rfl⟩, fun _ => ⟨rfl, rfl, rfl⟩,
    fun g => absurd g h, fun g => absurd g hoff, fun g => absurd g h, by rw [if_neg (fun g => hoff g.1)]; rfl, rfl,
    fun _ => ⟨rfl, rfl⟩, by simp [State.storePort]⟩

theorem State.renamed_done (h : s.losesOrigin p enable stream) (hoff : ¬s.turnsOff p enable) :
    s.EnableDone p enable stream profile ((s.storePort p enable stream profile).originLoss (.cam p)) := by
  have hlens : ∀ j, ((s.storePort p enable stream profile).originLoss (.cam p)).lens j = s.lens j := fun j => by
    simp [State.lens, State.storePort]
  refine ⟨by simp [State.storePort], by simp [State.storePort], fun _ => ⟨by simp [State.storePort], hlens p⟩, fun g => absurd g hoff,
    ⟨by rw [hlens], by rw [if_neg (fun g => hoff g.1), hlens]⟩, fun j hj => ⟨by simp [State.storePort, hj], hlens j⟩, fun g => absurd h g,
    fun _ => ?_, fun g => absurd g hoff, fun _ _ u => ?_, ?_, ?_, fun c => ?_, by simp [State.storePort]⟩
  · exact (State.OnlyCuts.storePort s p enable stream profile fun _ _ => False).originLost (fun _ _ g => g.elim) (fun _ _ e => nomatch e)
  · have htrunks : ((s.storePort p enable stream profile).originLoss (.cam p)).trunks = (s.originLoss (.cam p)).trunks :=
      State.trunks_originLoss_congr (State.storePort_frame ..).2.1 (State.storePort_frame ..).1 (.cam p)
    exact State.out_congr htrunks u
  · rw [if_neg (fun g => hoff g.1)]
    simp [State.storePort]
  · simp [State.storePort]
  · obtain ⟨ks, kg⟩ := (s.storePort p enable stream profile).members_originLoss (.cam p) c
    rw [State.channel_congr (State.storePort_frame ..).2.2] at ks kg
    exact ⟨ks, kg⟩

theorem Lens.portStopped_state (l : Lens) : l.portStopped.1.state = if l.state = .learning then .unlearned else l.state := by
  unfold Lens.portStopped
  split <;> rfl

theorem State.disablePort_eq (i : Fin 8) : s.disablePort i = ((s.abandonArrival (.cam i)).stopLens i).portLost (.cam i) := rfl

theorem CameraPort.ext_of {a b : CameraPort} (hr : a.rx = b.rx) (h : a.enable = b.enable ∧ a.stream = b.stream ∧ a.profile = b.profile ∧
    a.openFrame = b.openFrame) : a = b := by
  obtain ⟨he, hs, hp, ho⟩ := h
  cases a
  cases b
  simp_all

theorem State.ArrivalFailed.storePort {t : State} (h : (s.storePort p enable stream profile).ArrivalFailed (.cam p) t) :
    s.ArrivalFailed (.cam p) t where
  spoiled a u ha ho hd := h.spoiled a u ((congrArg Receiver.arrival (s.rx_storePort p enable stream profile _)).trans ha)
    ((State.StillOpen.congr (State.streamRec_congr (State.storePort_frame ..).2.1 _)).2 ho) hd
  ended hc u hu := by
    refine h.ended (fun v q hv => ?_) u hu
    rw [State.rx_storePort]
    exact hc v q hv

theorem State.disabled_done (h : s.turnsOff p enable) :
    s.EnableDone p enable stream profile ((s.storePort p enable stream profile).disablePort p) := by
  have hstore := State.OnlyCuts.storePort s p enable stream profile
  have hrx := s.rx_storePort p enable stream profile
  have hfields : ∀ j, j ≠ p → Tab.get (s.storePort p enable stream profile).cams j = Tab.get s.cams j := fun j hj => by
    simp [State.storePort, hj]
  have hown : (Tab.get (s.storePort p enable stream profile).cams p).enable = enable ∧
      (Tab.get (s.storePort p enable stream profile).cams p).stream = stream ∧
      (Tab.get (s.storePort p enable stream profile).cams p).profile = profile := by simp [State.storePort]
  have hblocks : (s.storePort p enable stream profile).lenses = s.lenses ∧ (s.storePort p enable stream profile).orders = s.orders ∧
      (s.storePort p enable stream profile).alerts = s.alerts ∧ (s.storePort p enable stream profile).profiles = s.profiles ∧
      (s.storePort p enable stream profile).selector = s.selector ∧ (s.storePort p enable stream profile).screens = s.screens ∧
      (s.storePort p enable stream profile).views = s.views ∧ (s.storePort p enable stream profile).loader = s.loader ∧
      (s.storePort p enable stream profile).flash = s.flash := by simp [State.storePort]
  have hfailed : ∀ t, (s.storePort p enable stream profile).ArrivalFailed (.cam p) t → s.ArrivalFailed (.cam p) t := fun t ht =>
    State.ArrivalFailed.storePort s p enable stream profile ht
  generalize s.storePort p enable stream profile = z at *
  obtain ⟨hlenses, horders, halerts, hprofiles, hselector, hscreens, hviews, hloader, hflash⟩ := hblocks
  have hfails := State.FailsArrival.abandonArrival z (.cam p)
  have hunformed := fun a => State.unformed_abandonArrival (s := z) (p := .cam p) (a := a)
  rw [State.disablePort_eq]
  generalize z.abandonArrival (.cam p) = x at *
  obtain ⟨hstop, hstopOthers, hstopOrders, hstopAlerts⟩ := x.stopLens_spec p
  have hframe := x.stopLens_frame p
  generalize x.stopLens p = y at *
  obtain ⟨ycams, ytrunks, ystreams, ychannels, yprofiles, yselector, yscreens, yviews, yloader, yflash, _⟩ := hframe
  have hport := y.losesPort (.cam p)
  have hcuts : ∀ spoils, x.OnlyCuts (.cam p) spoils y := fun spoils => .of_frame ystreams ychannels fun u _ => by rw [ytrunks]
  have hlost : s.OriginLost (.cam p) (fun k => s.turnsOff p enable ∧ s.arrivesAt (.cam p) k) (y.portLost (.cam p)) := by
    refine (((hstore _).trans hfails.cuts).mono (fun k u hk => ?_) |>.trans (hcuts _)).portLost
    obtain ⟨a, ha, hk⟩ := hk
    exact ⟨h, a, (congrArg Receiver.arrival (hrx _)).symm.trans ha, hk⟩
  have hlens : ∀ j, x.lens j = s.lens j := fun j => by rw [State.lens, hfails.keeps.lenses, hlenses, ← State.lens]
  obtain ⟨hnoLine, hlink, _, hcounters⟩ := hfails.own
  have hrxs : ∀ q, (y.portLost (.cam p)).rx q = x.rx q := fun q => (hport.rx q).trans (State.rx_congr ycams ytrunks q)
  have hrxp : (Tab.get (y.portLost (.cam p)).cams p).rx = x.rx (.cam p) := hrxs (.cam p)
  obtain ⟨⟨hopen, hhalf⟩, _, ⟨hstated, hstate⟩, _, hcams, hothers, hnotice, _⟩ := hport.camera p rfl
  obtain ⟨pstated, pnot, _⟩ := (s.lens p).portStopped_spec
  have hy : y.lens p = (s.lens p).portStopped.1 := by rw [hstop, hlens]
  rw [hy] at hstated hstate
  have hstored : ∀ j, (Tab.get (y.portLost (.cam p)).cams j).enable = (Tab.get z.cams j).enable ∧
      (Tab.get (y.portLost (.cam p)).cams j).stream = (Tab.get z.cams j).stream ∧
      (Tab.get (y.portLost (.cam p)).cams j).profile = (Tab.get z.cams j).profile := fun j => by
    obtain ⟨he, hs, hp, _⟩ := hcams j
    obtain ⟨ke, ks, kp, _⟩ := hfails.keeps.cams j
    rw [he, hs, hp, ycams, ke, ks, kp]
    exact ⟨rfl, rfl, rfl⟩
  obtain ⟨henable, hstream, hprofile⟩ := hstored p
  obtain ⟨oenable, ostream, oprofile⟩ := hown
  obtain ⟨gprofiles, gselector, gscreens, gviews, gloader, gflash⟩ := hport.blocks
  obtain ⟨kprofiles, kselector, kscreens, kviews, kloader, kflash⟩ := hfails.keeps.blocks
  refine ⟨⟨henable.trans oenable, hstream.trans ostream, hprofile.trans oprofile⟩, ⟨?_, ?_⟩, fun g => absurd h g, fun _ => ?_, ⟨?_, ?_⟩,
    fun j hj => ⟨?_, ?_⟩, fun g => absurd ⟨h.1, .inl h.2⟩ g, fun _ => hlost, fun _ => hfailed _ ?_, fun _ g => absurd h g, ?_, ?_,
    fun c => ?_, ?_⟩
  · rw [hrxp, hlink, hrx]
    rfl
  · rw [hrxp, hcounters, hrx]
    rfl
  · refine ⟨hopen, by rw [hrxp, hnoLine], hhalf, fun a ha => ?_⟩
    rw [hrxp]
    exact hunformed a ((congrArg Receiver.arrival (hrx _)).trans ha)
  · exact hstated.trans pstated
  · rw [hstate pnot, Lens.portStopped_state]
    by_cases hl : (s.lens p).state = .learning
    · rw [if_pos hl, if_pos ⟨h, hl⟩]
    · rw [if_neg hl, if_neg (fun g => hl g.2)]
  · rw [hothers j hj, ycams, ← hfields j hj]
    exact CameraPort.ext_of (hfails.others (.cam j) fun e => hj (Port.cam.inj e)) (hfails.keeps.cams j)
  · rw [hport.lenses j fun e => hj (Port.cam.inj e), hstopOthers j hj, hlens]
  · refine hfails.portLost (hcuts fun _ _ => True) fun u => ?_
    rw [State.out_congr ytrunks]
  · rw [hnotice, if_neg fun g => pnot (hy ▸ g.2.1), hstopOrders, hlens, hfails.keeps.orders, horders]
    by_cases hl : (s.lens p).state = .learning
    · rw [if_pos hl, if_pos ⟨h, hl⟩]
    · rw [if_neg hl, if_neg (fun g => hl g.2)]
  · rw [hport.alerts, hstopAlerts, hfails.keeps.alerts, halerts]
  · have hchannels : (y.lostAtPort (.cam p)).channels = s.channels := by
      rw [(State.OnlyCuts.lostAtPort (spoils := fun _ _ => True) fun _ _ _ _ _ => trivial).channels, ychannels, hfails.cuts.channels,
        (hstore fun _ _ => True).channels]
    rw [State.portLost_eq, ← State.channel_congr hchannels c]
    exact State.members_originLoss _ _ c
  · exact ⟨gprofiles.trans (yprofiles.trans (kprofiles.trans hprofiles)), gselector.trans (yselector.trans (kselector.trans hselector)),
      gscreens.trans (yscreens.trans (kscreens.trans hscreens)), gviews.trans (yviews.trans (kviews.trans hviews)),
      gloader.trans (yloader.trans (kloader.trans hloader)), gflash.trans (yflash.trans (kflash.trans hflash))⟩

theorem State.enableStored_done : s.EnableDone p enable stream profile (s.enableStored p enable stream profile) := by
  unfold State.enableStored
  by_cases hoff : s.turnsOff p enable
  · rw [if_pos (by simpa using hoff)]
    exact s.disabled_done p enable stream profile hoff
  · rw [if_neg (by simpa using hoff)]
    by_cases hlost : s.losesOrigin p enable stream
    · obtain ⟨he, hor⟩ := hlost
      have hne : (Tab.get s.cams p).stream ≠ stream := hor.resolve_left fun hd => hoff ⟨he, hd⟩
      rw [if_pos (by simp [he, hne])]
      exact s.renamed_done p enable stream profile ⟨he, hor⟩ hoff
    · rw [if_neg (fun g => hlost ?_)]
      · exact s.storePort_done p enable stream profile hlost
      · simp only [Bool.and_eq_true, decide_eq_true_eq] at g
        exact ⟨g.1, .inr g.2⟩

end

/-! ## The profile changed -/

/-- The hub when a change of the profile has had its effects. -/
def State.profileStored (s : State) (p : Fin 8) (moved : Bool) : State := if moved then s.lensEvent p Lens.scaleChanged else s

section
variable (s : State) (p : Fin 8) (moved : Bool)

theorem State.profileStored_frame : (s.profileStored p moved).cams = s.cams ∧ (s.profileStored p moved).trunks = s.trunks ∧
    (s.profileStored p moved).streams = s.streams ∧ (s.profileStored p moved).channels = s.channels ∧
    (s.profileStored p moved).profiles = s.profiles ∧ (s.profileStored p moved).selector = s.selector ∧
    (s.profileStored p moved).screens = s.screens ∧ (s.profileStored p moved).views = s.views ∧
    (s.profileStored p moved).loader = s.loader ∧ (s.profileStored p moved).flash = s.flash := by
  cases moved <;> simp [State.profileStored]

theorem State.lens_profileStored (j : Fin 8) : (s.profileStored p moved).lens j =
    if j = p ∧ moved = true then (s.lens p).scaleChanged.1 else s.lens j := by
  cases moved with
  | false => simp [State.profileStored]
  | true =>
    by_cases e : j = p
    · subst e
      simp [State.profileStored]
    · simp [State.profileStored, e]

theorem State.orders_profileStored : (s.profileStored p moved).orders =
    if moved = true ∧ (s.lens p).state = .assessing ∧ (s.lens p).stated ≠ .unjudged then
      s.orders.offer (.grade p (s.lens p).stated .unjudged 0)
    else if moved = true ∧ (s.lens p).state = .learning then s.orders.offer (.learnEnd p .profileChanged) else s.orders := by
  cases moved with
  | false => simp [State.profileStored]
  | true => simpa [State.profileStored] using s.orders_scaleChanged p

theorem State.alerts_profileStored : (s.profileStored p moved).alerts =
    if ((s.profileStored p moved).lens p).stated = (s.lens p).stated then s.alerts
    else ((s.updLens p (fun _ => (s.profileStored p moved).lens p)).alertsOfPort p).alerts := by
  cases moved with
  | false => simp [State.profileStored]
  | true => simpa [State.profileStored] using s.alerts_lensEvent_eq p Lens.scaleChanged

theorem State.AlertsFollowMembers.profileStored {s : State} (h : s.AlertsFollowMembers) (p : Fin 8) (moved : Bool) :
    (s.profileStored p moved).AlertsFollowMembers := by
  cases moved
  · exact h
  · exact h.lensEvent p _

end

/-! ## The statement -/

theorem flagOf_none {n : Nat} (h0 : n ≠ 0) (h1 : n ≠ 1) : flagOf n = none := by
  match n with
  | 0 => exact absurd rfl h0
  | 1 => exact absurd rfl h1
  | n + 2 => rfl

theorem readSetPort_none {b e k f : Byte} (h : 8 ≤ b.toNat ∨ ¬(e = 0 ∨ e = 1) ∨ 4 ≤ f.toNat) : readSetPort [b, e, k, f] = none := by
  unfold readSetPort
  rcases h with h | h | h
  · have hport : instanceOf 8 (byteAt [b, e, k, f] 0) = none := instanceOf_eq_none h
    rw [hport]
    rfl
  · have hflag : flagOf (byteAt [b, e, k, f] 1) = none := by
      refine flagOf_none (fun h0 => h (.inl (BitVec.eq_of_toNat_eq h0))) (fun h1 => h (.inr (BitVec.eq_of_toNat_eq h1)))
    rw [hflag]
    cases instanceOf 8 (byteAt [b, e, k, f] 0) <;> rfl
  · have hprofile : instanceOf 4 (byteAt [b, e, k, f] 3) = none := instanceOf_eq_none h
    rw [hprofile]
    cases instanceOf 8 (byteAt [b, e, k, f] 0) <;> cases flagOf (byteAt [b, e, k, f] 1) <;> rfl

theorem readSetPort_some (p : Fin 8) (enable : Bool) (stream : Fin 256) (profile : Fin 4) :
    readSetPort [BitVec.ofNat 8 p.val, if enable then 1 else 0, BitVec.ofFin stream, BitVec.ofNat 8 profile.val] =
      some ⟨p, enable, stream, profile⟩ := by
  have hport : instanceOf 8 (byteAt [BitVec.ofNat 8 p.val, if enable then 1 else 0, BitVec.ofFin stream, BitVec.ofNat 8 profile.val] 0) =
      some p := instanceOf_eq_some (by simp [byteAt]; omega)
  have hprofile : instanceOf 4
      (byteAt [BitVec.ofNat 8 p.val, if enable then 1 else 0, BitVec.ofFin stream, BitVec.ofNat 8 profile.val] 3) = some profile :=
    instanceOf_eq_some (by simp [byteAt]; omega)
  unfold readSetPort
  rw [hport, hprofile]
  cases enable <;> rfl

theorem State.Executes.exec_setPort {s : State} {i : Fin 2} {o : HeldOrder} {b e k f : Byte} (h : s.Executes i o 3 [b, e, k, f])
    {r : State × Answer} (hr : setPortEffect [b, e, k, f] s = r) : exec .setPort s = .next (r.1.replied i o r.2) := by
  subst hr
  rw [exec_of_running h.running]
  exact congrArg _ (h.runOrder (by decide) rfl setPortEffect)

theorem State.streamClash_iff (s : State) (i : Fin 8) (k : Fin 256) : s.streamClash i k = true ↔
    ∃ j, j ≠ i ∧ (Tab.get s.cams j).enable = true ∧ (Tab.get s.cams j).stream = k := by
  simp [State.streamClash, and_assoc]

/-- What an accepted SET-PORT does (R14): the fields, the effects of the enable, those of the profile (entry 12). -/
theorem setPortEffect_some {s : State} {ps : List Byte} {p : Fin 8} {enable : Bool} {stream : Fin 256} {profile : Fin 4}
    (h : readSetPort ps = some ⟨p, enable, stream, profile⟩)
    (hc : enable = false ∨ ∀ j, j ≠ p → (Tab.get s.cams j).enable = true → (Tab.get s.cams j).stream ≠ stream) :
    setPortEffect ps s =
      ((s.enableStored p enable stream profile).profileStored p ((Tab.get s.cams p).profile ≠ profile), .done false) := by
  unfold setPortEffect
  rw [h]
  dsimp only
  rw [if_neg]
  · unfold State.profileStored State.enableStored
    simp only [decide_eq_true_eq]
    rfl
  · rw [Bool.and_eq_true, State.streamClash_iff]
    rintro ⟨he, j, hj, hon, hs⟩
    rcases hc with hoff | hno
    · rw [hoff] at he
      cases he
    · exact hno j hj hon hs

/-- Settles O18: the enable's effects by `State.enableStored_done`, the profile's by `Lens.scaleChanged_spec`. -/
theorem setPortStoresFields : Obligations.SetPortStoresFields := by
  intro s i o
  refine ⟨fun b e k f h hbad => ?_, fun p enable stream profile h => ⟨fun hon hclash => ?_, fun hfree => ?_⟩⟩
  · exact h.exec_setPort (r := (s, .refused .badField)) (by unfold setPortEffect; rw [readSetPort_none hbad])
  · refine h.exec_setPort (r := (s, .refused .inUse)) ?_
    unfold setPortEffect
    rw [readSetPort_some]
    dsimp only
    rw [if_pos]
    rw [Bool.and_eq_true, State.streamClash_iff]
    exact ⟨hon, hclash⟩
  · have hexec := h.exec_setPort (setPortEffect_some (readSetPort_some p enable stream profile) hfree)
    have hdone := s.enableStored_done p enable stream profile
    generalize s.enableStored p enable stream profile = x at hexec hdone
    obtain ⟨m, hm⟩ : ∃ m : Bool, decide ((Tab.get s.cams p).profile ≠ profile) = m := ⟨_, rfl⟩
    rw [hm] at hexec
    obtain ⟨fcams, ftrunks, fstreams, fchannels, fprofiles, fselector, fscreens, fviews, floader, fflash⟩ := x.profileStored_frame p m
    have hlens := x.lens_profileStored p m
    have horders := x.orders_profileStored p m
    have halerts := x.alerts_profileStored p m
    have hfollow := fun hx : x.AlertsFollowMembers => hx.profileStored p m
    generalize x.profileStored p m = t at *
    have hmoved : m = true ↔ (Tab.get s.cams p).profile ≠ profile := by rw [← hm]; simp
    refine ⟨t.replied i o (.done false), ?_⟩
    intro lost off moved stopped told
    obtain ⟨hstated, hstate⟩ := hdone.lens
    obtain ⟨hscaled, hhalf, hassessing, _⟩ := (x.lens p).scaleChanged_spec
    have hassess : (x.lens p).state = .assessing ↔ (s.lens p).state = .assessing := by
      rw [hstate]
      split
      next g => simp [g.2]
      next => rfl
    have hlearning : (x.lens p).state = .learning ↔ (s.lens p).state = .learning ∧ ¬s.turnsOff p enable := by
      rw [hstate]
      split
      next g => simp [g.1]
      next g => exact ⟨fun hl => ⟨hl, fun ho => g ⟨ho, hl⟩⟩, fun hl => hl.1⟩
    obtain ⟨gprofiles, gselector, gscreens, gviews, gloader, gflash⟩ := hdone.blocks
    have hout : ∀ u, t.out u = x.out u := State.out_congr ftrunks
    obtain ⟨senable, sstream, sprofile⟩ := hdone.stored
    obtain ⟨hlink, hcounters⟩ := hdone.kept
    rw [(State.replied_frame ..).1, fcams]
    refine ⟨hexec, senable, sstream, sprofile, hlink, hcounters, fun hon hoff => ?_, fun hon => ?_, fun hne => ?_, fun he hp => ?_,
      fun j hj => ?_, fun hl => ?_, fun hl => ?_, fun ho => ?_, fun hl ho u => ?_, ?_, ?_, fun hs => ?_, ?_⟩
    · obtain ⟨hopen, harrival, hxhalf, hunformed⟩ := hdone.off ⟨hon, hoff⟩
      refine ⟨hopen, harrival, ?_, ?_, hunformed⟩
      · show (t.lens p).half = none
        rw [hlens]
        split
        · exact hhalf
        · exact hxhalf
      · show (t.lens p).state ≠ .learning
        rw [hlens]
        split
        · rw [hscaled]
          exact nofun
        · exact fun g => (hlearning.1 g).2 ⟨hon, hoff⟩
    · exact (hdone.on fun g => by rw [hon] at g; cases g.2).1
    · have htp : t.lens p = (x.lens p).scaleChanged.1 := (hlens p).trans (if_pos ⟨rfl, hmoved.2 hne⟩)
      show (t.lens p).state = .unlearned ∧ (t.lens p).half = none ∧
        ((s.lens p).state = .assessing → (t.lens p).stated = .unjudged ∧ (t.lens p).baselines = .zero)
      rw [htp]
      exact ⟨hscaled, hhalf, fun ha => hassessing (hassess.2 ha)⟩
    · have htp : t.lens p = x.lens p := (hlens p).trans (if_neg fun g => hmoved.1 g.2 hp)
      exact htp.trans (hdone.on fun g => by rw [← he] at g; exact Bool.noConfusion (g.1.symm.trans g.2)).2
    · obtain ⟨hcam, hlensJ⟩ := hdone.others j hj
      exact ⟨hcam, (hlens j).trans ((if_neg fun g => hj g.1).trans hlensJ)⟩
    · obtain ⟨hstreams, hchannels, htrunks⟩ := hdone.still hl
      exact ⟨fstreams.trans hstreams, fchannels.trans hchannels, ftrunks.trans htrunks⟩
    · exact (hdone.lost hl).congr fstreams fchannels ftrunks
    · exact (hdone.failed ho).congr fstreams ftrunks
    · exact (hout u).trans (hdone.renamed hl ho u)
    · refine State.replied_orders_congr ?_ i o _
      rw [horders, hstated, hdone.orders]
      by_cases ha : moved ∧ (s.lens p).state = .assessing ∧ (s.lens p).stated ≠ .unjudged
      · obtain ⟨hmv, has, hju⟩ := ha
        rw [if_pos ⟨hmoved.2 hmv, hassess.2 has, hju⟩]
        exact (if_pos ⟨hmv, has, hju⟩).symm
      · rw [if_neg fun ⟨g₁, g₂, g₃⟩ => ha ⟨hmoved.1 g₁, hassess.1 g₂, g₃⟩]
        refine Eq.trans ?_ (if_neg ha).symm
        by_cases hl : moved ∧ ¬off ∧ (s.lens p).state = .learning
        · obtain ⟨hmv, hno, hle⟩ := hl
          rw [if_pos ⟨hmoved.2 hmv, hlearning.2 ⟨hle, hno⟩⟩]
          exact (if_pos ⟨hmv, hno, hle⟩).symm
        · rw [if_neg fun ⟨g₁, g₂⟩ => hl ⟨hmoved.1 g₁, (hlearning.1 g₂).2, (hlearning.1 g₂).1⟩]
          exact (if_neg hl).symm
    · show t.alerts = if (t.lens p).stated = (s.lens p).stated then s.alerts
        else ((s.updLens p (fun _ => t.lens p)).alertsOfPort p).alerts
      rw [halerts, hstated, hdone.alerts]
      split
      · rfl
      · refine State.alertsOfPort_congr (s := s.updLens p (fun _ => t.lens p)) (t := x.updLens p (fun _ => t.lens p)) hdone.alerts
          hdone.members (fun q => ?_) p
        by_cases hq : q = p
        · subst hq
          simp
        · rw [State.lens_updLens_of_ne _ _ hq, State.lens_updLens_of_ne _ _ hq, (hdone.others q hq).2]
    · refine State.AlertsFollowMembers.congr (s := t) (hfollow ?_) rfl (fun _ => ⟨rfl, rfl⟩) (fun _ => rfl)
      refine hs.congr hdone.alerts hdone.members fun q => ?_
      by_cases hq : q = p
      · rw [hq, hstated]
      · rw [(hdone.others q hq).2]
    · exact ⟨fprofiles.trans gprofiles, fviews.trans gviews, fscreens.trans gscreens, fselector.trans gselector,
        floader.trans gloader, fflash.trans gflash⟩

end Sys2Proof.Machine

/-! # Proofs: one channel and its slots (R42 to R46, R48, R49, R53, R56, R57, R59 to R61)

A channel is consistent in three parts: what its binding says of its state, age and intake; what its slots say of each other; and the
ranges of its settings. Each operation of a channel keeps all three. -/

namespace Sys2Proof.Machine

/-- What the slots of a channel say of its intake and of each other (R44, R53). -/
structure SlotsConsistent (intake : Intake) (slot : Fin 3 → Slot) : Prop where
  filling : ∀ i, (slot i).state = .filling ↔ ∃ f, intake = .filling i f
  frame : ∀ i f, intake = .filling i f → (slot i).frame = f
  stored : ∀ i, (slot i).state = .stored ↔ ((slot i).newest = true ∨ (slot i).readers ≠ 0)
  newest : ∀ i j, (slot i).newest = true → (slot j).newest = true → i = j
  missing : ∀ i, (slot i).state = .stored → (slot i).missing.length ≤ 15

/-- What the binding of a channel says of its state, its age and its intake (R45, R46, R59, R60). -/
structure Channel.BindingConsistent (c : Channel) : Prop where
  bound : c.stream = none ↔ c.state = .unbound
  running : c.age.running = true ↔ (c.state = .waiting ∨ c.state = .live ∨ c.state = .stale)
  unbound : c.stream = none → c.intake = .none ∧ c.grade = .unjudged ∧ c.home = none ∧ ∀ i, (c.slot i).newest = false

/-- The ranges of a channel's settings and of its age (R43, R59). -/
structure Channel.InRange (c : Channel) : Prop where
  patch : c.patch ≤ 15
  staleLow : 40 ≤ c.staleTime
  staleHigh : c.staleTime ≤ 2000
  lostLow : c.staleTime + 10 ≤ c.lostTime
  lostHigh : c.lostTime ≤ 10000
  age : c.age.ms ≤ 10000

theorem Channel.consistent_iff (c : Channel) :
    c.Consistent ↔ c.BindingConsistent ∧ SlotsConsistent c.intake c.slot ∧ c.InRange := by
  constructor
  · rintro ⟨hb, hr, hu, hf, hn, hs, hw, hm, hp, hsl, hsh, hll, hlh, ha⟩
    exact ⟨⟨hb, hr, hu⟩, ⟨hf, hn, hs, hw, hm⟩, ⟨hp, hsl, hsh, hll, hlh, ha⟩⟩
  · rintro ⟨⟨hb, hr, hu⟩, ⟨hf, hn, hs, hw, hm⟩, ⟨hp, hsl, hsh, hll, hlh, ha⟩⟩
    exact ⟨hb, hr, hu, hf, hn, hs, hw, hm, hp, hsl, hsh, hll, hlh, ha⟩

/-! ## Slots that become FREE -/

@[simp] theorem Slot.freeIfUnheld_frame (sl : Slot) : sl.freeIfUnheld.frame = sl.frame ∧ sl.freeIfUnheld.missing = sl.missing ∧
    sl.freeIfUnheld.newest = sl.newest ∧ sl.freeIfUnheld.readers = sl.readers ∧ sl.freeIfUnheld.good = sl.good ∧
    sl.freeIfUnheld.rows = sl.rows := by
  unfold Slot.freeIfUnheld
  split <;> simp

/-- A slot that is held only while STORED is STORED exactly while it is held, once it is freed if it is not (R44). -/
theorem Slot.freeIfUnheld_state {sl : Slot} (h : sl.newest = true ∨ sl.readers ≠ 0 → sl.state = .stored) :
    (sl.freeIfUnheld.state = .stored ↔ sl.newest = true ∨ sl.readers ≠ 0) ∧
    (sl.freeIfUnheld.state = .filling ↔ sl.state = .filling) ∧ (sl.freeIfUnheld.state = .stored → sl.state = .stored) := by
  unfold Slot.freeIfUnheld
  split
  · next hf =>
    simp only [Bool.and_eq_true, decide_eq_true_eq, Bool.not_eq_true'] at hf
    obtain ⟨⟨hs, hn⟩, hr⟩ := hf
    simp [hs, hn, hr]
  · next hf =>
    refine ⟨⟨fun hs => ?_, h⟩, Iff.rfl, id⟩
    by_contra hno
    simp_all

/-- From `sl` to `sl'` a slot has lost some of what holds it, and is FREE if nothing is left. -/
structure Slot.Loosened (sl sl' : Slot) : Prop where
  frame : sl'.frame = sl.frame
  missing : sl'.missing = sl.missing
  newest : sl'.newest = true → sl.newest = true
  filling : sl'.state = .filling ↔ sl.state = .filling
  kept : sl'.state = .stored → sl.state = .stored
  stored : sl'.state = .stored ↔ sl'.newest = true ∨ sl'.readers ≠ 0

/-- Slots that are loosened stay consistent. -/
theorem SlotsConsistent.loosen {intake : Intake} {slot slot' : Fin 3 → Slot} (h : SlotsConsistent intake slot)
    (hl : ∀ i, (slot i).Loosened (slot' i)) : SlotsConsistent intake slot' where
  filling i := (hl i).filling.trans (h.filling i)
  frame i f hf := (hl i).frame.trans (h.frame i f hf)
  stored i := (hl i).stored
  newest i j hi hj := h.newest i j ((hl i).newest hi) ((hl j).newest hj)
  missing i hi := by
    rw [(hl i).missing]
    exact h.missing i ((hl i).kept hi)

/-- A slot that nothing is taken from. -/
theorem Slot.Loosened.refl {sl : Slot} (h : sl.state = .stored ↔ sl.newest = true ∨ sl.readers ≠ 0) : sl.Loosened sl :=
  ⟨rfl, rfl, id, Iff.rfl, id, h⟩

theorem Slot.loosened_notNewest {sl : Slot} (h : sl.state = .stored ↔ sl.newest = true ∨ sl.readers ≠ 0) :
    sl.Loosened { sl with newest := false }.freeIfUnheld := by
  obtain ⟨hs, hf, hk⟩ := Slot.freeIfUnheld_state (sl := { sl with newest := false }) fun e => h.2 (.inr (by simpa using e))
  exact ⟨by simp, by simp, by simp, hf, hk, by simpa using hs⟩

theorem Slot.loosened_unNewest {sl : Slot} (h : sl.state = .stored ↔ sl.newest = true ∨ sl.readers ≠ 0) :
    sl.Loosened sl.unNewest := by
  unfold Slot.unNewest
  split
  · exact Slot.loosened_notNewest h
  · exact .refl h

theorem dropMember_eq_zero {sc : Nat} : dropMember (0 : BitVec 2) sc = 0 := by
  simp [dropMember]

theorem Slot.loosened_leave {sl : Slot} (h : sl.state = .stored ↔ sl.newest = true ∨ sl.readers ≠ 0) (sc : Fin 2) :
    sl.Loosened (sl.leave sc) := by
  unfold Slot.leave
  split
  · have hheld : sl.newest = true ∨ dropMember sl.readers sc.val ≠ 0 → sl.state = .stored := fun e =>
      h.2 (e.imp_right fun hd hz => hd (by rw [hz, dropMember_eq_zero]))
    obtain ⟨hs, hf, hk⟩ := Slot.freeIfUnheld_state (sl := { sl with readers := dropMember sl.readers sc.val }) hheld
    exact ⟨by simp, by simp, by simp, hf, hk, by simpa using hs⟩
  · exact .refl h

/-! ## The slots under each operation -/

/-- What the slots say depends on five of their fields. -/
theorem SlotsConsistent.congr {intake : Intake} {slot slot' : Fin 3 → Slot} (h : SlotsConsistent intake slot)
    (hs : ∀ i, (slot' i).state = (slot i).state ∧ (slot' i).frame = (slot i).frame ∧ (slot' i).newest = (slot i).newest ∧
      (slot' i).readers = (slot i).readers ∧ (slot' i).missing = (slot i).missing) : SlotsConsistent intake slot' := by
  refine ⟨fun i => ?_, fun i f => ?_, fun i => ?_, fun i j => ?_, fun i => ?_⟩
  · rw [(hs i).1]
    exact h.filling i
  · rw [(hs i).2.1]
    exact h.frame i f
  · rw [(hs i).1, (hs i).2.2.1, (hs i).2.2.2.1]
    exact h.stored i
  · rw [(hs i).2.2.1, (hs j).2.2.1]
    exact h.newest i j
  · rw [(hs i).1, (hs i).2.2.2.2]
    exact h.missing i

/-- An intake that fills no slot may become another that fills none. -/
theorem SlotsConsistent.idle {intake intake' : Intake} {slot : Fin 3 → Slot} (h : SlotsConsistent intake slot)
    (hn : ∀ i f, intake ≠ .filling i f) (hn' : ∀ i f, intake' ≠ .filling i f) : SlotsConsistent intake' slot where
  filling i := (h.filling i).trans ⟨fun ⟨f, e⟩ => absurd e (hn i f), fun ⟨f, e⟩ => absurd e (hn' i f)⟩
  frame i f e := absurd e (hn' i f)
  stored := h.stored
  newest := h.newest
  missing := h.missing

theorem Slot.not_newest_of_ne_stored {intake : Intake} {slot : Fin 3 → Slot} (h : SlotsConsistent intake slot) {i : Fin 3}
    (hi : (slot i).state ≠ .stored) : (slot i).newest = false ∧ (slot i).readers = 0 := by
  have hno := mt (h.stored i).2 hi
  rw [not_or, not_not] at hno
  exact ⟨by simpa using hno.1, hno.2⟩

/-- The channel's own slots, one of them changed. -/
theorem Channel.slot_updSlot (c : Channel) (i j : Fin 3) (f : Slot → Slot) :
    (c.updSlot i f).slot j = if j = i then f (c.slot i) else c.slot j := by
  split
  · next e => rw [e, Channel.slot_updSlot_self]
  · next e => rw [Channel.slot_updSlot_of_ne c f e]

/-- The slot being filled becomes FREE (R46, R48). -/
theorem SlotsConsistent.freeFilling {c : Channel} {i : Fin 3} {f : Nat} (h : SlotsConsistent (.filling i f) c.slot) :
    SlotsConsistent .none (c.updSlot i (fun sl => { sl with state := .free })).slot := by
  have hi : (c.slot i).state = .filling := (h.filling i).2 ⟨f, rfl⟩
  obtain ⟨hnew, hread⟩ := Slot.not_newest_of_ne_stored h (i := i) (by rw [hi]; decide)
  have hfill : ∀ j, j ≠ i → (c.slot j).state ≠ .filling := fun j hj e => by
    obtain ⟨g, hg⟩ := (h.filling j).1 e
    injection hg with hij
    exact hj hij.symm
  refine ⟨fun j => ?_, nofun, fun j => ?_, fun j k => ?_, fun j => ?_⟩
  · rw [Channel.slot_updSlot]
    split
    · simp
    · next hj => simp [hfill j hj]
  · rw [Channel.slot_updSlot]
    split
    · simp [hnew, hread]
    · exact h.stored j
  · have hn : ∀ j, ((c.updSlot i (fun sl => { sl with state := .free })).slot j).newest = (c.slot j).newest := fun j => by
      rw [Channel.slot_updSlot]
      split
      · next e => rw [e]
      · rfl
    rw [hn, hn]
    exact h.newest j k
  · rw [Channel.slot_updSlot]
    split
    · simp
    · exact h.missing j

/-- A FREE slot is filled (R48). -/
theorem SlotsConsistent.fillFree {c : Channel} {intake : Intake} (h : SlotsConsistent intake c.slot) (hn : ∀ i f, intake ≠ .filling i f)
    {i : Fin 3} (hi : (c.slot i).state = .free) (frame : Nat) :
    SlotsConsistent (.filling i frame)
      (c.updSlot i (fun sl => { sl with state := .filling, frame := frame, good := [] })).slot := by
  obtain ⟨hnew, hread⟩ := Slot.not_newest_of_ne_stored h (i := i) (by rw [hi]; decide)
  have hfill : ∀ j, (c.slot j).state ≠ .filling := fun j e => by
    obtain ⟨g, hg⟩ := (h.filling j).1 e
    exact hn j g hg
  refine ⟨fun j => ?_, fun j f e => ?_, fun j => ?_, fun j k => ?_, fun j => ?_⟩
  · rw [Channel.slot_updSlot]
    split
    · next e => simp [e]
    · next hj => simp [hfill j, Ne.symm hj]
  · injection e with hij hf
    rw [Channel.slot_updSlot, if_pos hij.symm]
    exact hf
  · rw [Channel.slot_updSlot]
    split
    · simp [hnew, hread]
    · exact h.stored j
  · have hnw : ∀ j, ((c.updSlot i (fun sl => { sl with state := .filling, frame := frame, good := [] })).slot j).newest =
        (c.slot j).newest := fun j => by
      rw [Channel.slot_updSlot]
      split
      · next e => rw [e]
      · rfl
    rw [hnw, hnw]
    exact h.newest j k
  · rw [Channel.slot_updSlot]
    split
    · simp
    · exact h.missing j

/-- The slot being filled is STORED and the newest, where no other is (R53). -/
theorem SlotsConsistent.store {c : Channel} {i : Fin 3} {f : Nat} (h : SlotsConsistent (.filling i f) c.slot)
    (hn : ∀ j, (c.slot j).newest = false) {missing : List Nat} (hm : missing.length ≤ 15) :
    SlotsConsistent .none (c.updSlot i (fun sl => { sl with state := .stored, newest := true, missing := missing })).slot := by
  have hfill : ∀ j, j ≠ i → (c.slot j).state ≠ .filling := fun j hj e => by
    obtain ⟨g, hg⟩ := (h.filling j).1 e
    injection hg with hij
    exact hj hij.symm
  have hnew : ∀ j, ((c.updSlot i (fun sl => { sl with state := .stored, newest := true, missing := missing })).slot j).newest = true →
      j = i := fun j => by
    rw [Channel.slot_updSlot]
    split
    · next e => exact fun _ => e
    · rw [hn j]
      exact nofun
  refine ⟨fun j => ?_, nofun, fun j => ?_, fun j k hj hk => (hnew j hj).trans (hnew k hk).symm, fun j => ?_⟩
  · rw [Channel.slot_updSlot]
    split
    · simp
    · next hj => simp [hfill j hj]
  · rw [Channel.slot_updSlot]
    split
    · simp
    · exact h.stored j
  · rw [Channel.slot_updSlot]
    split
    · exact fun _ => hm
    · exact h.missing j

/-- A screen joins the newest slot (R56). -/
theorem SlotsConsistent.join {c : Channel} {intake : Intake} (h : SlotsConsistent intake c.slot) {i : Fin 3}
    (hi : (c.slot i).newest = true) (sc : Fin 2) :
    SlotsConsistent intake (c.updSlot i (fun sl => { sl with readers := addMember sl.readers sc.val })).slot := by
  have hother : ∀ j, ((c.updSlot i (fun sl => { sl with readers := addMember sl.readers sc.val })).slot j) =
      { c.slot j with readers := if j = i then addMember (c.slot i).readers sc.val else (c.slot j).readers } := fun j => by
    rw [Channel.slot_updSlot]
    split
    · next e => rw [e]
    · rfl
  refine ⟨fun j => ?_, fun j f => ?_, fun j => ?_, fun j k => ?_, fun j => ?_⟩
  · rw [hother]
    exact h.filling j
  · rw [hother]
    exact h.frame j f
  · rw [hother]
    dsimp only
    split
    · next e => subst e; simp [hi, (h.stored j).2 (.inl hi)]
    · exact h.stored j
  · rw [hother, hother]
    exact h.newest j k
  · rw [hother]
    exact h.missing j

/-! ## A channel under each operation -/

/-- An operation that keeps a channel consistent, and the stream it is bound to. -/
structure Channel.KeepsConsistent (f : Channel → Channel) : Prop where
  consistent : ∀ c : Channel, c.Consistent → (f c).Consistent
  stream : ∀ c : Channel, (f c).stream = c.stream

/-- An operation that leaves what the consistency of a channel speaks of. -/
theorem Channel.Consistent.congr {c d : Channel} (h : c.Consistent)
    (hc : d.stream = c.stream ∧ d.state = c.state ∧ d.age = c.age ∧ d.intake = c.intake ∧ d.grade = c.grade ∧ d.home = c.home)
    (hr : d.patch = c.patch ∧ d.staleTime = c.staleTime ∧ d.lostTime = c.lostTime)
    (hs : ∀ i, (d.slot i).state = (c.slot i).state ∧ (d.slot i).frame = (c.slot i).frame ∧ (d.slot i).newest = (c.slot i).newest ∧
      (d.slot i).readers = (c.slot i).readers ∧ (d.slot i).missing = (c.slot i).missing) : d.Consistent := by
  obtain ⟨⟨hbound, hrun, hun⟩, hslots, hp, hsl, hsh, hll, hlh, ha⟩ := c.consistent_iff.1 h
  obtain ⟨hstream, hstate, hage, hintake, hgrade, hhome⟩ := hc
  obtain ⟨hpatch, hstale, hlost⟩ := hr
  refine d.consistent_iff.2 ⟨⟨?_, ?_, ?_⟩, ?_, ?_⟩
  · rw [hstream, hstate]
    exact hbound
  · rw [hage, hstate]
    exact hrun
  · rw [hstream, hintake, hgrade, hhome]
    exact fun e => ⟨(hun e).1, (hun e).2.1, (hun e).2.2.1, fun i => by rw [(hs i).2.2.1]; exact (hun e).2.2.2 i⟩
  · rw [hintake]
    exact hslots.congr hs
  · exact ⟨hpatch ▸ hp, hstale ▸ hsl, hstale ▸ hsh, hstale ▸ hlost ▸ hll, hlost ▸ hlh, hage ▸ ha⟩

theorem Channel.Consistent.count {c : Channel} (h : c.Consistent) (f : ChannelCounters → ChannelCounters) : (c.count f).Consistent :=
  h.congr ⟨rfl, rfl, rfl, rfl, rfl, rfl⟩ ⟨rfl, rfl, rfl⟩ fun _ => ⟨rfl, rfl, rfl, rfl, rfl⟩

/-- A channel that has given up its open frame fills none (R46, R48). -/
theorem Channel.abandonIntake_intake (c : Channel) : c.abandonIntake.intake = .none := by
  unfold Channel.abandonIntake
  split
  · assumption
  · rfl
  · rfl

@[simp] theorem Channel.abandonIntake_frame (c : Channel) :
    c.abandonIntake.stream = c.stream ∧ c.abandonIntake.state = c.state ∧ c.abandonIntake.grade = c.grade ∧
    c.abandonIntake.home = c.home ∧ c.abandonIntake.patch = c.patch ∧ c.abandonIntake.staleTime = c.staleTime ∧
    c.abandonIntake.lostTime = c.lostTime ∧ c.abandonIntake.age = c.age := by
  unfold Channel.abandonIntake
  split <;> exact ⟨rfl, rfl, rfl, rfl, rfl, rfl, rfl, rfl⟩

/-- Giving up the open frame leaves every slot but in its state. -/
theorem Channel.abandonIntake_slot (c : Channel) (i : Fin 3) :
    { c.abandonIntake.slot i with state := (c.slot i).state } = c.slot i := by
  unfold Channel.abandonIntake
  split
  · rfl
  · next j f _ =>
    rw [Channel.slot_count, Channel.slot_updSlot]
    split
    · next e => rw [e]; rfl
    · rfl
  · rfl

theorem SlotsConsistent.abandonIntake {c : Channel} (h : SlotsConsistent c.intake c.slot) :
    SlotsConsistent .none c.abandonIntake.slot := by
  unfold Channel.abandonIntake
  split
  · next e => rwa [e] at h
  · next e =>
    rw [e] at h
    exact h.freeFilling
  · next e =>
    rw [e] at h
    exact h.idle nofun nofun

theorem Channel.Consistent.abandonIntake {c : Channel} (h : c.Consistent) : c.abandonIntake.Consistent := by
  obtain ⟨⟨hbound, hrun, hun⟩, hslots, hp, hsl, hsh, hll, hlh, ha⟩ := c.consistent_iff.1 h
  have hnewest : ∀ i, (c.abandonIntake.slot i).newest = (c.slot i).newest := fun i => by
    rw [← c.abandonIntake_slot i]
  refine Channel.consistent_iff _ |>.2 ⟨⟨by simpa using hbound, by simpa using hrun, ?_⟩, ?_, by constructor <;> simpa⟩
  · rw [c.abandonIntake_intake]
    simp only [Channel.abandonIntake_frame, hnewest]
    exact fun e => ⟨trivial, (hun e).2⟩
  · rw [c.abandonIntake_intake]
    exact hslots.abandonIntake

theorem Channel.freeSlot_state {c : Channel} {i : Fin 3} (h : c.freeSlot = some i) : (c.slot i).state = .free := by
  simpa using List.find?_some h

theorem Channel.keepsConsistent_frameOpen (frame : Nat) (grade : Grade) (home : Nat) :
    Channel.KeepsConsistent (Channel.frameOpen frame grade home) := by
  refine ⟨fun c h => ?_, fun c => ?_⟩
  · by_cases hb : c.stream = none
    · simpa [Channel.frameOpen, hb] using h
    · obtain ⟨⟨hbound, hrun, -⟩, hslots, hrange⟩ := (Channel.consistent_iff _).1 h.abandonIntake
      rw [c.abandonIntake_intake] at hslots
      have hb' : c.abandonIntake.stream ≠ none := by simpa using hb
      obtain ⟨hp, hsl, hsh, hll, hlh, ha⟩ := hrange
      unfold Channel.frameOpen
      rw [if_neg (by simpa using hb)]
      dsimp only
      split
      · next i hi =>
        exact (Channel.consistent_iff _).2 ⟨⟨hbound, hrun, fun e => absurd e hb'⟩,
          SlotsConsistent.fillFree (c := { c.abandonIntake with grade := grade, home := some home, intake := .filling i frame })
            hslots nofun (Channel.freeSlot_state hi) frame, ⟨hp, hsl, hsh, hll, hlh, ha⟩⟩
      · exact (Channel.consistent_iff _).2 ⟨⟨hbound, hrun, fun e => absurd e hb'⟩, hslots.idle nofun nofun, ⟨hp, hsl, hsh, hll, hlh, ha⟩⟩
  · unfold Channel.frameOpen
    dsimp only
    (repeat' split) <;> simp [Channel.updSlot, Channel.count]

theorem Channel.keepsConsistent_line (frame line : Nat) (pixels : List Byte) (poisoned : Bool) :
    Channel.KeepsConsistent (Channel.line frame line pixels poisoned) := by
  have hslot : ∀ (c : Channel) (i : Fin 3) (f : Slot → Slot), c.Consistent →
      (∀ sl, ∃ good rows, f sl = { sl with good := good, rows := rows }) → (c.updSlot i f).Consistent := fun c i f h hf => by
    refine h.congr ⟨rfl, rfl, rfl, rfl, rfl, rfl⟩ ⟨rfl, rfl, rfl⟩ fun j => ?_
    obtain ⟨good, rows, e⟩ := hf (c.slot i)
    rw [Channel.slot_updSlot]
    split
    · next hj => rw [e, hj]; exact ⟨rfl, rfl, rfl, rfl, rfl⟩
    · exact ⟨rfl, rfl, rfl, rfl, rfl⟩
  have hgood : ∀ sl : Slot, ∃ good rows, sl.goodLine line pixels = { sl with good := good, rows := rows } := fun sl => by
    unfold Slot.goodLine
    split
    · exact ⟨_, _, rfl⟩
    · exact ⟨_, _, rfl⟩
  have hpoisoned : ∀ sl : Slot, ∃ good rows, sl.poisonedLine line pixels = { sl with good := good, rows := rows } := fun sl => by
    unfold Slot.poisonedLine
    split
    · exact ⟨_, _, rfl⟩
    · exact ⟨_, _, rfl⟩
  refine ⟨fun c h => ?_, fun c => ?_⟩
  · unfold Channel.line
    (repeat' split)
    · exact h.count _
    · exact h
    · exact h.count _
    · exact (hslot c _ _ h hpoisoned).count _
    · exact hslot c _ _ h hgood
    · exact h.count _
  · unfold Channel.line
    (repeat' split) <;> rfl

/-- No slot is the newest once every slot has lost the flag (R53). -/
theorem Slot.unNewest_newest (sl : Slot) : sl.unNewest.newest = false := by
  unfold Slot.unNewest
  split
  · simp
  · next h => simpa using h

theorem Channel.slot_mapSlots (c : Channel) (f : Slot → Slot) (i : Fin 3) : { c with slots := c.slots.map f }.slot i = f (c.slot i) := by
  simp [Channel.slot]

/-- A frame of which at most 15 lines are missing may be published (R52, R53). -/
theorem Channel.Consistent.publish {c : Channel} (h : c.Consistent) {i : Fin 3} {f : Nat} (hi : c.intake = .filling i f)
    {missing : List Nat} (hm : missing.length ≤ 15) : (c.publish i missing).Consistent := by
  obtain ⟨⟨hbound, -, hun⟩, hslots, hp, hsl, hsh, hll, hlh, -⟩ := c.consistent_iff.1 h
  have hb : c.stream ≠ none := fun e => by
    rw [(hun e).1] at hi
    cases hi
  rw [hi] at hslots
  have hloose : SlotsConsistent (.filling i f) { c with slots := c.slots.map Slot.unNewest }.slot := by
    refine hslots.loosen fun j => ?_
    rw [Channel.slot_mapSlots]
    exact Slot.loosened_unNewest (hslots.stored j)
  refine (Channel.consistent_iff _).2 ⟨⟨?_, ?_, fun e => absurd e hb⟩, ?_, ⟨hp, hsl, hsh, hll, hlh, Nat.zero_le _⟩⟩
  · exact ⟨fun e => absurd e hb, nofun⟩
  · exact ⟨fun _ => .inr (.inl rfl), fun _ => rfl⟩
  · exact hloose.store (fun j => by rw [Channel.slot_mapSlots, Slot.unNewest_newest]) hm

theorem Channel.Consistent.patch_le {c : Channel} (h : c.Consistent) : c.patch ≤ 15 := (c.consistent_iff.1 h).2.2.patch

/-- A channel that DROPS its frame or has none open may have none open. -/
theorem Channel.Consistent.endDropping {c : Channel} (h : c.Consistent) {f : Nat} (hd : c.intake = .dropping f) :
    { c with intake := .none }.Consistent := by
  have he : c.abandonIntake = { c with intake := .none } := by
    unfold Channel.abandonIntake
    rw [hd]
  exact he ▸ h.abandonIntake

theorem Channel.keepsConsistent_frameClose (frame : Nat) (status : CloseStatus) :
    Channel.KeepsConsistent (Channel.frameClose frame status) := by
  refine ⟨fun c h => ?_, fun c => ?_⟩
  · unfold Channel.frameClose
    split
    · exact h.count _
    · next f hd =>
      split
      · exact h.endDropping hd
      · exact h.count _
    · next i f hi =>
      split
      · dsimp only
        split
        · exact h.abandonIntake
        · next hno =>
          have hle : (missingLines (c.slot i).good).length ≤ c.patch := by
            by_contra hlt
            exact hno (by simp [Nat.lt_of_not_le hlt])
          exact h.publish hi (hle.trans h.patch_le)
      · exact h.count _
  · unfold Channel.frameClose
    dsimp only
    (repeat' split) <;> simp [Channel.strayPacket, Channel.count, Channel.publish, Channel.updSlot]

theorem Channel.Consistent.release {c : Channel} (h : c.Consistent) (sc : Fin 2) : (c.release sc).Consistent := by
  obtain ⟨⟨hbound, hrun, hun⟩, hslots, hrange⟩ := c.consistent_iff.1 h
  have hloose : ∀ i, (c.slot i).Loosened ((c.release sc).slot i) := fun i => by
    rw [Channel.release, Channel.slot_mapSlots]
    exact Slot.loosened_leave (hslots.stored i) sc
  obtain ⟨hp, hsl, hsh, hll, hlh, ha⟩ := hrange
  refine (Channel.consistent_iff _).2 ⟨⟨hbound, hrun, fun e => ?_⟩, hslots.loosen hloose, ⟨hp, hsl, hsh, hll, hlh, ha⟩⟩
  obtain ⟨hi, hg, hh, hn⟩ := hun e
  refine ⟨hi, hg, hh, fun i => Bool.eq_false_iff.2 fun ht => ?_⟩
  exact Bool.false_ne_true ((hn i).symm.trans ((hloose i).newest ht))

theorem Channel.keepsConsistent_release (sc : Fin 2) : Channel.KeepsConsistent (Channel.release sc) :=
  ⟨fun _ h => h.release sc, fun _ => rfl⟩

theorem Channel.newestSlot_newest {c : Channel} {i : Fin 3} (h : c.newestSlot = some i) : (c.slot i).newest = true := by
  simpa using List.find?_some h

/-- The newest slot stays the newest when a screen leaves the slots (R56, R57). -/
theorem Slot.leave_newest (sl : Slot) (sc : Fin 2) : (sl.leave sc).newest = sl.newest := by
  unfold Slot.leave
  split <;> simp

theorem Channel.keepsConsistent_take (sc : Fin 2) : Channel.KeepsConsistent (Channel.take sc) := by
  refine ⟨fun c h => ?_, fun c => ?_⟩
  · unfold Channel.take
    split
    · exact h.release sc
    · next i hi =>
      split
      · exact h
      · obtain ⟨⟨hbound, hrun, hun⟩, hslots, hp, hsl, hsh, hll, hlh, ha⟩ := (Channel.consistent_iff _).1 (h.release sc)
        have hnew : ((c.release sc).slot i).newest = true := by
          rw [Channel.release, Channel.slot_mapSlots, Slot.leave_newest, Channel.newestSlot_newest hi]
        refine (Channel.consistent_iff _).2 ⟨⟨hbound, hrun, fun e => ?_⟩, hslots.join hnew sc, ⟨hp, hsl, hsh, hll, hlh, ha⟩⟩
        exact absurd ((hun e).2.2.2 i) (by simp [hnew])
  · unfold Channel.take
    (repeat' split) <;> rfl

theorem Channel.keepsConsistent_ageStale : Channel.KeepsConsistent Channel.ageStale := by
  refine ⟨fun c h => ?_, fun c => ?_⟩
  · unfold Channel.ageStale
    split
    · next hl =>
      obtain ⟨⟨hbound, hrun, hun⟩, hslots, hp, hsl, hsh, hll, hlh, ha⟩ := c.consistent_iff.1 h
      have hon : c.age.running = true := hrun.2 (.inr (.inl hl))
      have hb : c.stream ≠ none := fun e => by simp [hbound.1 e] at hl
      refine (Channel.consistent_iff _).2 ⟨⟨⟨fun e => absurd e hb, nofun⟩, ⟨fun _ => .inr (.inr rfl), fun _ => hon⟩, fun e => absurd e hb⟩,
        hslots, ⟨hp, hsl, hsh, hll, hlh, ?_⟩⟩
      exact max_le ha (hsh.trans (by decide))
    · exact h
  · unfold Channel.ageStale
    split <;> rfl

/-- A WAITING or STALE channel becomes LOST, where its age stops (R59, R60). -/
theorem Channel.Consistent.lose {c : Channel} (h : c.Consistent) (hs : c.state = .waiting ∨ c.state = .stale) {ms : Nat}
    (hms : ms ≤ 10000) : { c with state := .lost, age := ⟨ms, false⟩ }.Consistent := by
  obtain ⟨⟨hbound, -, -⟩, hslots, hp, hsl, hsh, hll, hlh, -⟩ := c.consistent_iff.1 h
  have hb : c.stream ≠ none := fun e => by
    rw [hbound.1 e] at hs
    rcases hs with hs | hs <;> cases hs
  refine (Channel.consistent_iff _).2 ⟨⟨⟨fun e => absurd e hb, nofun⟩, ⟨nofun, fun e => ?_⟩, fun e => absurd e hb⟩, hslots,
    ⟨hp, hsl, hsh, hll, hlh, hms⟩⟩
  rcases e with e | e | e <;> cases e

theorem Channel.keepsConsistent_ageLost : Channel.KeepsConsistent Channel.ageLost := by
  refine ⟨fun c h => ?_, fun c => ?_⟩
  · unfold Channel.ageLost
    split
    · next hs =>
      obtain ⟨-, -, -, -, -, -, hlh, ha⟩ := c.consistent_iff.1 h
      exact h.lose (by simpa using hs) (max_le ha hlh)
    · exact h
  · unfold Channel.ageLost
    split <;> rfl

theorem Channel.keepsConsistent_compareStale : Channel.KeepsConsistent Channel.compareStale := by
  refine ⟨fun c h => ?_, fun c => ?_⟩
  · unfold Channel.compareStale
    split
    · next hs =>
      obtain ⟨⟨hbound, hrun, hun⟩, hslots, hrange⟩ := c.consistent_iff.1 h
      have hl : c.state = .live := by simp_all
      have hon : c.age.running = true := hrun.2 (.inr (.inl hl))
      have hb : c.stream ≠ none := fun e => by simp [hbound.1 e] at hl
      obtain ⟨hp, hsl, hsh, hll, hlh, ha⟩ := hrange
      exact (Channel.consistent_iff _).2 ⟨⟨⟨fun e => absurd e hb, nofun⟩, ⟨fun _ => .inr (.inr rfl), fun _ => hon⟩, fun e => absurd e hb⟩,
        hslots, ⟨hp, hsl, hsh, hll, hlh, ha⟩⟩
    · exact h
  · unfold Channel.compareStale
    split <;> rfl

theorem Channel.keepsConsistent_compareLost : Channel.KeepsConsistent Channel.compareLost := by
  refine ⟨fun c h => ?_, fun c => ?_⟩
  · unfold Channel.compareLost
    split
    · next hs =>
      obtain ⟨-, -, hrange⟩ := c.consistent_iff.1 h
      have hst : c.state = .stale ∨ c.state = .waiting := by simp_all
      exact h.lose hst.symm hrange.age
    · exact h
  · unfold Channel.compareLost
    split <;> rfl

/-- The settings that SET-CHANNEL accepts are in range (R43). -/
theorem readSetChannel_inRange {ps : List Byte} {o : SetChannel} (h : readSetChannel ps = some o) :
    o.patch ≤ 15 ∧ 40 ≤ o.staleTime ∧ o.staleTime ≤ 2000 ∧ o.staleTime + 10 ≤ o.lostTime ∧ o.lostTime ≤ 10000 := by
  obtain ⟨c, -, e⟩ := Option.bind_eq_some_iff.1 h
  injection e with e
  subst e
  have hpatch := (clamp_spec (Nat.zero_le 15) (byteAt ps 1)).1
  have hstale := (clamp_spec (by decide : 40 ≤ 2000) (wordAt ps 2)).1
  have hlost := (clamp_spec (by decide : 100 ≤ 10000) (wordAt ps 4)).1
  dsimp only
  split <;> omega

theorem Channel.keepsConsistent_settings {ps : List Byte} {o : SetChannel} (ho : readSetChannel ps = some o) :
    Channel.KeepsConsistent (fun c => { c with patch := o.patch, staleTime := o.staleTime, lostTime := o.lostTime }) := by
  refine ⟨fun c h => ?_, fun c => rfl⟩
  obtain ⟨⟨hbound, hrun, hun⟩, hslots, -, -, -, -, -, ha⟩ := c.consistent_iff.1 h
  obtain ⟨hp, hsl, hsh, hll, hlh⟩ := readSetChannel_inRange ho
  exact (Channel.consistent_iff _).2 ⟨⟨hbound, hrun, hun⟩, hslots, ⟨hp, hsl, hsh, hll, hlh, ha⟩⟩

theorem Channel.keepsConsistent_count (f : ChannelCounters → ChannelCounters) : Channel.KeepsConsistent (fun c => c.count f) :=
  ⟨fun _ h => h.count f, fun _ => rfl⟩

/-- An unbound channel may be bound (R45). -/
theorem Channel.Consistent.bind {c : Channel} (h : c.Consistent) (hu : c.stream = none) (k : Fin 256) : (c.bind k).Consistent := by
  obtain ⟨⟨-, -, hun⟩, hslots, hp, hsl, hsh, hll, hlh, -⟩ := c.consistent_iff.1 h
  rw [(hun hu).1] at hslots
  exact (Channel.consistent_iff _).2 ⟨⟨⟨nofun, nofun⟩, ⟨fun _ => .inl rfl, fun _ => rfl⟩, nofun⟩, hslots,
    ⟨hp, hsl, hsh, hll, hlh, Nat.zero_le _⟩⟩

theorem Channel.Consistent.unbind {c : Channel} (h : c.Consistent) : c.unbind.Consistent := by
  obtain ⟨-, hslots, hp, hsl, hsh, hll, hlh, ha⟩ := (Channel.consistent_iff _).1 h.abandonIntake
  have hloose : SlotsConsistent c.abandonIntake.intake c.unbind.slot := by
    refine hslots.loosen fun i => ?_
    have hi : c.unbind.slot i = { c.abandonIntake.slot i with newest := false }.freeIfUnheld := by
      simp [Channel.unbind, Channel.slot]
    rw [hi]
    exact Slot.loosened_notNewest (hslots.stored i)
  refine (Channel.consistent_iff _).2 ⟨⟨⟨fun _ => rfl, fun _ => rfl⟩, ⟨nofun, fun e => ?_⟩,
    fun _ => ⟨c.abandonIntake_intake, rfl, rfl, fun i => ?_⟩⟩,
    hloose, ⟨hp, hsl, hsh, hll, hlh, ha⟩⟩
  · rcases e with e | e | e <;> cases e
  · simp [Channel.unbind, Channel.slot]

/-- A millisecond keeps a channel consistent whose running age is below its limit (R59, R60). -/
theorem Channel.Consistent.tick {c : Channel} (h : c.Consistent) (hlim : c.age.running = true →
    (c.state = .live → c.age.ms < c.staleTime) ∧ (c.state = .waiting ∨ c.state = .stale → c.age.ms < c.lostTime)) :
    c.tick.Consistent := by
  obtain ⟨⟨hbound, hrun, hun⟩, hslots, hp, hsl, hsh, hll, hlh, ha⟩ := c.consistent_iff.1 h
  refine (Channel.consistent_iff _).2 ⟨⟨hbound, hrun, hun⟩, hslots, ⟨hp, hsl, hsh, hll, hlh, ?_⟩⟩
  unfold Channel.tick
  dsimp only
  split
  · next hr =>
    obtain ⟨hlive, hother⟩ := hlim hr
    rcases hrun.1 hr with e | e | e
    · have := hother (.inl e); omega
    · have := hlive e; omega
    · have := hother (.inr e); omega
  · exact ha

theorem Channel.consistent_reset : Channel.reset.Consistent := by
  have hslot : ∀ i, Channel.reset.slot i = Slot.reset := fun i => by simp [Channel.reset, Channel.slot]
  refine (Channel.consistent_iff _).2 ⟨⟨by decide, by decide, fun _ => ⟨rfl, rfl, rfl, fun i => ?_⟩⟩,
    ⟨fun i => ?_, nofun, fun i => ?_, fun i j => ?_, fun i => ?_⟩,
    by constructor <;> decide⟩
  · rw [hslot]; rfl
  · rw [hslot]; simp [Slot.reset, Channel.reset]
  · rw [hslot]; simp [Slot.reset]
  · rw [hslot]; simp [Slot.reset]
  · rw [hslot]; simp [Slot.reset]

end Sys2Proof.Machine

/-! # Proofs: what an operation keeps of the switch, its outputs and its channels (R20 to R41, R45, R46)

Two invariants go the same way through the switch: the trunk outputs are bounded and quiet on a DOWN link, and the channels agree with
the stream table. `State.SwitchKept` says of both that an operation keeps them; the operations of the hub are chains of it. -/

namespace Sys2Proof.Machine

/-! ## What neither invariant sees -/

/-- A receiver that keeps its link keeps every trunk's. -/
theorem State.trunkUp_updRx_of_link (s : State) {p : Port} {f : Receiver → Receiver} (hf : (f (s.rx p)).link = (s.rx p).link) (u : Trunk) :
    (s.updRx p f).trunkUp u = s.trunkUp u := by
  rw [State.trunkUp_eq, State.trunkUp_eq, State.rx_updRx]
  split
  · next heq => rw [hf, heq]
  · rfl

/-- From `s` to `t` no output has changed, no channel, no stream entry, and the link of no trunk but of a port that is `lost`. -/
structure State.SameSwitch (lost : Option Port) (s t : State) : Prop where
  out : ∀ u, t.out u = s.out u
  up : ∀ u, lost ≠ some (.trunk u) → t.trunkUp u = s.trunkUp u
  channel : ∀ c, t.channel c = s.channel c
  entry : ∀ k, (t.streamRec k).entry = (s.streamRec k).entry

namespace State.SameSwitch

variable {lost : Option Port} {s t : State}

theorem refl (lost : Option Port) (s : State) : s.SameSwitch lost s := ⟨fun _ => rfl, fun _ _ => rfl, fun _ => rfl, fun _ => rfl⟩

theorem trans {x : State} (h : s.SameSwitch lost t) (g : t.SameSwitch lost x) : s.SameSwitch lost x where
  out u := (g.out u).trans (h.out u)
  up u hu := (g.up u hu).trans (h.up u hu)
  channel c := (g.channel c).trans (h.channel c)
  entry k := (g.entry k).trans (h.entry k)

/-- The same trunks, channels and streams. -/
theorem of_frame {x : State} (h : s.SameSwitch lost t) (ht : x.trunks = t.trunks) (hc : x.channels = t.channels)
    (hs : x.streams = t.streams) : s.SameSwitch lost x :=
  h.trans
    { out := fun u => out_congr ht u
      up := fun u _ => by rw [State.trunkUp, ht, ← State.trunkUp]
      channel := fun c => channel_congr hc c
      entry := fun k => by rw [streamRec_congr hs] }

theorem updRx (h : s.SameSwitch lost t) (p : Port) {f : Receiver → Receiver} (hf : (f (t.rx p)).link = (t.rx p).link) :
    s.SameSwitch lost (t.updRx p f) :=
  h.trans
    { out := fun u => out_updRx t p u f
      up := fun u _ => trunkUp_updRx_of_link t hf u
      channel := fun c => channel_congr (updRx_channels t p f) c
      entry := fun k => by rw [streamRec_congr (updRx_streams t p f)] }

/-- The receiver of a port that is lost may change in its link too. -/
theorem updRx_lost {p : Port} (h : s.SameSwitch (some p) t) (f : Receiver → Receiver) : s.SameSwitch (some p) (t.updRx p f) :=
  h.trans
    { out := fun u => out_updRx t p u f
      up := fun u hu => by rw [trunkUp_eq, trunkUp_eq, rx_updRx_of_ne t f fun e => hu (congrArg some e.symm)]
      channel := fun c => channel_congr (updRx_channels t p f) c
      entry := fun k => by rw [streamRec_congr (updRx_streams t p f)] }

theorem updArrivals (h : s.SameSwitch lost t) (p : Port) (f : ArrivalCounters → ArrivalCounters) :
    s.SameSwitch lost (t.updArrivals p f) := h.updRx p rfl

theorem updTrunkCounters (h : s.SameSwitch lost t) (u : Trunk) (f : TrunkCounters → TrunkCounters) :
    s.SameSwitch lost (t.updTrunkCounters u f) :=
  h.trans
    { out := fun v => out_updTrunkCounters t u v f
      up := fun v _ => by rw [trunkUp_eq, trunkUp_eq, rx_updTrunkCounters]
      channel := fun _ => rfl
      entry := fun _ => rfl }

theorem updFlow (h : s.SameSwitch lost t) (k : Fin 256) (f : StreamFlow → StreamFlow) : s.SameSwitch lost (t.updFlow k f) :=
  h.trans ⟨fun _ => rfl, fun _ _ => rfl, fun _ => rfl, fun j => entry_updFlow t j k f⟩

theorem clearErrors (h : s.SameSwitch lost t) (p : Port) : s.SameSwitch lost (t.clearErrors p) := by
  have ha := h.updArrivals p (fun c => { c with framing := 0, check := 0, shape := 0 })
  cases p with
  | cam i => exact ha
  | trunk u => exact ha.updTrunkCounters u (fun c => { c with poisoned := 0 })

end State.SameSwitch

/-! ## The two invariants -/

/-- The outputs stay as they are but one, and no link changes. -/
theorem State.OutputsBounded.updOut {s : State} (h : s.OutputsBounded) (u : Trunk) {f : Output → Output} (hb : (f (s.out u)).Bounded)
    (hq : s.trunkUp u = false → (f (s.out u)).Quiet) : (s.updOut u f).OutputsBounded := by
  have hup : ∀ v, (s.updOut u f).trunkUp v = s.trunkUp v := fun v => by rw [trunkUp_eq, rx_updOut, ← trunkUp_eq]
  intro v
  rw [hup, out_updOut]
  split
  · next e => exact ⟨hb, e ▸ hq⟩
  · exact h v

theorem State.SameSwitch.outputsBounded {s t : State} (h : s.SameSwitch none t) (hs : s.OutputsBounded) : t.OutputsBounded := fun u => by
  rw [h.out, h.up u nofun]
  exact hs u

theorem State.OutputsBounded.of_trunks {s t : State} (h : s.OutputsBounded) (ht : t.trunks = s.trunks) : t.OutputsBounded := fun u => by
  rw [out_congr ht, State.trunkUp, ht]
  exact h u

/-- The channels and the stream entries are as they were. -/
theorem State.ChannelsConsistent.congr {s t : State} (h : s.ChannelsConsistent) (hc : ∀ c, t.channel c = s.channel c)
    (he : ∀ k, (t.streamRec k).entry = (s.streamRec k).entry) : t.ChannelsConsistent := by
  obtain ⟨hcons, hname, hreset⟩ := h
  exact ⟨fun c => hc c ▸ hcons c, fun k c => by rw [he, hc]; exact hname k c, fun k => by rw [he]; exact hreset k⟩

/-- A change that keeps a channel consistent and bound as it is. -/
theorem State.ChannelsConsistent.updChannel {s : State} (h : s.ChannelsConsistent) (c : Fin 12) {f : Channel → Channel}
    (hf : Channel.KeepsConsistent f) : (s.updChannel c f).ChannelsConsistent := by
  obtain ⟨hcons, hname, hreset⟩ := h
  have hch : ∀ d, (s.updChannel c f).channel d = if d = c then f (s.channel c) else s.channel d := fun d => by
    rw [State.channel, State.updChannel_channels, Tab.get_upd, ← State.channel, ← State.channel]
  refine ⟨fun d => ?_, fun k d => ?_, hreset⟩
  · rw [hch]
    split
    · exact hf.consistent _ (hcons c)
    · exact hcons d
  · rw [hch]
    refine (hname k d).trans ?_
    split
    · next e => rw [hf.stream, e]
    · exact Iff.rfl

theorem State.ChannelsConsistent.channelEvent {s : State} (h : s.ChannelsConsistent) (c : Fin 12) {f : Channel → Channel}
    (hf : Channel.KeepsConsistent f) : (s.channelEvent c f).ChannelsConsistent :=
  (h.updChannel c hf).congr (fun d => channel_congr (State.channelEvent_channels s c f) d)
    (fun k => by rw [streamRec_congr (s := s) (by simp)]; rfl)

/-- An operation keeps the outputs bounded and quiet, and the channels consistent. -/
structure State.SwitchKept (s t : State) : Prop where
  outputs : s.OutputsBounded → t.OutputsBounded
  channels : s.ChannelsConsistent → t.ChannelsConsistent

/-! ## One output -/

/-- A video queue with a free place has no packet waiting for one (R33). -/
theorem Output.Bounded.waiting_nil {o : Output} (h : o.Bounded) (hv : o.video.length < 24) : o.waiting = [] := by
  obtain ⟨-, -, hw, -, -⟩ := h
  by_contra hne
  exact absurd (hw hne) hv.ne

theorem Output.Bounded.pushVideo {o : Output} (h : o.Bounded) (hv : o.video.length < 24) (p : Packet) :
    { o with video := o.video ++ [p] }.Bounded := by
  have hnil := h.waiting_nil hv
  obtain ⟨hm, -, -, hk, hp⟩ := h
  refine ⟨hm, ?_, fun hne => absurd hnil hne, hk, hp⟩
  simp only [List.length_append, List.length_singleton]
  omega

/-- Two packets of one stream wait at no output when one takes the other's place (R35). -/
theorem map_stream_replace {k : Fin 256} {p : Packet} (hp : p.stream = some k) (l : List Packet) :
    (l.map (fun q => if q.ofStream k then p else q)).map Packet.stream = l.map Packet.stream := by
  rw [List.map_map]
  refine List.map_congr_left fun q _ => ?_
  by_cases hq : q.stream = some k
  · simp [Packet.ofStream, hq, hp]
  · simp [Packet.ofStream, hq]

/-- A FRAME-OPEN or FRAME-CLOSE keeps the bounds of an output (R33, R35). -/
theorem Output.Bounded.control {o : Output} (h : o.Bounded) {k : Fin 256} {p : Packet} (hk : p.stream = some k)
    (hp : (p.isFrameOpen || p.isFrameClose) = true) : (o.control k p).1.Bounded := by
  unfold Output.control
  split
  · next hnone =>
    split
    · next hv => exact h.pushVideo hv p
    · next hv =>
      obtain ⟨hm, hl, -, hc, hpair⟩ := h
      refine ⟨hm, hl, fun _ => le_antisymm hl (Nat.le_of_not_lt hv), fun q hq => ?_, ?_⟩
      · rcases List.mem_append.1 hq with hq | hq
        · exact hc q hq
        · rwa [List.mem_singleton.1 hq]
      · refine List.pairwise_append.2 ⟨hpair, List.pairwise_singleton _ _, fun q hq r hr => ?_⟩
        rw [List.mem_singleton.1 hr, hk]
        simpa [Packet.ofStream] using List.find?_eq_none.1 hnone q hq
  · next w hsome =>
    have hwait : o.waiting ≠ [] := List.ne_nil_of_mem (List.mem_of_find?_eq_some hsome)
    obtain ⟨hm, hl, hw, hc, hpair⟩ := h
    split
    · exact ⟨hm, hl, fun _ => hw hwait, fun q hq => hc q (List.mem_of_mem_filter hq), hpair.filter _⟩
    · refine ⟨hm, hl, fun _ => hw hwait, fun q hq => ?_, ?_⟩
      · obtain ⟨r, hr, e⟩ := List.mem_map.1 hq
        subst e
        split
        · exact hp
        · exact hc r hr
      · rw [← List.pairwise_map (f := Packet.stream) (R := (· ≠ ·))] at hpair ⊢
        rwa [map_stream_replace hk]

theorem Output.Bounded.pushMgmt {o : Output} (h : o.Bounded) (hm : o.mgmt.length < 8) (e : MgmtEntry) :
    { o with mgmt := o.mgmt ++ [e] }.Bounded := by
  obtain ⟨-, hrest⟩ := h
  refine ⟨?_, hrest⟩
  simp only [List.length_append, List.length_singleton]
  omega

/-- The arbiter's start keeps the bounds: the freed place of the video queue goes to the oldest waiting packet (R30, R33). -/
theorem Output.Bounded.startNext {o : Output} (h : o.Bounded) : o.startNext.Bounded := by
  unfold Output.startNext
  split
  · next e rest hm =>
    obtain ⟨hl, hrest⟩ := h
    rw [hm, List.length_cons] at hl
    exact ⟨by dsimp only; omega, hrest⟩
  · split
    · exact h
    · next p rest hv =>
      obtain ⟨hm, hl, hw, hc, hpair⟩ := h
      rw [hv, List.length_cons] at hl hw
      split
      · next hnil =>
        rw [hnil] at hc hpair
        exact ⟨hm, by dsimp only; omega, fun hne => absurd hnil hne, by simp [hnil], by simp [hnil]⟩
      · next w ws hcons =>
        rw [hcons] at hw hc hpair
        have hfull := hw (by simp)
        refine ⟨hm, ?_, fun _ => ?_, fun q hq => hc q (List.mem_cons_of_mem _ hq), hpair.of_cons⟩
        · simp only [List.length_append, List.length_singleton]
          omega
        · simp only [List.length_append, List.length_singleton]
          omega

/-! ## Operations at the outputs -/

namespace State.SwitchKept

variable {s t : State}

theorem refl (s : State) : s.SwitchKept s := ⟨id, id⟩

theorem same {x : State} (h : s.SwitchKept t) (g : t.SameSwitch none x) : s.SwitchKept x :=
  ⟨fun hs => g.outputsBounded (h.outputs hs), fun hs => (h.channels hs).congr g.channel g.entry⟩

theorem ite (b : Prop) [Decidable b] {x : State} (h : s.SwitchKept t) (g : s.SwitchKept x) : s.SwitchKept (if b then t else x) := by
  split
  · exact h
  · exact g

/-- The same trunks, channels and streams. -/
theorem of_frame {x : State} (h : s.SwitchKept t) (ht : x.trunks = t.trunks) (hc : x.channels = t.channels)
    (hs : x.streams = t.streams) : s.SwitchKept x := h.same ((SameSwitch.refl none t).of_frame ht hc hs)

theorem updRx (h : s.SwitchKept t) (p : Port) {f : Receiver → Receiver} (hf : (f (t.rx p)).link = (t.rx p).link) :
    s.SwitchKept (t.updRx p f) := h.same ((SameSwitch.refl none t).updRx p hf)

theorem updArrivals (h : s.SwitchKept t) (p : Port) (f : ArrivalCounters → ArrivalCounters) : s.SwitchKept (t.updArrivals p f) :=
  h.same ((SameSwitch.refl none t).updArrivals p f)

theorem updTrunkCounters (h : s.SwitchKept t) (u : Trunk) (f : TrunkCounters → TrunkCounters) :
    s.SwitchKept (t.updTrunkCounters u f) := h.same ((SameSwitch.refl none t).updTrunkCounters u f)

theorem updFlow (h : s.SwitchKept t) (k : Fin 256) (f : StreamFlow → StreamFlow) : s.SwitchKept (t.updFlow k f) :=
  h.same ((SameSwitch.refl none t).updFlow k f)

/-- An output may change as long as it stays bounded, and quiet on a DOWN link. -/
theorem updOut (h : s.SwitchKept t) (u : Trunk) {f : Output → Output} (hb : (t.out u).Bounded → (f (t.out u)).Bounded)
    (hq : t.trunkUp u = false → (t.out u).Quiet → (f (t.out u)).Quiet) : s.SwitchKept (t.updOut u f) where
  outputs hs := (h.outputs hs).updOut u (hb (h.outputs hs u).1) fun hu => hq hu ((h.outputs hs u).2 hu)
  channels hs := (h.channels hs).congr (fun _ => rfl) (fun _ => rfl)

/-- The same, of an output whose link is UP. -/
theorem updOut_up (h : s.SwitchKept t) {u : Trunk} (hu : t.trunkUp u = true) {f : Output → Output}
    (hb : (t.out u).Bounded → (f (t.out u)).Bounded) : s.SwitchKept (t.updOut u f) :=
  h.updOut u hb fun hd => absurd hu (by simp [hd])

theorem countQueueCuts (h : s.SwitchKept t) (u : Trunk) (n : Nat) : s.SwitchKept (t.countQueueCuts u n) := h.updTrunkCounters u _

theorem setCut (h : s.SwitchKept t) (u : Trunk) (k : Fin 256) : s.SwitchKept (t.setCut u k) := h.updFlow k _

theorem enqueueMgmt (h : s.SwitchKept t) {u : Trunk} (hr : t.mgmtRoom u = true) (e : MgmtEntry) : s.SwitchKept (t.enqueueMgmt u e) := by
  rw [State.mgmtRoom, Bool.and_eq_true, decide_eq_true_eq] at hr
  exact h.updOut_up hr.1 fun hb => hb.pushMgmt hr.2 e

theorem forward (h : s.SwitchKept t) (a u : Trunk) (e : MgmtEntry) : s.SwitchKept (t.forward a u e) := by
  unfold State.forward State.offerMgmt
  split
  · exact h.updTrunkCounters a _
  · split
    · exact h
    · next hu =>
      split
      · next hm => exact h.enqueueMgmt (by simpa [State.mgmtRoom, Config.mgmtPlaces] using ⟨by simpa using hu, hm⟩) e
      · exact h.updTrunkCounters u _

theorem sendControl (h : s.SwitchKept t) (u : Trunk) {k : Fin 256} {p : Packet} (hk : p.stream = some k)
    (hp : (p.isFrameOpen || p.isFrameClose) = true) : s.SwitchKept (t.sendControl u k p) := by
  unfold State.sendControl
  dsimp only
  split
  · exact h
  · next hu =>
    have hsent := h.updOut_up (u := u) (f := fun _ => ((t.out u).control k p).1) (by simpa using hu) fun hb => hb.control hk hp
    exact ite _ hsent (hsent.countQueueCuts u _)

theorem offerLine (h : s.SwitchKept t) (u : Trunk) (k : Fin 256) (p : Packet) : s.SwitchKept (t.offerLine u k p) := by
  unfold State.offerLine
  split
  · exact h.setCut u k
  · next hu =>
    split
    · exact h.countQueueCuts u 1
    · split
      · exact (h.setCut u k).countQueueCuts u 1
      · next hv =>
        rw [Bool.or_eq_true, decide_eq_true_eq, not_or, not_le] at hv
        exact h.updOut_up (by simpa using hu) fun hb => hb.pushVideo hv.2 p

theorem endTransmission (h : s.SwitchKept t) (u : Trunk) (tx : Transmission) : s.SwitchKept (t.endTransmission u tx) :=
  (h.updOut u (fun hb => hb) fun _ ⟨hm, hv, hw, _⟩ => ⟨hm, hv, hw, rfl⟩).updTrunkCounters u _

theorem transmissionStart (h : s.SwitchKept t) (u : Trunk) : s.SwitchKept (if t.canStart u then t.updOut u Output.startNext else t) := by
  split
  · next hc =>
    simp only [State.canStart, Bool.and_eq_true] at hc
    exact h.updOut_up hc.1.1 fun hb => hb.startNext
  · exact h

theorem transmissionEnd (h : s.SwitchKept t) (u : Trunk) : s.SwitchKept (t.transmissionEnd u) := by
  unfold State.transmissionEnd
  split
  · exact h.endTransmission u _
  · exact h
  · exact h

/-- The head of the notice queue enters the queues of trunks that have room for it, each once (R168). -/
theorem enqueueAll (h : s.SwitchKept t) (e : MgmtEntry) {l : List Trunk} (hl : l.Nodup) (hr : ∀ u ∈ l, t.mgmtRoom u = true) :
    s.SwitchKept (l.foldl (fun x u => x.enqueueMgmt u e) t) := by
  induction l generalizing t with
  | nil => exact h
  | cons u rest ih =>
    rw [List.nodup_cons] at hl
    refine ih (h.enqueueMgmt (hr u List.mem_cons_self) e) hl.2 fun v hv => ?_
    have hne : v ≠ u := fun e => hl.1 (e ▸ hv)
    have hroom := hr v (List.mem_cons_of_mem _ hv)
    rw [State.mgmtRoom] at hroom ⊢
    rwa [trunkUp_eq, rx_enqueueMgmt, ← trunkUp_eq, show (t.enqueueMgmt u e).out v = t.out v from out_updOut_of_ne t _ hne]

end State.SwitchKept

/-- The trunks that the head of the notice queue would enter have room, and are named once (R168). -/
theorem State.noticeTargets_room (s : State) : s.noticeTargets.Nodup ∧ ∀ u ∈ s.noticeTargets, s.mgmtRoom u = true := by
  have hone : ∀ u, (if s.mgmtRoom u then [u] else []).Nodup ∧ ∀ v ∈ (if s.mgmtRoom u then [u] else []), s.mgmtRoom v = true :=
    fun u => by split <;> simp_all
  unfold State.noticeTargets
  split
  · exact hone .ta
  · exact hone .tb
  · split
    · split
      · next hb => simpa using hb
      · simp
    · split
      · next ha => simpa using ha
      · exact hone .tb

namespace State.SwitchKept

variable {s t : State}

theorem moveNotice (h : s.SwitchKept t) : s.SwitchKept t.moveNotice := by
  unfold State.moveNotice
  split
  · next n rest u us _ ht =>
    obtain ⟨hn, hr⟩ := t.noticeTargets_room
    rw [ht] at hn hr
    have htaken : s.SwitchKept (t.updOrders (fun o => { o with queue := rest })) := h.of_frame rfl rfl rfl
    exact htaken.enqueueAll _ hn hr
  · exact h

/-! ## The switch -/

theorem channelEvent (h : s.SwitchKept t) (c : Fin 12) {f : Channel → Channel} (hf : Channel.KeepsConsistent f) :
    s.SwitchKept (t.channelEvent c f) where
  outputs hs := (h.outputs hs).of_trunks (channelEvent_frame ..).2.1
  channels hs := (h.channels hs).channelEvent c hf

theorem updChannel (h : s.SwitchKept t) (c : Fin 12) {f : Channel → Channel} (hf : Channel.KeepsConsistent f) :
    s.SwitchKept (t.updChannel c f) where
  outputs hs := (h.outputs hs).of_trunks rfl
  channels hs := (h.channels hs).updChannel c hf

theorem deliver (h : s.SwitchKept t) (e : StreamEntry) {f : Channel → Channel} (hf : Channel.KeepsConsistent f) :
    s.SwitchKept (t.deliver e f) := by
  unfold State.deliver
  split
  · exact h.channelEvent _ hf
  · exact h

theorem sendIfRouted (h : s.SwitchKept t) (e : StreamEntry) (u : Trunk) {k : Fin 256} {p : Packet} (hk : p.stream = some k)
    (hp : (p.isFrameOpen || p.isFrameClose) = true) : s.SwitchKept (t.sendIfRouted e u k p) := ite _ (h.sendControl u hk hp) h

theorem closeCut (h : s.SwitchKept t) (k : Fin 256) : s.SwitchKept (t.closeCut k) := by
  unfold State.closeCut
  exact (((h.sendIfRouted _ .ta rfl rfl).sendIfRouted _ .tb rfl rfl).deliver _ (Channel.keepsConsistent_frameClose _ _)).updFlow k _

theorem closeIfOpen (h : s.SwitchKept t) (k : Fin 256) : s.SwitchKept (t.closeIfOpen k) := ite _ (h.closeCut k) h

theorem originLoss (h : s.SwitchKept t) (p : Port) : s.SwitchKept (t.originLoss p) :=
  State.originLoss_keeps (P := fun x => s.SwitchKept x) (fun _ k hx => hx.closeCut k) h p

theorem switchFrameOpen (h : s.SwitchKept t) (p : Port) (k : Fin 256) (frame : Nat) (grade : Grade) (home : Nat) :
    s.SwitchKept (t.switchFrameOpen p k frame grade home) := by
  unfold State.switchFrameOpen
  split
  · exact h.updArrivals p _
  · exact h.updArrivals p _
  · exact ((((h.closeIfOpen k).updFlow k _).sendIfRouted _ .ta rfl rfl).sendIfRouted _ .tb rfl rfl).deliver _
      (Channel.keepsConsistent_frameOpen frame grade home)

theorem switchFrameClose (h : s.SwitchKept t) (p : Port) (k : Fin 256) (frame : Nat) (status : CloseStatus) :
    s.SwitchKept (t.switchFrameClose p k frame status) := by
  unfold State.switchFrameClose
  dsimp only
  (repeat' split)
  · exact h.updArrivals p _
  · exact h.updArrivals p _
  · exact (((h.updFlow k _).sendIfRouted _ .ta rfl rfl).sendIfRouted _ .tb rfl rfl).deliver _
      (Channel.keepsConsistent_frameClose frame status)
  · exact h.updArrivals p _

theorem applyDecision (h : s.SwitchKept t) (p : Port) (k : Fin 256) {u : Trunk} {d : LineDecision}
    (hu : d = .cutThrough → t.trunkUp u = true) : s.SwitchKept (t.applyDecision p k u d) := by
  cases d with
  | discardedDown => exact h.setCut u k
  | cutThrough => exact h.updOut_up (f := fun o => { o with sending := .cutting p }) (hu rfl) fun hb => hb
  | offRoute => exact h
  | discardedCut => exact h
  | stored => exact h

theorem switchLineHeader (h : s.SwitchKept t) (p : Port) (k : Fin 256) (frame line : Nat) :
    s.SwitchKept (t.switchLineHeader p k frame line) := by
  unfold State.switchLineHeader
  dsimp only
  refine ((h.updRx p rfl).applyDecision p k fun hd => ?_).applyDecision p k fun hd => ?_
  all_goals
    simp only [trunkUp_eq, rx_applyDecision, rx_updRx]
    split at hd
    · have hup := ((lineDecision_cutThrough ..).1 hd).2.2.1
      rw [trunkUp_eq] at hup
      split <;> simp_all
    all_goals cases hd

theorem endCutThrough (h : s.SwitchKept t) (p : Port) (u : Trunk) (tx : Transmission) : s.SwitchKept (t.endCutThrough p u tx) :=
  ite _ (h.endTransmission u tx) h

theorem settleCopy (h : s.SwitchKept t) (a : LineArrival) (report : EndReport) (pixels : List Byte) (u : Trunk) :
    s.SwitchKept (t.settleCopy a report pixels u) := by
  unfold State.settleCopy
  split
  · exact h.offerLine u _ _
  · exact h.setCut u _
  · exact h
  · exact h.countQueueCuts u 1
  · exact h

theorem countHeaderCut (h : s.SwitchKept t) (a : LineArrival) (u : Trunk) : s.SwitchKept (t.countHeaderCut a u) :=
  ite _ (h.countQueueCuts u 1) h

theorem settleLine (h : s.SwitchKept t) (p : Port) (a : LineArrival) (report : EndReport) (bytes : List Byte) :
    s.SwitchKept (t.settleLine p a report bytes) := by
  by_cases ho : t.StillOpen a
  · have hy := fun pixels => (h.settleCopy a report pixels .ta).settleCopy a report pixels .tb
    rw [settleLine_open ho]
    exact ite _ (hy _) ((hy _).deliver _ (Channel.keepsConsistent_line _ _ _ _))
  · rw [settleLine_closed ho]
    split
    · exact h
    · split
      · exact h.updArrivals p _
      · exact h.updArrivals p _
      · exact h.updArrivals p _
      · exact ((h.countHeaderCut a .ta).countHeaderCut a .tb).updArrivals p _

theorem reportLineEnd (h : s.SwitchKept t) (p : Port) (report : EndReport) (bytes : List Byte) :
    s.SwitchKept (t.reportLineEnd p report bytes) := by
  unfold State.reportLineEnd
  split
  · exact h
  · exact (((h.updRx p rfl).endCutThrough p .ta _).endCutThrough p .tb _).settleLine p _ report bytes

theorem abandonArrival (h : s.SwitchKept t) (p : Port) : s.SwitchKept (t.abandonArrival p) := by
  unfold State.abandonArrival
  split
  · exact h
  · exact (reportLineEnd (h.of_frame (x := { t with freeUsed := t.freeUsed + 1 }) rfl rfl rfl) p .failed _).updRx p rfl

end State.SwitchKept

end Sys2Proof.Machine

/-! # Proofs: what the ports, the orders and time keep of the outputs and the channels -/

namespace Sys2Proof.Machine

/-! ## Arrivals -/

namespace State.SwitchKept

variable {s t : State}

theorem countReceived (h : s.SwitchKept t) (p : Port) : s.SwitchKept (t.countReceived p) := h.updArrivals p _

theorem countFraming (h : s.SwitchKept t) (p : Port) : s.SwitchKept (t.countFraming p) := h.updArrivals p _

theorem countShape (h : s.SwitchKept t) (p : Port) : s.SwitchKept (t.countShape p) := h.updArrivals p _

theorem countFault (h : s.SwitchKept t) (p : Port) (fault : PacketFault) : s.SwitchKept (t.countFault p fault) := by
  cases fault with
  | check => exact h.updArrivals p (fun c => { c with check := bumpError c.check })
  | shape => exact h.countShape p

theorem countPoisoned (h : s.SwitchKept t) (p : Port) : s.SwitchKept (t.countPoisoned p) := by
  cases p with
  | cam i => exact h
  | trunk u => exact h.updTrunkCounters u (fun c => { c with poisoned := bumpError c.poisoned })

theorem setIgnoring (h : s.SwitchKept t) (p : Port) (b : Bool) : s.SwitchKept (t.setIgnoring p b) := h.updRx p rfl

theorem clearUnformed (h : s.SwitchKept t) (p : Port) : s.SwitchKept (t.clearUnformed p) := h.updRx p rfl

theorem markUnformed (h : s.SwitchKept t) (p : Port) (u : UnformedLine) : s.SwitchKept (t.markUnformed p u) := h.updRx p rfl

theorem judgeHighLine (h : s.SwitchKept t) (p : Port) : s.SwitchKept (t.judgeHighLine p) :=
  (h.reportLineEnd p .failed []).countShape p

theorem takeHeader (h : s.SwitchKept t) (p : Port) (stream : Byte) (frame line : Nat) :
    s.SwitchKept (t.takeHeader p stream frame line) :=
  ite _ (((h.judgeHighLine p).setIgnoring p true).markUnformed p _)
    (((h.reportLineEnd p .failed []).setIgnoring p false).switchLineHeader p _ frame line)

theorem ensureHeader (h : s.SwitchKept t) (p : Port) (bytes : List Byte) : s.SwitchKept (t.ensureHeader p bytes) :=
  ite _ h (h.takeHeader p _ _ _)

theorem framingFault (h : s.SwitchKept t) (p : Port) (cause : FramingCause) (bytes : List Byte) :
    s.SwitchKept (t.framingFault p cause bytes) := by
  have hhead : s.SwitchKept (if hasLineHeader bytes then (t.setIgnoring p false).ensureHeader p bytes else t) :=
    ite _ ((h.setIgnoring p false).ensureHeader p bytes) h
  exact ite _ ((h.judgeHighLine p).setIgnoring p _) (((hhead.countFraming p).reportLineEnd p .failed bytes).setIgnoring p _)

theorem overLongEnd (h : s.SwitchKept t) (p : Port) (bytes : List Byte) : s.SwitchKept (t.overLongEnd p bytes) :=
  (ite _ h (h.framingFault p .overLong bytes)).setIgnoring p false

/-- A packet that is over keeps what the port keeps that deals with it. -/
theorem packetOver (h : s.SwitchKept t) (p : Port) (bytes : List Byte) (goesOn : Bool) (f : State → State)
    (hf : ∀ {x : State}, s.SwitchKept x → s.SwitchKept (f x)) : s.SwitchKept (t.packetOver p bytes goesOn f) :=
  ite _ (hf (h.clearUnformed p)) ((h.clearUnformed p).setIgnoring p goesOn)

theorem takeOrder (h : s.SwitchKept t) (a : Trunk) (dest code tag : Byte) (params : List Byte) :
    s.SwitchKept (t.takeOrder a dest code tag params) := by
  have hc : ∀ b, s.SwitchKept (t.updOrders (fun u => u.consume a b code tag params)) := fun b => h.of_frame rfl rfl rfl
  unfold State.takeOrder
  dsimp only
  (repeat' split)
  · exact (hc true).forward a _ _
  · exact h.forward a _ _
  · exact hc false
  · exact h.forward a _ _
  · exact h.forward a _ _

theorem handFrameOpen (h : s.SwitchKept t) (p : Port) (k : Fin 256) (frame : Nat) (grade : Grade) (home : Nat) :
    s.SwitchKept (t.handFrameOpen p k frame grade home) := by
  have hr := h.countReceived p
  cases p with
  | cam i =>
    have hcam : s.SwitchKept ((t.countReceived (.cam i)).openCameraFrame i frame) := hr.of_frame (by simp) (by simp) (by simp)
    exact hcam.switchFrameOpen _ _ _ _ _
  | trunk u => exact hr.switchFrameOpen _ _ _ _ _

theorem handFrameClose (h : s.SwitchKept t) (p : Port) (k : Fin 256) (frame : Nat) (status : CloseStatus) :
    s.SwitchKept (t.handFrameClose p k frame status) := by
  have hr := h.countReceived p
  cases p with
  | cam i =>
    have hcam : s.SwitchKept ((t.countReceived (.cam i)).closeCameraFrame i frame status) :=
      hr.of_frame (by simp) (by simp) (by simp)
    exact hcam.switchFrameClose _ _ _ _
  | trunk u => exact hr.switchFrameClose _ _ _ _

theorem handLine (h : s.SwitchKept t) (p : Port) (frame line : Nat) (pixels bytes : List Byte) :
    s.SwitchKept (t.handLine p frame line pixels bytes) := by
  have hr := h.countReceived p
  cases p with
  | cam i =>
    have hcam : s.SwitchKept ((t.countReceived (.cam i)).cameraLine i frame line pixels) := hr.of_frame (by simp) (by simp) (by simp)
    exact hcam.reportLineEnd _ .good bytes
  | trunk u => exact hr.reportLineEnd _ .good bytes

theorem handOn (h : s.SwitchKept t) (p : Port) (packet : Packet) (bytes : List Byte) : s.SwitchKept (t.handOn p packet bytes) := by
  unfold State.handOn
  split
  · exact h.handFrameOpen p _ _ _ _
  · exact h.handFrameClose p _ _ _
  · exact h.handLine p _ _ _ bytes
  · exact (h.countReceived _).takeOrder _ _ _ _ _
  · exact (h.countReceived _).forward _ _ _
  · exact h
  · exact h

theorem judgeArrival (h : s.SwitchKept t) (p : Port) (bytes : List Byte) : s.SwitchKept (t.judgeArrival p bytes) := by
  unfold State.judgeArrival
  split
  · exact (h.countFault p _).reportLineEnd p .failed bytes
  · exact h.handOn p _ bytes

theorem packetEnd (h : s.SwitchKept t) (p : Port) (bytes : List Byte) : s.SwitchKept (t.packetEnd p bytes) :=
  ite _ (h.overLongEnd p bytes)
    (ite _ (ite _ ((h.judgeHighLine p).setIgnoring p false) (((h.setIgnoring p false).ensureHeader p bytes).judgeArrival p bytes))
      (((h.reportLineEnd p .failed []).setIgnoring p false).judgeArrival p bytes))

theorem discardPoisoned (h : s.SwitchKept t) (p : Port) (bytes : List Byte) : s.SwitchKept (t.discardPoisoned p bytes) := by
  cases p with
  | cam i => exact (h.countShape _).reportLineEnd _ .failed bytes
  | trunk u => exact (h.countPoisoned _).reportLineEnd _ .failed bytes

theorem poisonedArrival (h : s.SwitchKept t) (p : Port) (bytes : List Byte) : s.SwitchKept (t.poisonedArrival p bytes) := by
  have he := (h.setIgnoring p false).ensureHeader p bytes
  exact ite _ (h.overLongEnd p bytes)
    (ite _ (ite _ ((h.judgeHighLine p).setIgnoring p false)
        (ite _ (((he.countPoisoned p).countReceived p).reportLineEnd p .poisoned bytes) (he.discardPoisoned p bytes)))
      (((h.reportLineEnd p .failed []).setIgnoring p false).discardPoisoned p bytes))

/-! ## Links -/

theorem linkUp (h : s.SwitchKept t) (p : Port) : s.SwitchKept (t.linkUp p) := by
  unfold State.linkUp
  split
  · refine ⟨fun hs => ?_, fun hs => ((h.channels hs).congr (t := t.updRx p (fun x => { x with link := .up })) (fun c => ?_) fun k => ?_)⟩
    · have ht := h.outputs hs
      refine State.OutputsBounded.of_trunks (s := t.updRx p (fun x => { x with link := .up })) (fun u => ?_) rfl
      rw [out_updRx]
      refine ⟨(ht u).1, fun hd => (ht u).2 ?_⟩
      rw [trunkUp_eq, rx_updRx] at hd
      split at hd
      · simp at hd
      · exact hd
    · exact channel_congr (updRx_channels ..) c
    · rw [streamRec_congr (updRx_streams ..)]
  · exact h

/-- A trunk whose link goes DOWN empties its output (R37). -/
theorem outputLinkDown (h : s.SwitchKept t) {x : State} {u : Trunk} (g : t.SameSwitch (some (.trunk u)) x) :
    s.SwitchKept (x.outputLinkDown u) where
  outputs hs v := by
    have hup : (x.outputLinkDown u).trunkUp v = x.trunkUp v := by rw [trunkUp_eq, rx_outputLinkDown, ← trunkUp_eq]
    have hout : (x.outputLinkDown u).out v = if v = u then
        { x.out u with mgmt := [], video := [], waiting := [], sending := .idle } else x.out v :=
      out_updOut x u v (fun o => { o with mgmt := [], video := [], waiting := [], sending := .idle })
    rw [hout]
    split
    · exact ⟨⟨Nat.zero_le _, Nat.zero_le _, nofun, nofun, .nil⟩, fun _ => ⟨rfl, rfl, rfl, rfl⟩⟩
    · next e =>
      rw [hup, g.out, g.up v fun he => e (by simpa using he.symm)]
      exact h.outputs hs v
  channels hs := by
    refine (h.channels hs).congr (fun c => g.channel c) fun k => ?_
    rw [← g.entry]
    simp only [State.streamRec, State.outputLinkDown, Tab.get_map]
    unfold StreamRecord.linkLost
    split <;> rfl

/-- A port that is lost has its output emptied, if it is a trunk's, and closes its streams (R12, R13, R37). -/
theorem portLost (h : s.SwitchKept t) {x : State} {p : Port} (g : t.SameSwitch (some p) x) : s.SwitchKept (x.portLost p) := by
  cases p with
  | cam i =>
    have hx : s.SwitchKept x := h.same ⟨g.out, fun u _ => g.up u (by simp), g.channel, g.entry⟩
    have hlost : s.SwitchKept (x.loseCameraFrame i) := hx.of_frame (by simp) (by simp) (by simp)
    exact hlost.originLoss _
  | trunk u => exact (h.outputLinkDown g).originLoss _

theorem linkDown (h : s.SwitchKept t) (p : Port) (arrived : Option (List Byte)) : s.SwitchKept (t.linkDown p arrived) := by
  have hdown : ∀ {x : State}, s.SwitchKept x → ∀ n,
      s.SwitchKept (((x.updRx p (fun r => { r with link := .down, unformed := none, ignoring := false })).offer n).portLost p) :=
    fun hx n => hx.portLost (((SameSwitch.refl _ _).updRx_lost _).of_frame rfl rfl rfl)
  unfold State.linkDown
  split
  · exact hdown (ite _ (h.framingFault p _ _) (h.reportLineEnd p _ _)) _
  · exact h

theorem disablePort (h : s.SwitchKept t) (i : Fin 8) : s.SwitchKept (t.disablePort i) := by
  have hlost : s.SwitchKept (((t.abandonArrival (.cam i)).stopLens i).loseCameraFrame i) :=
    (h.abandonArrival (.cam i)).of_frame (by simp [State.stopLens]) (by simp [State.stopLens]) (by simp [State.stopLens])
  exact hlost.originLoss _

theorem restartPort (h : s.SwitchKept t) (p : Port) : s.SwitchKept (t.restartPort p) := by
  have ha := h.abandonArrival p
  have hdown := ((SameSwitch.refl (some p) (t.abandonArrival p)).updRx_lost
    (fun x => { x with link := .down, hold := some Config.holdTime, ignoring := false })).clearErrors p
  have hoff : ∀ b n, (t.abandonArrival p).SameSwitch (some p) (State.offerIf _ b n) := fun b n =>
    hdown.of_frame (offerIf_frame _ b n).2.1 (offerIf_frame _ b n).2.2.2.1 (offerIf_frame _ b n).2.2.1
  cases p with
  | cam i => exact ha.portLost ((hoff _ _).of_frame (lensEvent_frame ..).2.1 (lensEvent_frame ..).2.2.2.1 (lensEvent_frame ..).2.2.1)
  | trunk u => exact ha.portLost (hoff _ _)

/-! ## Screens -/

theorem updScreen (h : s.SwitchKept t) (sc : Fin 2) (f : Screen → Screen) : s.SwitchKept (t.updScreen sc f) := h.of_frame rfl rfl rfl

/-- A fold keeps what each of its steps keeps. -/
theorem foldl {β : Type} {f : State → β → State} (hf : ∀ {x : State} b, s.SwitchKept x → s.SwitchKept (f x b)) (l : List β)
    (h : s.SwitchKept t) : s.SwitchKept (l.foldl f t) := by
  induction l generalizing t with
  | nil => exact h
  | cons b rest ih => exact ih (hf b h)

theorem releaseWhere (h : s.SwitchKept t) (sc : Fin 2) (f : Fin 12 → Bool) : s.SwitchKept (t.releaseWhere sc f) :=
  foldl (fun c hx => ite _ ((hx.channelEvent c (Channel.keepsConsistent_release sc)).updScreen sc _) hx) _ h

theorem takeWhere (h : s.SwitchKept t) (sc : Fin 2) (drawn : Fin 12 → Bool) : s.SwitchKept (t.takeWhere sc drawn) :=
  foldl (fun c hx => ite _ ((hx.channelEvent c (Channel.keepsConsistent_take sc)).updScreen sc _) hx) _ h

theorem disableScreen (h : s.SwitchKept t) (sc : Fin 2) : s.SwitchKept (t.disableScreen sc) := (h.releaseWhere sc _).updScreen sc _

theorem frameStart (h : s.SwitchKept t) (sc : Fin 2) : s.SwitchKept (t.frameStart sc) := by
  have hb := h.updScreen sc Screen.beginFrame
  exact ite _ hb (((hb.takeWhere sc _).releaseWhere sc _).updScreen sc _)

end State.SwitchKept

/-! ## LOAD-STREAM (R21, R22) -/

/-- The hub with the open frame of a stream closed, and its cut flags cleared if one was open (R22 step 1). -/
def State.closedFor (s : State) (k : Fin 256) : State :=
  if (s.streamRec k).flow.isOpen then (s.closeCut k).updFlow k (fun f => { f with cut := ⟨false, false⟩ }) else s

/-- The hub with a stream's entry written, the channel that it no longer names unbound and the one newly named bound (R22, R45, R46). -/
def State.rerouted (s : State) (k : Fin 256) (e : StreamEntry) : State :=
  let old := (s.streamRec k).entry
  let x := if old.channel ≠ e.channel then s.deliver old Channel.unbind else s
  let y := x.updStream k (fun r => { r with entry := e })
  if old.channel ≠ e.channel then y.deliver e (Channel.bind k) else y

/-- The channel that an entry names is named by another valid entry (R21 check 7). -/
theorem State.channelTaken_iff (s : State) (k : Fin 256) (e : StreamEntry) :
    (e.channel.map (s.channelTaken k)).getD false = true ↔
      ∃ c j, e.channel = some c ∧ j ≠ k ∧ (s.streamRec j).entry.valid = true ∧ (s.streamRec j).entry.channel = some c := by
  cases hc : e.channel with
  | none => simp
  | some c => simp [State.channelTaken, and_assoc]

theorem State.entry_closedFor (s : State) (j k : Fin 256) : ((s.closedFor k).streamRec j).entry = (s.streamRec j).entry := by
  have h := s.entry_closeIfOpen k j
  unfold State.closeIfOpen at h
  unfold State.closedFor
  split
  · next ho =>
    rw [if_pos ho] at h
    rwa [entry_updFlow]
  · rfl

/-- LOAD-STREAM on accepted fields (R21, R22). -/
theorem loadStreamEffect_accepted {ps : List Byte} {s : State} {k : Fin 256} {e : StreamEntry} (hr : readLoadStream ps = some (k, e))
    (hf : (e.channel.map (s.channelTaken k)).getD false ≠ true) :
    loadStreamEffect ps s = ((s.closedFor k).rerouted k e, .done false) := by
  have he := s.entry_closedFor k k
  unfold loadStreamEffect
  rw [hr]
  dsimp only
  rw [if_neg hf]
  unfold State.rerouted
  rw [he]
  rfl

/-- An entry that LOAD-STREAM reads as not valid holds the reset values (R21). -/
theorem readLoadStream_invalid {ps : List Byte} {k : Fin 256} {e : StreamEntry} (h : readLoadStream ps = some (k, e))
    (hv : e.valid = false) : e = .reset := by
  unfold readLoadStream at h
  simp only [Option.bind_eq_bind, Option.bind_eq_some_iff] at h
  obtain ⟨valid, -, ta, -, tb, -, ca, -, cb, -, h⟩ := h
  split at h
  · next hvalid =>
    simp only [Option.bind_eq_some_iff] at h
    obtain ⟨origin, -, c, -, h⟩ := h
    have he : e.valid = valid := by
      (repeat' split at h) <;> cases h <;> rfl
    rw [hv] at he
    exact absurd hvalid (by simp [← he])
  · cases h
    rfl

@[simp] theorem State.streamRec_deliver (s : State) (e : StreamEntry) (f : Channel → Channel) (j : Fin 256) :
    (s.deliver e f).streamRec j = s.streamRec j := streamRec_congr (deliver_frame ..).2.2.1 j

theorem State.streamRec_rerouted (s : State) (k j : Fin 256) (e : StreamEntry) :
    (s.rerouted k e).streamRec j = if j = k then { s.streamRec k with entry := e } else s.streamRec j := by
  unfold State.rerouted
  by_cases hj : j = k
  · subst hj
    dsimp only
    (repeat' split) <;> simp_all
  · dsimp only
    (repeat' split) <;> simp_all

/-- Only the channels of the old and the new route change, and only when the routes name different ones (R22, R45, R46). -/
theorem State.channel_rerouted (s : State) (k : Fin 256) (e : StreamEntry) (c : Fin 12) :
    (s.rerouted k e).channel c =
      if (s.streamRec k).entry.channel = e.channel then s.channel c
      else if e.channel = some c then (s.channel c).bind k
      else if (s.streamRec k).entry.channel = some c then (s.channel c).unbind else s.channel c := by
  have hwrite : ∀ x : State, (x.updStream k (fun r => { r with entry := e })).channel c = x.channel c := fun _ => rfl
  unfold State.rerouted
  by_cases hsame : (s.streamRec k).entry.channel = e.channel
  · simp [hsame, hwrite]
  · rw [if_neg hsame]
    dsimp only
    rw [if_pos hsame, if_pos hsame, channel_deliver, hwrite, channel_deliver]
    by_cases hnew : e.channel = some c
    · rw [if_pos hnew, if_neg fun ho => hsame (ho.trans hnew.symm), if_pos hnew]
    · rw [if_neg hnew, if_neg hnew]

/-- A stream may be rerouted to a channel that no other entry names: streams and channels go on naming each other (R21, R45, R46). -/
theorem State.ChannelsConsistent.rerouted {s : State} (h : s.ChannelsConsistent) {k : Fin 256} {e : StreamEntry}
    (hreset : e.valid = false → e = .reset)
    (hfree : ∀ c j, e.channel = some c → j ≠ k → (s.streamRec j).entry.channel ≠ some c) : (s.rerouted k e).ChannelsConsistent := by
  obtain ⟨hcons, hname, hinvalid⟩ := h
  have hentry : ∀ j, ((s.rerouted k e).streamRec j).entry = if j = k then e else (s.streamRec j).entry := fun j => by
    rw [streamRec_rerouted]
    split <;> rfl
  have hunbound : ∀ c, (s.streamRec k).entry.channel ≠ e.channel → e.channel = some c → (s.channel c).stream = none := fun c hne hc => by
    by_contra hb
    obtain ⟨j, hj⟩ := Option.ne_none_iff_exists'.1 hb
    have hjc := (hname j c).2 hj
    by_cases hjk : j = k
    · exact hne (by rw [← hjk, hjc, hc])
    · exact hfree c j hc hjk hjc
  refine ⟨fun c => ?_, fun j c => ?_, fun j => ?_⟩
  · rw [channel_rerouted]
    split
    · exact hcons c
    · next hne =>
      split
      · next hc => exact (hcons c).bind (hunbound c hne hc) k
      · split
        · exact (hcons c).unbind
        · exact hcons c
  · rw [hentry, channel_rerouted]
    by_cases hsame : (s.streamRec k).entry.channel = e.channel
    · rw [if_pos hsame, ← hname]
      split
      · next hj => rw [hj, hsame]
      · exact Iff.rfl
    · rw [if_neg hsame]
      by_cases hc : e.channel = some c
      · rw [if_pos hc]
        split
        · next hj => simp [hj, hc, Channel.bind]
        · next hj => exact ⟨fun hjc => absurd hjc (hfree c j hc hj), fun hk => absurd (Option.some.inj hk).symm hj⟩
      · rw [if_neg hc]
        by_cases hold : (s.streamRec k).entry.channel = some c
        · rw [if_pos hold]
          refine ⟨fun hjc => ?_, nofun⟩
          split at hjc
          · exact absurd hjc hc
          · next hj => exact absurd (Option.some.inj (((hname j c).1 hjc).symm.trans ((hname k c).1 hold))) hj
        · rw [if_neg hold, ← hname]
          split
          · next hj => rw [hj]; exact ⟨fun he => absurd he hc, fun ho => absurd ho hold⟩
          · exact Iff.rfl
  · rw [hentry]
    split
    · exact hreset
    · exact hinvalid j

/-- Where a channel is named by no other valid entry it is named by no other entry (R21). -/
theorem State.ChannelsConsistent.not_named {s : State} (h : s.ChannelsConsistent) {k : Fin 256} {e : StreamEntry}
    (hf : (e.channel.map (s.channelTaken k)).getD false ≠ true) (c : Fin 12) (j : Fin 256) (hc : e.channel = some c) (hj : j ≠ k) :
    (s.streamRec j).entry.channel ≠ some c := by
  intro hjc
  refine hf ((s.channelTaken_iff k e).2 ⟨c, j, hc, hj, ?_, hjc⟩)
  by_contra hv
  rw [h.2.2 j (by simpa using hv)] at hjc
  cases hjc

namespace State.SwitchKept

variable {s t : State}

theorem closedFor (h : s.SwitchKept t) (k : Fin 256) : s.SwitchKept (t.closedFor k) :=
  ite _ ((h.closeCut k).updFlow k _) h

end State.SwitchKept

/-! ## Orders -/

/-- The effect of an order keeps the outputs and the channels. -/
def KeepsSwitch (effect : State → State × Answer) : Prop := ∀ s : State, s.SwitchKept (effect s).1

/-- An effect that leaves the trunks, the channels and the streams as they are. -/
theorem KeepsSwitch.of_frame {effect : State → State × Answer} (h : ∀ s, (effect s).1.trunks = s.trunks ∧
    (effect s).1.channels = s.channels ∧ (effect s).1.streams = s.streams) : KeepsSwitch effect := fun s => by
  obtain ⟨ht, hc, hs⟩ := h s
  exact (State.SwitchKept.refl s).of_frame ht hc hs

theorem keepsSwitch_setPort (ps : List Byte) : KeepsSwitch (setPortEffect ps) := by
  intro s
  have hr := State.SwitchKept.refl s
  unfold setPortEffect
  split
  · exact hr
  · next o _ =>
    dsimp only
    split
    · exact hr
    · have hset : s.SwitchKept (s.updCam o.port (fun c => { c with
          enable := o.enable, stream := o.stream, profile := o.profile })) := hr.of_frame rfl rfl rfl
      have hprofile : ∀ (b : Prop) [Decidable b] {x : State}, s.SwitchKept x →
          s.SwitchKept (if b then x.lensEvent o.port Lens.scaleChanged else x) := fun b _ x hx =>
        .ite b (hx.of_frame (by simp) (by simp) (by simp)) hx
      exact hprofile _ (.ite _ (hset.disablePort o.port) (.ite _ (hset.originLoss _) hset))

theorem keepsSwitch_restartPort (ps : List Byte) : KeepsSwitch (restartPortEffect ps) := by
  intro s
  unfold restartPortEffect
  split
  · exact .refl s
  · next p _ =>
    dsimp only
    exact (State.SwitchKept.refl s).restartPort p

theorem keepsSwitch_loadStream (ps : List Byte) : KeepsSwitch (loadStreamEffect ps) := by
  intro s
  have hr := State.SwitchKept.refl s
  cases hread : readLoadStream ps with
  | none => simpa [loadStreamEffect, hread] using hr
  | some ke =>
    obtain ⟨k, e⟩ := ke
    by_cases hf : (e.channel.map (s.channelTaken k)).getD false = true
    · simpa [loadStreamEffect, hread, hf] using hr
    · rw [loadStreamEffect_accepted hread hf]
      have hclosed := hr.closedFor k
      refine ⟨fun hs => (hclosed.outputs hs).of_trunks ?_, fun hs => ?_⟩
      · unfold State.rerouted
        dsimp only
        (repeat' split) <;> simp
      · refine (hclosed.channels hs).rerouted (readLoadStream_invalid hread) fun c j hc hj => ?_
        rw [s.entry_closedFor]
        exact hs.not_named hf c j hc hj

theorem keepsSwitch_setChannel (ps : List Byte) : KeepsSwitch (setChannelEffect ps) := by
  intro s
  have hr := State.SwitchKept.refl s
  unfold setChannelEffect
  split
  · exact hr
  · next o ho =>
    have hset := hr.updChannel o.channel (Channel.keepsConsistent_settings ho)
    exact .ite _ ((hset.channelEvent _ Channel.keepsConsistent_compareStale).channelEvent _ Channel.keepsConsistent_compareLost) hset

theorem keepsSwitch_setScreen (ps : List Byte) : KeepsSwitch (setScreenEffect ps) := by
  intro s
  have hr := State.SwitchKept.refl s
  unfold setScreenEffect
  split
  · exact hr
  · next o _ =>
    have hset := hr.updScreen o.screen (fun x => { x with enable := o.enable, defaultView := o.defaultView })
    have hview : ∀ (b : Prop) [Decidable b] {x : State}, s.SwitchKept x → s.SwitchKept (if b then x.recompute o.screen else x) :=
      fun b _ x hx => .ite b (hx.of_frame (by simp) (by simp) (by simp)) hx
    exact .ite _ ((hview _ hset).disableScreen o.screen) (hview _ hset)

theorem keepsSwitch_clearCounts (ps : List Byte) : KeepsSwitch (clearCountsEffect ps) := by
  intro s
  have hr := State.SwitchKept.refl s
  unfold clearCountsEffect
  split
  · exact hr.of_frame rfl rfl rfl
  · next p _ =>
    have ha := hr.updArrivals p (fun _ => .zero)
    cases p with
    | cam i => exact ha
    | trunk u => exact ha.updTrunkCounters u (fun _ => .zero)
  · exact hr.updChannel _ (Channel.keepsConsistent_count fun _ => .zero)
  · exact hr

theorem keepsSwitch_loadView (ps : List Byte) : KeepsSwitch (loadViewEffect ps) := .of_frame fun s => by
  unfold loadViewEffect
  split <;> simp

theorem keepsSwitch_loadTrigger (ps : List Byte) : KeepsSwitch (loadTriggerEffect ps) := .of_frame fun s => by
  unfold loadTriggerEffect
  split <;> simp

theorem keepsSwitch_setLines (ps : List Byte) : KeepsSwitch (setLinesEffect ps) := .of_frame fun s => by simp [setLinesEffect]

theorem keepsSwitch_pinView (ps : List Byte) : KeepsSwitch (pinViewEffect ps) := .of_frame fun s => by
  unfold pinViewEffect
  split <;> simp

theorem keepsSwitch_releaseView (ps : List Byte) : KeepsSwitch (releaseViewEffect ps) := .of_frame fun s => by
  unfold releaseViewEffect
  split <;> simp

theorem keepsSwitch_loadProfile (ps : List Byte) : KeepsSwitch (loadProfileEffect ps) := .of_frame fun s => by
  unfold loadProfileEffect
  dsimp only
  (repeat' split) <;> simp

theorem keepsSwitch_learn (ps : List Byte) : KeepsSwitch (learnEffect ps) := .of_frame fun s => by
  unfold learnEffect
  split <;> simp

theorem keepsSwitch_setAlert (ps : List Byte) : KeepsSwitch (setAlertEffect ps) := .of_frame fun s => by
  unfold setAlertEffect
  split <;> simp

theorem keepsSwitch_query (ps : List Byte) : KeepsSwitch (queryEffect ps) := .of_frame fun s => by
  unfold queryEffect
  dsimp only
  (repeat' split) <;> simp

theorem keepsSwitch_queryZones (ps : List Byte) : KeepsSwitch (queryZonesEffect ps) := .of_frame fun s => by
  unfold queryZonesEffect
  split <;> simp

theorem keepsSwitch_baselines (ps : List Byte) : KeepsSwitch (baselinesEffect ps) := .of_frame fun s => by
  unfold baselinesEffect
  (repeat' split) <;> simp

theorem EntryKind.keepsSwitch_effect (k : EntryKind) (ps : List Byte) : KeepsSwitch (k.effect ps) := by
  cases k with
  | hub => exact .of_frame fun _ => ⟨rfl, rfl, rfl⟩
  | port => exact keepsSwitch_setPort ps
  | profile => exact keepsSwitch_loadProfile ps
  | baselines => exact keepsSwitch_baselines ps
  | stream => exact keepsSwitch_loadStream ps
  | channel => exact keepsSwitch_setChannel ps
  | view => exact keepsSwitch_loadView ps
  | trigger => exact keepsSwitch_loadTrigger ps
  | filterTimes => exact keepsSwitch_setLines _
  | screen => exact keepsSwitch_setScreen ps
  | alert => exact keepsSwitch_setAlert ps

namespace State.SwitchKept

theorem onOrder (s : State) (codes : Byte → Bool) {run : Fin 2 → HeldOrder → State → State} (hr : ∀ i o, s.SwitchKept (run i o s)) :
    s.SwitchKept (s.onOrder codes run) := by
  unfold State.onOrder
  split
  · exact ite _ (hr _ _) (refl s)
  · exact refl s

theorem carryOut (s : State) (lengthOk : Bool) {effect : State → State × Answer} (he : KeepsSwitch effect) :
    s.SwitchKept (s.carryOut lengthOk effect).1 := by
  unfold State.carryOut
  (repeat' split)
  · exact refl s
  · exact refl s
  · exact he s

theorem answer {s t : State} (h : s.SwitchKept t) (i : Fin 2) (o : HeldOrder) (a : Answer) : s.SwitchKept (t.answer i o a) :=
  h.of_frame rfl rfl rfl

theorem runOrder (s : State) (code : Byte) (length : Nat) {effect : List Byte → State → State × Answer}
    (he : ∀ ps, KeepsSwitch (effect ps)) : s.SwitchKept (s.runOrder code length effect) :=
  onOrder s _ fun i o => (carryOut s _ (he o.params)).answer i o _

/-! ## The load, the SAVE job, the resets and time -/

theorem applyNext (s : State) : s.SwitchKept s.applyNext := by
  have ha : ∀ e, s.SwitchKept (s.applyEntry e) := fun e =>
    ite _ ((refl s).of_frame rfl rfl rfl) (e.kind.keepsSwitch_effect _ s)
  unfold State.applyNext
  split
  · next e todo _ => exact (ha e).of_frame (by simp) (by simp) (by simp)
  · exact refl s
  · exact refl s
  · exact refl s

/-- The flash, the job and what the load has read are no part of either invariant. -/
theorem loaderEvents (s : State) : s.SwitchKept s.eraseDone ∧ s.SwitchKept s.eraseTimeout ∧ s.SwitchKept s.pageDone ∧
    s.SwitchKept s.pageTimeout ∧ ∀ answers, s.SwitchKept (s.judgeLoad answers) := by
  refine ⟨?_, ?_, ?_, ?_, fun answers => ?_⟩
  · unfold State.eraseDone
    (repeat' split) <;> exact (refl s).of_frame (by simp) (by simp) (by simp)
  · unfold State.eraseTimeout
    (repeat' split) <;> exact (refl s).of_frame (by simp) (by simp) (by simp)
  · unfold State.pageDone
    dsimp only
    (repeat' split) <;> exact (refl s).of_frame (by simp) (by simp) (by simp)
  · unfold State.pageTimeout
    (repeat' split) <;> exact (refl s).of_frame (by simp) (by simp) (by simp)
  · unfold State.judgeLoad
    split <;> exact (refl s).of_frame (by simp) (by simp) (by simp)

/-- After a reset the outputs are empty and every channel is unbound (R41, R64). -/
theorem resetWith (s : State) (cause : ResetCause) (tag : Option Byte) (held : Bool) (straps : BitVec 4) (raw : Vector Bool 8)
    (flash : Flash) (n : Nat) (l : List Instr) : s.SwitchKept (State.resetWith cause tag held straps raw flash n l) := by
  have hout : ∀ u, (State.resetWith cause tag held straps raw flash n l).out u = .reset := fun u => by cases u <;> rfl
  have hchannel : ∀ c, (State.resetWith cause tag held straps raw flash n l).channel c = .reset := fun c => by
    simp [State.channel, State.resetWith]
  have hrec : ∀ k, (State.resetWith cause tag held straps raw flash n l).streamRec k = .reset := fun k => by
    simp [State.streamRec, State.resetWith]
  refine ⟨fun _ u => ?_, fun _ => ⟨fun c => ?_, fun k c => ?_, fun k _ => ?_⟩⟩
  · rw [hout]
    exact ⟨⟨Nat.zero_le _, Nat.zero_le _, nofun, nofun, .nil⟩, fun _ => ⟨rfl, rfl, rfl, rfl⟩⟩
  · rw [hchannel]
    exact Channel.consistent_reset
  · rw [hchannel, hrec]
    exact ⟨nofun, nofun⟩
  · rw [hrec]
    rfl

theorem takeReset (s x : State) (cause : ResetCause) (tag : Option Byte) (held : Bool) (straps : BitVec 4) :
    s.SwitchKept (x.takeReset cause tag held straps) := resetWith s _ _ _ _ _ _ _ _

theorem saveSettings (s : State) (i : Fin 2) (o : HeldOrder) : s.SwitchKept (s.saveSettings i o) := by
  unfold State.saveSettings
  (repeat' split) <;> exact (refl s).of_frame rfl rfl rfl

theorem resetHub (s : State) (i : Fin 2) (o : HeldOrder) : s.SwitchKept (s.resetHub i o) := by
  unfold State.resetHub
  (repeat' split)
  · exact (refl s).answer i o _
  · exact (refl s).answer i o _
  · exact takeReset s _ _ _ _ _

/-! ## One step -/

theorem onCommand (s : State) (c : Instr) : s.SwitchKept (s.onCommand c) := by
  have h := refl s
  obtain ⟨heraseDone, heraseTimeout, hpageDone, hpageTimeout, hjudge⟩ := loaderEvents s
  cases c with
  | powerOn straps => exact takeReset s _ _ _ _ _
  | resetLineAsserted => exact takeReset s _ _ _ _ _
  | resetLineReleased straps => exact h
  | framingFault p cause bytes => exact h.packetOver p bytes _ _ fun hx => hx.framingFault p cause bytes
  | lineHeader p stream frame line =>
    exact ite _ ((h.clearUnformed p).takeHeader p stream _ _) ((h.setIgnoring p false).markUnformed p _)
  | packetEnd p bytes => exact h.packetOver p bytes _ _ fun hx => hx.packetEnd p bytes
  | poisonedArrival p bytes => exact h.packetOver p bytes _ _ fun hx => hx.poisonedArrival p bytes
  | linkUp p => exact h.linkUp p
  | linkDown p arrived => exact h.linkDown p arrived
  | restartHoldEnd p => exact h.updRx p (f := fun x => { x with hold := none }) rfl
  | transmissionStart u => exact h.transmissionStart u
  | transmissionEnd u => exact h.transmissionEnd u
  | frameAgeStale c => exact h.channelEvent c Channel.keepsConsistent_ageStale
  | frameAgeLost c => exact h.channelEvent c Channel.keepsConsistent_ageLost
  | doorLineChange d level => exact h.of_frame (x := s.doorChange d level) (by simp) (by simp) (by simp)
  | filterWaitExpiry d => exact h.of_frame (x := s.filterExpiry d) (by simp) (by simp) (by simp)
  | lingerExpiry n => exact h.of_frame (x := s.lingerExpiry n) (by simp) (by simp) (by simp)
  | silenceExpiry => exact h.of_frame (x := s.silenceExpiry) (by simp) (by simp) (by simp)
  | outputFrameStart sc => exact h.frameStart sc
  | pulseBoundary a => exact h.of_frame rfl rfl rfl
  | noticeMove => exact h.moveNotice
  | presence =>
    have he : KeepsSwitch (fun s => (s, .done false)) := .of_frame fun _ => ⟨rfl, rfl, rfl⟩
    exact runOrder s 1 0 fun _ => he
  | setHub => exact runOrder s 2 2 fun _ => .of_frame fun _ => ⟨rfl, rfl, rfl⟩
  | setPort => exact runOrder s 3 4 keepsSwitch_setPort
  | restartPort => exact runOrder s 4 1 keepsSwitch_restartPort
  | loadStream => exact runOrder s 5 8 keepsSwitch_loadStream
  | setChannel => exact runOrder s 6 6 keepsSwitch_setChannel
  | loadView =>
    simp only [State.onCommand]
    exact onOrder s _ fun i o => (carryOut s _ (keepsSwitch_loadView _)).answer i o _
  | setScreen => exact runOrder s 8 3 keepsSwitch_setScreen
  | loadTrigger => exact runOrder s 9 10 keepsSwitch_loadTrigger
  | setLines => exact runOrder s 10 11 keepsSwitch_setLines
  | pinView => exact runOrder s 11 3 keepsSwitch_pinView
  | releaseView => exact runOrder s 12 1 keepsSwitch_releaseView
  | loadProfile => exact runOrder s 13 13 keepsSwitch_loadProfile
  | learn => exact runOrder s 14 1 keepsSwitch_learn
  | setAlert => exact runOrder s 15 9 keepsSwitch_setAlert
  | query => exact runOrder s 16 3 keepsSwitch_query
  | queryZones => exact runOrder s 17 1 keepsSwitch_queryZones
  | clearCounts => exact runOrder s 18 2 keepsSwitch_clearCounts
  | saveSettings =>
    simp only [State.onCommand]
    exact onOrder s _ fun i o => saveSettings s i o
  | resetHub =>
    simp only [State.onCommand]
    exact onOrder s _ fun i o => resetHub s i o
  | badCode =>
    have he : KeepsSwitch (fun s => (s, .refused .badCode)) := .of_frame fun _ => ⟨rfl, rfl, rfl⟩
    simp only [State.onCommand]
    exact onOrder s _ fun i o => (carryOut s _ he).answer i o _
  | eraseDone => exact heraseDone
  | eraseTimeout => exact heraseTimeout
  | pageDone => exact hpageDone
  | pageTimeout => exact hpageTimeout
  | imageJudged answers => exact hjudge answers
  | imageEntryApply => exact applyNext s

theorem onCommandHeld (s : State) (c : Instr) : s.SwitchKept (s.onCommandHeld c) := by
  unfold State.onCommandHeld
  split
  · exact takeReset s _ _ _ _ _
  · exact (refl s).of_frame rfl rfl rfl
  · exact (refl s).of_frame rfl rfl rfl
  · exact refl s

/-- A millisecond that passes while nothing is due (R15, R59, R60). -/
theorem tick {s : State} (hdue : s.due = []) : s.SwitchKept s.tick where
  outputs hs u := by
    have hout : s.tick.out u = s.out u := by cases u <;> rfl
    have hup : s.tick.trunkUp u = s.trunkUp u := by cases u <;> rfl
    rw [hout, hup]
    exact hs u
  channels hs := by
    obtain ⟨hcons, hname, hreset⟩ := hs
    have hchannel : ∀ c, s.tick.channel c = (s.channel c).tick := fun c => by simp [State.channel, State.tick]
    refine ⟨fun c => ?_, fun k c => ?_, hreset⟩
    · rw [hchannel]
      exact (hcons c).tick (State.age_below_limits hdue c)
    · rw [hchannel]
      exact hname k c

/-- Every step keeps the outputs and the channels. -/
theorem step {s t : State} (h : Machine.step s = .next t) : s.SwitchKept t := by
  have hexec : ∀ (c : Instr) {x : State}, s.SwitchKept x → exec c x = .next t → s.SwitchKept t := fun c x hx he => by
    have hx' : x.SwitchKept (if x.held then x.onCommandHeld c else x.onCommand c) := ite _ (onCommandHeld x c) (onCommand x c)
    rw [exec_eq] at he
    injection he with he
    subst he
    exact ⟨fun hs => hx'.outputs (hx.outputs hs), fun hs => hx'.channels (hx.channels hs)⟩
  unfold Machine.step at h
  split at h
  · next c rest _ =>
    have hrest : s.SwitchKept { s with pending := rest } := (refl s).of_frame rfl rfl rfl
    exact hexec c hrest h
  · split at h
    · exact hexec _ (refl s) h
    · next hnone =>
      injection h with h
      subst h
      unfold State.idle
      split
      · exact refl s
      · next hheld =>
        rw [State.idleCommand, if_neg hheld, List.head?_eq_none_iff] at hnone
        exact tick hnone

end State.SwitchKept

/-- Settles O53: every step keeps what the outputs say of their bounds and of a DOWN link. -/
theorem everyStepKeepsOutputsBounded : Obligations.EveryStepKeepsOutputsBounded := fun _ _ hs h => (State.SwitchKept.step h).outputs hs

/-- Settles O55: every step keeps the channels consistent, a millisecond because nothing was due. -/
theorem everyStepKeepsChannelsConsistent : Obligations.EveryStepKeepsChannelsConsistent := fun _ _ hs h =>
  (State.SwitchKept.step h).channels hs

end Sys2Proof.Machine

/-! # Proofs: the management packets that travel on (R32, R152, R153, R169) -/

namespace Sys2Proof.Machine

/-! ## A management packet at an output -/

/-- A management packet offered after a receiver's change: the output finds the link and the queue as they were (R32). -/
theorem State.offerMgmt_of_received {s r : State} {u : Trunk} (hup : r.trunkUp u = s.trunkUp u) (hout : r.out u = s.out u)
    (e : MgmtEntry) : r.offerMgmt u e =
      if s.trunkUp u = false then r
      else if (s.out u).mgmt.length < 8 then r.updOut u (fun o => { o with mgmt := o.mgmt ++ [e] })
      else r.updTrunkCounters u (fun c => { c with mgmtDrops := min (c.mgmtDrops + 1) 65535 }) := by
  unfold State.offerMgmt
  rw [hup, hout]
  cases s.trunkUp u <;> rfl

/-- What a packet out of one trunk does, and what it does with the order unit, do not meet. -/
theorem State.offerMgmt_updOrders (s : State) (f : OrderUnit → OrderUnit) (u : Trunk) (e : MgmtEntry) :
    (s.updOrders f).offerMgmt u e = { s.offerMgmt u e with orders := f s.orders } := by
  unfold State.offerMgmt
  rw [State.trunkUp_updOrders, State.out_updOrders]
  (repeat' split) <;> rfl

theorem State.forward_of_ne (s : State) {a t : Trunk} (h : t ≠ a) (e : MgmtEntry) : s.forward a t e = s.offerMgmt t e := if_neg h

theorem State.forward_self (s : State) (a : Trunk) (e : MgmtEntry) :
    s.forward a a e = s.updTrunkCounters a (fun c => { c with unroutable := min (c.unroutable + 1) 65535 }) := if_pos rfl

theorem Trunk.other_ne (a : Trunk) : a.other ≠ a := by cases a <;> decide

/-! ## Where an order goes -/

theorem State.takeOrder_broadcast (s : State) (a : Trunk) {dest : Byte} (h : dest.toNat = 0) (code tag : Byte) (params : List Byte) :
    s.takeOrder a dest code tag params = { s.offerMgmt a.other ⟨.order dest code tag params, some s.orders.nextSeq⟩ with
      orders := s.orders.consume a true code tag params } := by
  unfold State.takeOrder
  dsimp only
  rw [if_pos h, State.forward_of_ne _ a.other_ne, State.offerMgmt_updOrders]

/-- A hub without a number passes on what is for another (R153). -/
theorem State.takeOrder_unplaced {s : State} {dest : Byte} (h0 : dest.toNat ≠ 0) (hown : s.orders.hub.number = 0) (a : Trunk)
    (code tag : Byte) (params : List Byte) :
    s.takeOrder a dest code tag params = s.offerMgmt a.other ⟨.order dest code tag params, none⟩ := by
  unfold State.takeOrder
  dsimp only
  rw [if_neg h0, if_pos hown, State.forward_of_ne _ a.other_ne]

theorem State.takeOrder_lower {s : State} {dest : Byte} (h0 : dest.toNat ≠ 0) (hlow : dest.toNat < s.orders.hub.number) (a : Trunk)
    (code tag : Byte) (params : List Byte) :
    s.takeOrder a dest code tag params = s.forward a .ta ⟨.order dest code tag params, none⟩ := by
  unfold State.takeOrder
  dsimp only
  rw [if_neg h0, if_neg (by omega), if_neg (by omega), if_pos hlow]

theorem State.takeOrder_higher {s : State} {dest : Byte} (hown : s.orders.hub.number ≠ 0) (hhigh : s.orders.hub.number < dest.toNat)
    (a : Trunk) (code tag : Byte) (params : List Byte) :
    s.takeOrder a dest code tag params = s.forward a .tb ⟨.order dest code tag params, none⟩ := by
  unfold State.takeOrder
  dsimp only
  rw [if_neg (by omega), if_neg hown, if_neg (by omega), if_neg (by omega)]

/-! ## The settlement -/

theorem length_wire_order (dest code tag : Byte) (params : List Byte) :
    (Packet.order dest code tag params).wire.length = params.length + 7 := by
  simp only [Packet.wire_eq, Packet.body, List.length_append, List.length_cons, List.length_nil, length_byte2, byte1]
  omega

theorem length_wire_notice (source code subject lost : Byte) (params : List Byte) :
    (Packet.notice source code subject lost params).wire.length = params.length + 8 := by
  simp only [Packet.wire_eq, Packet.body, List.length_append, List.length_cons, List.length_nil, length_byte2, byte1]
  omega

/-- Settles O12: where each packet goes, then what the output there makes of it. -/
theorem managementPacketsTravel : Obligations.ManagementPacketsTravel := by
  intro a p s h hp received onward unroutable
  have honward : ∀ u copy, received.offerMgmt u ⟨p, copy⟩ = onward u copy := fun u copy =>
    State.offerMgmt_of_received (State.trunkUp_updRx_of_link s rfl u) (State.out_updRx ..) _
  have hforward : ∀ t : Trunk, received.forward a t ⟨p, none⟩ = if a = t then unroutable else onward t none := fun t => by
    split
    · next heq =>
      subst heq
      exact State.forward_self ..
    · next hne => rw [State.forward_of_ne _ (Ne.symm hne), honward]
  refine ⟨fun dest code tag params hpacket => ?_, fun source code subject lost params hpacket => ?_⟩
  · subst hpacket
    have hlen : params.length ≤ 192 := hp
    have hnext : exec (.packetEnd (.trunk a) (Packet.order dest code tag params).wire) s =
        .next (received.takeOrder a dest code tag params) :=
      h.exec_wire (readPacket_order dest code tag hlen) rfl (by rw [length_wire_order]; omega)
    rw [hnext]
    refine ⟨fun h0 hown => ?_, fun h0 hlow => ?_, fun hown hhigh => ?_, fun h0 => ?_⟩
    · rw [State.takeOrder_unplaced (s := received) h0 hown, honward]
    · rw [State.takeOrder_lower (s := received) h0 hlow, hforward]
    · rw [State.takeOrder_higher (s := received) hown hhigh, hforward]
    · rw [State.takeOrder_broadcast _ _ h0, ← honward]
      rfl
  · subst hpacket
    have hlen : params.length ≤ 192 := hp
    have hnext : exec (.packetEnd (.trunk a) (Packet.notice source code subject lost params).wire) s =
        .next (received.forward a a.other ⟨.notice source code subject lost params, none⟩) :=
      h.exec_wire (readPacket_notice source code subject lost hlen) rfl (by rw [length_wire_notice]; omega)
    rw [hnext, State.forward_of_ne _ a.other_ne, honward]

end Sys2Proof.Machine

/-! # Proofs: a picture packet at a trunk output (R34, R35, R37) -/

namespace Sys2Proof.Machine

/-! ## A waiting list with one packet of the stream -/

theorem Packet.ofStream_iff {k : Fin 256} {p : Packet} : p.ofStream k = true ↔ p.stream = some k := by simp [Packet.ofStream]

theorem Packet.ofStream_eq_false_iff {k : Fin 256} {p : Packet} : p.ofStream k = false ↔ p.stream ≠ some k := by simp [Packet.ofStream]

section
variable {k : Fin 256} {waiting before after : List Packet} {w : Packet}

theorem find_ofStream_eq_none (h : ∀ x ∈ waiting, x.stream ≠ some k) : waiting.find? (Packet.ofStream k) = none :=
  List.find?_eq_none.2 fun x hx => Packet.ofStream_iff.not.2 (h x hx)

theorem find_ofStream_eq_some (hw : w.stream = some k) (hbefore : ∀ x ∈ before, x.stream ≠ some k) :
    (before ++ w :: after).find? (Packet.ofStream k) = some w := by
  rw [List.find?_append, find_ofStream_eq_none hbefore, Option.none_or, List.find?_cons_of_pos (Packet.ofStream_iff.2 hw)]

theorem filter_not_ofStream_of_none (h : ∀ x ∈ waiting, x.stream ≠ some k) : waiting.filter (fun q => !q.ofStream k) = waiting :=
  List.filter_eq_self.2 fun x hx => by rw [Packet.ofStream_eq_false_iff.2 (h x hx)]; rfl

theorem map_ofStream_of_none (p : Packet) (h : ∀ x ∈ waiting, x.stream ≠ some k) :
    waiting.map (fun q => if q.ofStream k then p else q) = waiting :=
  (List.map_congr_left fun x hx => if_neg (Packet.ofStream_iff.not.2 (h x hx))).trans (List.map_id' waiting)

end

/-! ## A FRAME-OPEN or FRAME-CLOSE at an output (R35) -/

section
variable {k : Fin 256} {p : Packet} {o : Output}

theorem Output.control_of_place (hw : ∀ x ∈ o.waiting, x.stream ≠ some k) (hv : o.video.length < 24) :
    o.control k p = ({ o with video := o.video ++ [p] }, 0) := by
  unfold Output.control
  rw [find_ofStream_eq_none hw]
  exact if_pos hv

theorem Output.control_of_full (hw : ∀ x ∈ o.waiting, x.stream ≠ some k) (hv : 24 ≤ o.video.length) :
    o.control k p = ({ o with waiting := o.waiting ++ [p] }, 0) := by
  unfold Output.control
  rw [find_ofStream_eq_none hw]
  exact if_neg (by simpa [Config.videoPlaces] using hv)

variable {before after : List Packet} {w : Packet}

/-- The FRAME-CLOSE of a FRAME-OPEN that still waits: both are discarded (R35). -/
theorem Output.control_of_both (hwait : o.waiting = before ++ w :: after) (hw : w.stream = some k)
    (hother : ∀ x ∈ before ++ after, x.stream ≠ some k) (hopen : w.isFrameOpen = true) (hclose : p.isFrameClose = true) :
    o.control k p = ({ o with waiting := before ++ after }, 2) := by
  obtain ⟨hbefore, hafter⟩ := List.forall_mem_append.1 hother
  have hrest : o.waiting.filter (fun q => !q.ofStream k) = before ++ after := by
    rw [hwait, List.filter_append, List.filter_cons_of_neg (by simp [Packet.ofStream_iff.2 hw]), filter_not_ofStream_of_none hbefore,
      filter_not_ofStream_of_none hafter]
  unfold Output.control
  rw [hrest, hwait, find_ofStream_eq_some hw hbefore]
  simp [hopen, hclose]

/-- Any other packet takes the place of the one that waits (R35, entry 25). -/
theorem Output.control_of_replaced (hwait : o.waiting = before ++ w :: after) (hw : w.stream = some k)
    (hother : ∀ x ∈ before ++ after, x.stream ≠ some k) (hkeep : (w.isFrameOpen && p.isFrameClose) = false) :
    o.control k p = ({ o with waiting := before ++ p :: after }, 1) := by
  obtain ⟨hbefore, hafter⟩ := List.forall_mem_append.1 hother
  have hput : o.waiting.map (fun q => if q.ofStream k then p else q) = before ++ p :: after := by
    rw [hwait, List.map_append, List.map_cons, map_ofStream_of_none p hbefore, map_ofStream_of_none p hafter,
      if_pos (Packet.ofStream_iff.2 hw)]
  unfold Output.control
  rw [hput, hwait, find_ofStream_eq_some hw hbefore]
  simp [hkeep]

end

theorem State.sendControl_of_up {s : State} {u : Trunk} {k : Fin 256} {p : Packet} {o : Output} {n : Nat} (hup : s.trunkUp u = true)
    (hc : (s.out u).control k p = (o, n)) :
    s.sendControl u k p = if n = 0 then s.updOut u (fun _ => o) else (s.updOut u (fun _ => o)).countQueueCuts u n := by
  unfold State.sendControl
  rw [hup, hc]
  rfl

/-! ## A stored LINE at an output (R34) -/

theorem Output.frameOpenWaits_iff {k : Fin 256} {o : Output} :
    o.frameOpenWaits k = true ↔ ∃ w ∈ o.waiting, w.stream = some k ∧ w.isFrameOpen = true := by
  simp [Output.frameOpenWaits, Packet.ofStream]

section
variable {s : State} {u : Trunk} {k : Fin 256} (p : Packet)

theorem State.offerLine_of_down (h : s.trunkUp u = false) : s.offerLine u k p = s.setCut u k := by
  unfold State.offerLine
  rw [h]
  rfl

theorem State.offerLine_of_up (h : s.trunkUp u = true) : s.offerLine u k p =
    if (s.streamRec k).flow.cut.get u = true then s.countQueueCuts u 1
    else if (s.out u).frameOpenWaits k || decide (24 ≤ (s.out u).video.length) then (s.setCut u k).countQueueCuts u 1
    else s.updOut u (fun o => { o with video := o.video ++ [p] }) := by
  unfold State.offerLine
  rw [h]
  rfl

theorem State.offerLine_of_cut (h : s.trunkUp u = true) (hcut : (s.streamRec k).flow.cut.get u = true) :
    s.offerLine u k p = s.countQueueCuts u 1 := by
  rw [State.offerLine_of_up p h, if_pos hcut]

theorem State.offerLine_of_no_room (h : s.trunkUp u = true) (hcut : (s.streamRec k).flow.cut.get u = false)
    (hroom : (∃ w ∈ (s.out u).waiting, w.stream = some k ∧ w.isFrameOpen = true) ∨ 24 ≤ (s.out u).video.length) :
    s.offerLine u k p = (s.setCut u k).countQueueCuts u 1 := by
  have hfull : ((s.out u).frameOpenWaits k || decide (24 ≤ (s.out u).video.length)) = true := by
    simpa [Output.frameOpenWaits_iff] using hroom
  rw [State.offerLine_of_up p h, if_neg (Bool.eq_false_iff.1 hcut), if_pos hfull]

theorem State.offerLine_of_room (h : s.trunkUp u = true) (hcut : (s.streamRec k).flow.cut.get u = false)
    (hopen : ∀ w ∈ (s.out u).waiting, w.stream = some k → w.isFrameOpen = false) (hroom : (s.out u).video.length < 24) :
    s.offerLine u k p = s.updOut u (fun o => { o with video := o.video ++ [p] }) := by
  have hnone : (s.out u).frameOpenWaits k = false := by
    rw [← Bool.not_eq_true, Output.frameOpenWaits_iff]
    rintro ⟨w, hw, hk, ho⟩
    exact Bool.eq_false_iff.1 (hopen w hw hk) ho
  rw [State.offerLine_of_up p h, if_neg (Bool.eq_false_iff.1 hcut), if_neg (by simpa [hnone] using hroom)]

end

/-! ## The settlement -/

theorem Packet.not_isFrameOpen_of_isFrameClose {p : Packet} (h : p.isFrameClose = true) : p.isFrameOpen = false := by
  cases p with
  | frameClose k f st => rfl
  | frameOpen k f g home | line k f n pixels | order dest code tag params | notice source code subject lost params => cases h

/-- Settles O20: the link, then the cut flag and the room for a LINE, and what waits of the stream for the other two. -/
theorem outputTakesPicturePackets : Obligations.OutputTakesPicturePackets := by
  intro u k p s _
  refine ⟨fun hdown => ⟨State.offerLine_of_down p hdown, State.sendControl_of_down hdown k p⟩, fun hup => ?_⟩
  refine ⟨State.offerLine_of_cut p hup, State.offerLine_of_no_room p hup, State.offerLine_of_room p hup, fun hw hv => ?_, fun hw hv => ?_,
    fun before w after hwait hw hother => ⟨fun hopen hclose => ?_, fun hclose hopen => ?_⟩⟩
  · rw [State.sendControl_of_up hup (Output.control_of_place hw hv), if_pos rfl]
    exact State.updOut_congr s u rfl
  · rw [State.sendControl_of_up hup (Output.control_of_full hw hv), if_pos rfl]
    exact State.updOut_congr s u rfl
  · rw [State.sendControl_of_up hup (Output.control_of_both hwait hw hother hopen hclose), if_neg (by decide)]
    exact congrArg (State.countQueueCuts · u 2) (State.updOut_congr s u rfl)
  · have hkeep : (w.isFrameOpen && p.isFrameClose) = false := by rw [Packet.not_isFrameOpen_of_isFrameClose hclose]; rfl
    rw [State.sendControl_of_up hup (Output.control_of_replaced hwait hw hother hkeep), if_neg (by decide)]
    exact congrArg (State.countQueueCuts · u 1) (State.updOut_congr s u rfl)

end Sys2Proof.Machine

/-! # Proofs: origin loss stream by stream, and the outputs of its routes (R28, R35, R37) -/

namespace Sys2Proof.Machine

/-! ## The FRAME-CLOSE of a stream at an output -/

section
variable {k : Fin 256} {p : Packet} {o : Output}

/-- What an output makes of a FRAME-OPEN or FRAME-CLOSE goes behind its video queue or does not reach it (R35). -/
theorem Output.video_control (k : Fin 256) (p : Packet) (o : Output) :
    (o.control k p).1.video = o.video ∨ (o.control k p).1.video = o.video ++ [p] := by
  unfold Output.control
  split
  · split
    · exact .inr rfl
    · exact .inl rfl
  · split <;> exact .inl rfl

/-- The waiting packets of the other streams stay. -/
theorem Output.mem_waiting_control {w : Packet} (hp : p.stream = some k) (hw : w.stream ≠ some k) :
    w ∈ (o.control k p).1.waiting ↔ w ∈ o.waiting := by
  have hne : w ≠ p := fun e => hw (e ▸ hp)
  unfold Output.control
  split
  · split
    · rfl
    · simp [hne]
  · split
    · simp [Packet.ofStream, hw]
    · refine List.mem_map.trans ⟨fun ⟨q, hq, hqw⟩ => ?_, fun hq => ⟨w, hq, if_neg (Packet.ofStream_iff.not.2 hw)⟩⟩
      by_cases hk : q.ofStream k = true
      · rw [if_pos hk] at hqw
        exact absurd hqw.symm hne
      · rw [if_neg hk] at hqw
        exact hqw ▸ hq

/-- The packet itself is behind the video queue or waits, when none of its stream waited. -/
theorem Output.mem_control (hw : ∀ w ∈ o.waiting, w.stream ≠ some k) :
    p ∈ (o.control k p).1.video.drop o.video.length ++ (o.control k p).1.waiting := by
  by_cases hv : o.video.length < 24
  · rw [Output.control_of_place hw hv]
    simp
  · rw [Output.control_of_full hw (by omega)]
    simp

/-- A FRAME-CLOSE takes a waiting FRAME-OPEN of its stream with it. -/
theorem Output.not_waiting_control (hex : ∃ w ∈ o.waiting, w.stream = some k)
    (hopen : ∀ w ∈ o.waiting, w.stream = some k → w.isFrameOpen = true) (hp : p.isFrameClose = true) :
    ∀ w ∈ (o.control k p).1.waiting, w.stream ≠ some k := by
  unfold Output.control
  split
  · next hnone =>
    obtain ⟨w, hw, hk⟩ := hex
    exact absurd (Packet.ofStream_iff.2 hk) (List.find?_eq_none.1 hnone w hw)
  · next w hsome =>
    have hw : w.isFrameOpen = true := hopen w (List.mem_of_find?_eq_some hsome) (Packet.ofStream_iff.1 (List.find?_some hsome))
    rw [if_pos (by simp [hw, hp])]
    intro x hx
    simpa [Packet.ofStream] using (List.mem_filter.1 hx).2

end

/-! ## Induction over the streams that origin loss closes -/

/-- The FRAME-CLOSE CUT of the open frame of a stream. -/
def State.cutOf (s : State) (k : Fin 256) : Packet := .frameClose k (s.streamRec k).flow.frame .cut

/-- A hub on the way through origin loss from `s`: the links are those of `s`, and so are the stream records that are still open. -/
structure State.Closing (s x : State) : Prop where
  up : ∀ u, x.trunkUp u = s.trunkUp u
  opened : ∀ k, (x.streamRec k).flow.isOpen = true → x.streamRec k = s.streamRec k

section
variable {s x : State} {p : Port} {k : Fin 256} {u : Trunk}

theorem State.Closing.closeCut (h : s.Closing x) (k : Fin 256) : s.Closing (x.closeCut k) where
  up u := by rw [State.trunkUp_closeCut, h.up]
  opened j hj := by
    by_cases hjk : j = k
    · rw [hjk, State.streamRec_closeCut_self] at hj
      cases hj
    · rw [State.streamRec_closeCut_of_ne x hjk] at hj ⊢
      exact h.opened j hj

/-- What holds before and through each closing holds after origin loss. -/
theorem State.originLoss_induction {P : State → Prop} (hstart : P s)
    (hstep : ∀ x k, s.Closing x → (x.streamRec k).flow.isOpen = true → (s.streamRec k).closesFor p = true → P x → P (x.closeCut k)) :
    P (s.originLoss p) := by
  have hall : ∀ x : State, s.Closing x → P x → P (x.originLoss p) := by
    unfold State.originLoss
    induction List.finRange 256 with
    | nil => exact fun x _ hx => hx
    | cons k rest ih =>
      intro x hclosing hx
      rw [List.foldl_cons]
      dsimp only
      split
      · next hcloses =>
        have hopen : (x.streamRec k).flow.isOpen = true := ((StreamRecord.closesFor_iff _ p).1 hcloses).1
        exact ih _ (hclosing.closeCut k) (hstep x k hclosing hopen (hclosing.opened k hopen ▸ hcloses) hx)
      · exact ih x hclosing hx
  exact hall s ⟨fun _ => rfl, fun _ _ => rfl⟩ hstart

/-- An output after one closing: it took the FRAME-CLOSE CUT if the route includes it and its link is UP. -/
theorem State.Closing.out_closeCut (h : s.Closing x) (hk : (x.streamRec k).flow.isOpen = true) (u : Trunk) :
    (x.closeCut k).out u =
      if (s.streamRec k).entry.sendTo.get u = true ∧ s.trunkUp u = true then ((x.out u).control k (s.cutOf k)).1 else x.out u := by
  rw [State.out_closeCut, h.opened k hk, ← State.cutOf, State.outAfter, h.up, ite_and]

/-! ## What the outputs make of it -/

theorem State.out_originLoss_of_unrouted
    (h : ∀ k, (s.streamRec k).closesFor p = true → (s.streamRec k).entry.sendTo.get u = false) : (s.originLoss p).out u = s.out u := by
  refine State.originLoss_induction (P := fun x => x.out u = s.out u) rfl fun x k hclosing hopen hk hx => ?_
  rw [hclosing.out_closeCut hopen, if_neg (by simp [h k hk]), hx]

/-- The video queue only grows at its tail, by FRAME-CLOSE CUTs of the closed streams. -/
theorem State.video_originLoss (s : State) (p : Port) (u : Trunk) :
    ∃ more, ((s.originLoss p).out u).video = (s.out u).video ++ more ∧
      ∀ q ∈ more, ∃ k, (s.streamRec k).closesFor p = true ∧ (s.streamRec k).entry.sendTo.get u = true ∧ q = s.cutOf k := by
  refine State.originLoss_induction (P := fun x => ∃ more, (x.out u).video = (s.out u).video ++ more ∧
    ∀ q ∈ more, ∃ k, (s.streamRec k).closesFor p = true ∧ (s.streamRec k).entry.sendTo.get u = true ∧ q = s.cutOf k)
    ⟨[], by simp⟩ fun x k hclosing hopen hk ⟨more, hvideo, hmore⟩ => ?_
  rw [hclosing.out_closeCut hopen]
  split
  · next hroute =>
    rcases Output.video_control k (s.cutOf k) (x.out u) with hsame | hgrown
    · exact ⟨more, hsame.trans hvideo, hmore⟩
    · refine ⟨more ++ [s.cutOf k], by rw [hgrown, hvideo, List.append_assoc], fun q hq => ?_⟩
      rcases List.mem_append.1 hq with hq | hq
      · exact hmore q hq
      · exact ⟨k, hk, hroute.1, List.mem_singleton.1 hq⟩
  · exact ⟨more, hvideo, hmore⟩

end

/-- Seen from one stream: what holds of an output while the stream is open (`before`) and after it is closed (`after`), through origin
loss. -/
theorem State.out_originLoss_of_closes {s : State} {p : Port} {k : Fin 256} {u : Trunk} {before after : Output → Prop}
    (hk : (s.streamRec k).closesFor p = true) (hroute : (s.streamRec k).entry.sendTo.get u = true) (hup : s.trunkUp u = true)
    (hstart : before (s.out u)) (hclose : ∀ o, before o → after (o.control k (s.cutOf k)).1)
    (hbefore : ∀ o j, j ≠ k → before o → before (o.control j (s.cutOf j)).1)
    (hafter : ∀ o j, j ≠ k → after o → after (o.control j (s.cutOf j)).1) : after ((s.originLoss p).out u) := by
  have hopen : (s.streamRec k).flow.isOpen = true := ((StreamRecord.closesFor_iff _ p).1 hk).1
  have hend : ((s.originLoss p).streamRec k).flow.isOpen = false := by rw [State.streamRec_originLoss, if_pos hk]
  have hboth : (((s.originLoss p).streamRec k).flow.isOpen = true → before ((s.originLoss p).out u)) ∧
      (((s.originLoss p).streamRec k).flow.isOpen = false → after ((s.originLoss p).out u)) := by
    refine State.originLoss_induction (P := fun x => ((x.streamRec k).flow.isOpen = true → before (x.out u)) ∧
      ((x.streamRec k).flow.isOpen = false → after (x.out u))) ⟨fun _ => hstart, fun hc => ?_⟩ fun x j hclosing hj _ ⟨ho, hc⟩ => ?_
    · rw [hopen] at hc
      cases hc
    · rw [hclosing.out_closeCut hj]
      by_cases hjk : j = k
      · subst hjk
        rw [State.streamRec_closeCut_self, if_pos ⟨hroute, hup⟩]
        exact ⟨fun h => (Bool.false_ne_true h).elim, fun _ => hclose _ (ho hj)⟩
      · rw [State.streamRec_closeCut_of_ne x (Ne.symm hjk)]
        split
        · exact ⟨fun h => hbefore _ j hjk (ho h), fun h => hafter _ j hjk (hc h)⟩
        · exact ⟨ho, hc⟩
  exact hboth.2 hend

/-- An output that holds this packet behind the first `n` places of its video queue, or waiting. -/
def Output.Holds (n : Nat) (q : Packet) (o : Output) : Prop := n ≤ o.video.length ∧ q ∈ o.video.drop n ++ o.waiting

theorem Output.length_video_control {n : Nat} {o : Output} (h : n ≤ o.video.length) (k : Fin 256) (q : Packet) :
    n ≤ (o.control k q).1.video.length := by
  rcases Output.video_control k q o with hsame | hgrown
  · rwa [hsame]
  · rw [hgrown, List.length_append]
    omega

/-- What an output holds of a stream it keeps when it takes a packet of another one. -/
theorem Output.Holds.control {n : Nat} {q r : Packet} {o : Output} {j k : Fin 256} (h : o.Holds n q) (hq : q.stream = some k)
    (hr : r.stream = some j) (hjk : j ≠ k) : (o.control j r).1.Holds n q := by
  obtain ⟨hlen, hmem⟩ := h
  refine ⟨Output.length_video_control hlen j r, ?_⟩
  have hne : q.stream ≠ some j := fun e => hjk (Option.some.inj (e.symm.trans hq))
  rcases List.mem_append.1 hmem with hvideo | hwait
  · refine List.mem_append_left _ ?_
    rcases Output.video_control j r o with hsame | hgrown
    · rwa [hsame]
    · rw [hgrown, List.drop_append_of_le_length hlen]
      exact List.mem_append_left _ hvideo
  · exact List.mem_append_right _ ((Output.mem_waiting_control hr hne).2 hwait)

section
variable {s : State} {p : Port} {k : Fin 256} {u : Trunk}
  (hk : (s.streamRec k).closesFor p = true) (hroute : (s.streamRec k).entry.sendTo.get u = true) (hup : s.trunkUp u = true)
include hk hroute hup

/-- An output where nothing of the stream waits has its FRAME-CLOSE CUT behind what it held. -/
theorem State.cutOf_mem_originLoss (hw : ∀ w ∈ (s.out u).waiting, w.stream ≠ some k) :
    s.cutOf k ∈ ((s.originLoss p).out u).video.drop (s.out u).video.length ++ ((s.originLoss p).out u).waiting := by
  refine (State.out_originLoss_of_closes (before := fun o => (s.out u).video.length ≤ o.video.length ∧
    ∀ w ∈ o.waiting, w.stream ≠ some k) (after := Output.Holds (s.out u).video.length (s.cutOf k)) hk hroute hup ⟨le_rfl, hw⟩
    (fun o ⟨hlen, hnone⟩ => ⟨Output.length_video_control hlen k _, ?_⟩)
    (fun o j hjk ⟨hlen, hnone⟩ => ⟨Output.length_video_control hlen j _, fun w hw hwk => ?_⟩)
    fun o j hjk ho => ho.control rfl rfl hjk).2
  · rcases List.mem_append.1 (Output.mem_control (p := s.cutOf k) hnone) with hvideo | hwait
    · exact List.mem_append_left _ (List.drop_subset_drop_left _ hlen hvideo)
    · exact List.mem_append_right _ hwait
  · have hwj : w.stream ≠ some j := fun e => hjk (Option.some.inj (e.symm.trans hwk))
    exact hnone w ((Output.mem_waiting_control rfl hwj).1 hw) hwk

/-- An output where a FRAME-OPEN of the stream waits gives it up (R35). -/
theorem State.not_waiting_originLoss (hex : ∃ w ∈ (s.out u).waiting, w.stream = some k)
    (hopen : ∀ w ∈ (s.out u).waiting, w.stream = some k → w.isFrameOpen = true) :
    ∀ w ∈ ((s.originLoss p).out u).waiting, w.stream ≠ some k := by
  have hother : ∀ {o : Output} {j : Fin 256} {w : Packet}, j ≠ k → w.stream = some k →
      (w ∈ (o.control j (s.cutOf j)).1.waiting ↔ w ∈ o.waiting) := fun hjk hwk =>
    Output.mem_waiting_control rfl fun e => hjk (Option.some.inj (e.symm.trans hwk))
  refine State.out_originLoss_of_closes (before := fun o => (∃ w ∈ o.waiting, w.stream = some k) ∧
    ∀ w ∈ o.waiting, w.stream = some k → w.isFrameOpen = true) (after := fun o => ∀ w ∈ o.waiting, w.stream ≠ some k)
    hk hroute hup ⟨hex, hopen⟩ (fun o ⟨ho, hall⟩ => Output.not_waiting_control ho hall rfl)
    (fun o j hjk ⟨⟨w, hw, hwk⟩, hall⟩ => ⟨⟨w, (hother hjk hwk).2 hw, hwk⟩, fun x hx hxk => hall x ((hother hjk hxk).1 hx) hxk⟩)
    fun o j hjk ho w hw hwk => ho w ((hother hjk hwk).1 hw) hwk

end

/-! ## The settlement -/

theorem State.streamRec_originLoss_of_origin {s : State} {p : Port} {k : Fin 256}
    (h : (s.streamRec k).entry.valid = true ∧ (s.streamRec k).entry.origin = p) :
    (s.originLoss p).streamRec k = { s.streamRec k with flow := { (s.streamRec k).flow with isOpen := false } } := by
  rw [State.streamRec_originLoss]
  split
  · rfl
  · next hk =>
    have hclosed : (s.streamRec k).flow.isOpen = false :=
      Bool.eq_false_of_not_eq_true fun ho => hk ((StreamRecord.closesFor_iff _ p).2 ⟨ho, h⟩)
    rw [← hclosed]

/-- Settles O21: the streams, the channels by the stream that each is bound to, and the outputs of the routes. -/
theorem originLossClosesStreams : Obligations.OriginLossClosesStreams := by
  intro p s hs lost
  have hcloses : ∀ {k}, lost k → (s.streamRec k).closesFor p = true := fun ⟨hv, hp, ho⟩ =>
    (StreamRecord.closesFor_iff _ p).2 ⟨ho, hv, hp⟩
  have hlost : ∀ {k}, (s.streamRec k).closesFor p = true → lost k := fun h => by
    obtain ⟨ho, hv, hp⟩ := (StreamRecord.closesFor_iff _ p).1 h
    exact ⟨hv, hp, ho⟩
  refine ⟨fun k hk => State.streamRec_originLoss_of_origin hk, fun k hk => ?_, fun c k hc ho hp => ?_, fun c hc => ?_,
    fun u k hk hroute hup => ⟨?_, ?_⟩, fun u hu => ?_, fun u => ?_⟩
  · rw [State.streamRec_originLoss, if_neg fun h => hk ⟨(hlost h).1, (hlost h).2.1⟩]
  · obtain ⟨hentry, hvalid⟩ := hs.valid hc
    refine State.channel_originLoss_of_closes s p c k (hcloses ⟨hvalid, hp, ho⟩) hentry fun j hj => ?_
    exact Option.some.inj ((hs.bound hj).symm.trans hc)
  · refine State.channel_originLoss_of_ne s p c fun k hk hck => ?_
    obtain ⟨_, hp, ho⟩ := hlost hk
    rcases hc k (hs.bound hck) with hclosed | horigin
    · simp [ho] at hclosed
    · exact horigin hp
  · exact State.cutOf_mem_originLoss (hcloses hk) hroute hup
  · exact State.not_waiting_originLoss (hcloses hk) hroute hup
  · rcases hu with hnone | hdown
    · exact State.out_originLoss_of_unrouted fun k hk => hnone k (hlost hk)
    · rw [State.out, State.trunk_originLoss_of_down hdown, ← State.out]
  · obtain ⟨more, hvideo, hmore⟩ := s.video_originLoss p u
    refine ⟨more, hvideo, fun q hq => ?_⟩
    obtain ⟨k, hk, hroute, rfl⟩ := hmore q hq
    exact ⟨k, hlost hk, hroute, rfl⟩

end Sys2Proof.Machine

/-! # Proofs: the fields of LOAD-STREAM (R21) -/

namespace Sys2Proof.Machine

/-- A yes/no field of one byte. -/
theorem flagOf_byte (x : Byte) : flagOf x.toNat = if x = 0 ∨ x = 1 then some (decide (x = 1)) else none := by
  by_cases h0 : x = 0
  · subst h0; rfl
  · by_cases h1 : x = 1
    · subst h1; rfl
    · rw [if_neg (not_or.2 ⟨h0, h1⟩), flagOf_none (fun h => h0 (BitVec.eq_of_toNat_eq h)) (fun h => h1 (BitVec.eq_of_toNat_eq h))]

/-- A port field names each port by its code. -/
theorem portCode_of_portOf {n : Nat} {p : Port} (h : portOf n = some p) : portCode p = n := by
  unfold portOf instanceOf at h
  by_cases h8 : n < 8
  · rw [dif_pos h8] at h
    cases h
    rfl
  · rw [dif_neg h8] at h
    dsimp only at h
    split at h
    · next hn => cases h; exact hn.symm
    · split at h
      · next hn => cases h; exact hn.symm
      · cases h

theorem channelOrNoneOf_of_le {n : Nat} (h : n ≤ 12) : channelOrNoneOf n = some (if h : n < 12 then some ⟨n, h⟩ else none) := by
  unfold channelOrNoneOf instanceOf
  by_cases h12 : n < 12
  · simp [h12]
  · simp [show n = 12 by omega]

theorem channelOrNoneOf_of_lt {n : Nat} (h : 12 < n) : channelOrNoneOf n = none := by
  unfold channelOrNoneOf
  rw [instanceOf_eq_none (by omega)]
  exact if_neg (by omega)

section
variable {b0 v b2 ta tb b5 ca cb : Byte}

/-- A flag field with another value than 0 or 1 is refused (R21 check 1). -/
theorem readLoadStream_eq_none_of_flags
    (h : ¬((v = 0 ∨ v = 1) ∧ (ta = 0 ∨ ta = 1) ∧ (tb = 0 ∨ tb = 1) ∧ (ca = 0 ∨ ca = 1) ∧ (cb = 0 ∨ cb = 1))) :
    readLoadStream [b0, v, b2, ta, tb, b5, ca, cb] = none := by
  have hflag : ∀ {x : Byte} {b : Bool}, flagOf x.toNat = some b → x = 0 ∨ x = 1 := fun {x b} hx => by
    rw [flagOf_byte] at hx
    by_contra hne
    rw [if_neg hne] at hx
    cases hx
  by_contra hsome
  obtain ⟨r, hr⟩ := Option.ne_none_iff_exists'.1 hsome
  unfold readLoadStream at hr
  simp only [Option.bind_eq_bind, Option.bind_eq_some_iff] at hr
  obtain ⟨_, hv, _, hta, _, htb, _, hca, _, hcb, -⟩ := hr
  exact h ⟨hflag hv, hflag hta, hflag htb, hflag hca, hflag hcb⟩

/-- An entry that is not valid takes the reset values, whatever its other fields hold (R21). -/
theorem readLoadStream_of_invalid (hta : ta = 0 ∨ ta = 1) (htb : tb = 0 ∨ tb = 1) (hca : ca = 0 ∨ ca = 1) (hcb : cb = 0 ∨ cb = 1) :
    readLoadStream [b0, 0, b2, ta, tb, b5, ca, cb] = some (b0.toFin, .reset) := by
  unfold readLoadStream
  simp only [byteAt_cons_succ, byteAt_cons_zero, flagOf_byte, if_pos hta, if_pos htb, if_pos hca, if_pos hcb]
  rfl

/-- The camera ports have the codes below 8, TA the code 8 and TB the code 9. -/
theorem portCode_cases {n : Nat} {p : Port} (h : portCode p = n) :
    (p = .trunk .ta ↔ n = 8) ∧ (p = .trunk .tb ↔ n = 9) ∧ ((∃ i, p = .cam i) ↔ n < 8) := by
  subst h
  cases p with
  | cam i =>
    have hi : portCode (.cam i) = i.val := rfl
    rw [hi]
    exact ⟨⟨nofun, fun h => by omega⟩, ⟨nofun, fun h => by omega⟩, ⟨fun _ => i.isLt, fun _ => ⟨i, rfl⟩⟩⟩
  | trunk u => cases u <;> simp [portCode]

/-- A valid entry with a port and a channel is judged by its route (R21 checks 4 to 6): it may not go out its origin, nor be cut through
where it does not go, nor from a camera port. -/
theorem readLoadStream_of_port {p : Port} {c : Option (Fin 12)} (hta : ta = 0 ∨ ta = 1) (htb : tb = 0 ∨ tb = 1) (hca : ca = 0 ∨ ca = 1)
    (hcb : cb = 0 ∨ cb = 1) (hp : portOf b2.toNat = some p) (hc : channelOrNoneOf b5.toNat = some c) :
    readLoadStream [b0, 1, b2, ta, tb, b5, ca, cb] =
      if (ta = 1 ∧ b2.toNat = 8) ∨ (tb = 1 ∧ b2.toNat = 9) then none
      else if (ca = 1 ∧ ¬ta = 1) ∨ (cb = 1 ∧ ¬tb = 1) then none
      else if (ca = 1 ∨ cb = 1) ∧ b2.toNat < 8 then none
      else some (b0.toFin, ⟨true, p, ⟨decide (ta = 1), decide (tb = 1)⟩, c, ⟨decide (ca = 1), decide (cb = 1)⟩⟩) := by
  obtain ⟨h8, h9, hcam⟩ := portCode_cases (portCode_of_portOf hp)
  unfold readLoadStream
  simp only [byteAt_cons_succ, byteAt_cons_zero, flagOf_byte, if_pos hta, if_pos htb, if_pos hca, if_pos hcb, hp, hc, ← h8, ← h9, ← hcam]
  cases p <;> simp [streamOf]

/-- The route of a valid entry is judged (R21 checks 2 to 6). -/
theorem readLoadStream_of_valid (hta : ta = 0 ∨ ta = 1) (htb : tb = 0 ∨ tb = 1) (hca : ca = 0 ∨ ca = 1) (hcb : cb = 0 ∨ cb = 1) :
    readLoadStream [b0, 1, b2, ta, tb, b5, ca, cb] =
      if 9 < b2.toNat ∨ 12 < b5.toNat ∨ (ta = 1 ∧ b2 = 8) ∨ (tb = 1 ∧ b2 = 9) ∨ (ca = 1 ∧ ta = 0) ∨ (cb = 1 ∧ tb = 0) ∨
        ((ca = 1 ∨ cb = 1) ∧ b2.toNat < 8) then none
      else some (b0.toFin,
        { valid := true, origin := (portOf b2.toNat).getD (.cam 0), sendTo := ⟨decide (ta = 1), decide (tb = 1)⟩
          channel := if h : b5.toNat < 12 then some ⟨b5.toNat, h⟩ else none, cutThrough := ⟨decide (ca = 1), decide (cb = 1)⟩ }) := by
  have hzero : ∀ {x : Byte}, x = 0 ∨ x = 1 → (¬x = 1 ↔ x = 0) := fun h => by
    rcases h with rfl | rfl <;> decide
  cases hp : portOf b2.toNat with
  | none =>
    have hnone : readLoadStream [b0, 1, b2, ta, tb, b5, ca, cb] = none := by
      simp [readLoadStream, hp, flagOf]
    rw [hnone]
    exact (if_pos (.inl (portOf_eq_none.1 hp))).symm
  | some p =>
    have h9 : ¬9 < b2.toNat := fun h => by simp [portOf_eq_none.2 h] at hp
    by_cases h12 : 12 < b5.toNat
    · have hnone : readLoadStream [b0, 1, b2, ta, tb, b5, ca, cb] = none := by
        simp [readLoadStream, hp, flagOf, channelOrNoneOf_of_lt h12]
      rw [hnone]
      exact (if_pos (.inr (.inl h12))).symm
    · have hbyte : ∀ n : Nat, n < 256 → (b2.toNat = n ↔ b2 = BitVec.ofNat 8 n) := fun n hn => by
        rw [← BitVec.toNat_inj, BitVec.toNat_ofNat, Nat.mod_eq_of_lt hn]
      rw [readLoadStream_of_port hta htb hca hcb hp (channelOrNoneOf_of_le (by omega))]
      simp only [hzero hta, hzero htb, hbyte 8 (by omega), hbyte 9 (by omega), ite_or, if_neg h9, if_neg h12]
      rfl

end

end Sys2Proof.Machine

/-! # Proofs: LOAD-STREAM's route, its channels, its notices and its alerts (R21, R22, R45, R46, R62, R145) -/

namespace Sys2Proof.Machine

/-! ## The channels of the routes (R45, R46, R53) -/

/-- A FRAME-CLOSE CUT leaves the time, and the readers of every slot. -/
theorem Channel.frameClose_cut_age (c : Channel) (frame : Nat) : (c.frameClose frame .cut).age = c.age := by
  unfold Channel.frameClose
  split
  · rfl
  · split <;> rfl
  · split
    · rw [if_pos (by simp)]
      simp
    · rfl

theorem Channel.readers_abandonIntake (c : Channel) (i : Fin 3) : (c.abandonIntake.slot i).readers = (c.slot i).readers := by
  rw [← c.abandonIntake_slot i]

theorem Channel.readers_frameClose_cut (c : Channel) (frame : Nat) (i : Fin 3) :
    ((c.frameClose frame .cut).slot i).readers = (c.slot i).readers := by
  unfold Channel.frameClose
  split
  · rfl
  · split <;> rfl
  · split
    · rw [if_pos (by simp)]
      exact c.readers_abandonIntake i
    · rfl

theorem Channel.slot_unbind (c : Channel) (i : Fin 3) :
    c.unbind.slot i = { c.abandonIntake.slot i with newest := false }.freeIfUnheld := by
  simp [Channel.unbind, Channel.slot]

/-- An unbound channel: no slot is newest, and the screens go on reading theirs. -/
theorem Channel.unbind_slots (c : Channel) (i : Fin 3) :
    (c.unbind.slot i).newest = false ∧ (c.unbind.slot i).readers = (c.slot i).readers := by
  rw [Channel.slot_unbind]
  obtain ⟨-, -, hnewest, hreaders, -, -⟩ := Slot.freeIfUnheld_frame { c.abandonIntake.slot i with newest := false }
  exact ⟨hnewest, hreaders.trans (c.readers_abandonIntake i)⟩

/-- In a consistent hub a channel that an entry names has a stream, and so is not UNBOUND (R45). -/
theorem State.ChannelsConsistent.state_ne_unbound {s : State} (h : s.ChannelsConsistent) {c : Fin 12} {k : Fin 256}
    (hk : (s.streamRec k).entry.channel = some c) : (s.channel c).state ≠ .unbound := by
  have hstream := h.bound hk
  obtain ⟨hcons, _, _⟩ := h
  obtain ⟨hunbound, _⟩ := hcons c
  intro hu
  rw [hunbound.2 hu] at hstream
  cases hstream

/-- A channel that no entry names is UNBOUND (R46). -/
theorem State.ChannelsConsistent.state_unbound {s : State} (h : s.ChannelsConsistent) {c : Fin 12}
    (hc : ∀ j, (s.streamRec j).entry.channel ≠ some c) : (s.channel c).state = .unbound := by
  obtain ⟨hcons, hnames, _⟩ := h
  obtain ⟨hunbound, _⟩ := hcons c
  refine hunbound.1 ?_
  by_contra hb
  obtain ⟨j, hj⟩ := Option.ne_none_iff_exists'.1 hb
  exact hc j ((hnames j c).2 hj)

/-! ## What the alert entries see (R145) -/

/-- Two hubs whose alert entries have the same members in the same condition. -/
structure State.WatchedAlike (s t : State) : Prop where
  alerts : t.alerts = s.alerts
  channels : ∀ c : Fin 12, (t.channel c).state = (s.channel c).state ∧ (t.channel c).grade = (s.channel c).grade
  ports : ∀ p : Fin 8, (t.lens p).stated = (s.lens p).stated

section
variable {s t x : State}

theorem State.WatchedAlike.refl (s : State) : s.WatchedAlike s := ⟨rfl, fun _ => ⟨rfl, rfl⟩, fun _ => rfl⟩

theorem State.WatchedAlike.of_frame (h : s.WatchedAlike t) (ha : x.alerts = t.alerts) (hc : x.channels = t.channels)
    (hl : x.lenses = t.lenses) : s.WatchedAlike x where
  alerts := ha.trans h.alerts
  channels c := by rw [State.channel_congr hc]; exact h.channels c
  ports p := by rw [State.lens, hl]; exact h.ports p

theorem State.AlertsFollowMembers.of_watched (h : s.AlertsFollowMembers) (hw : s.WatchedAlike t) : t.AlertsFollowMembers :=
  h.congr hw.alerts hw.channels hw.ports

/-- The entries that watch a channel are evaluated alike. -/
theorem State.WatchedAlike.alertsOfChannel (h : s.WatchedAlike t) (c : Fin 12) :
    (s.alertsOfChannel c).WatchedAlike (t.alertsOfChannel c) where
  alerts := by
    have hdemand : ∀ a, t.demandOf a = s.demandOf a := fun a =>
      State.memberCalls_congr a (fun c _ => h.channels c) fun p _ => h.ports p
    simp only [State.alertsOfChannel, State.evalAlertsWhere, h.alerts, hdemand]
  channels d := by simpa [State.channel] using h.channels d
  ports p := by simpa [State.lens] using h.ports p

/-- A channel that takes another state is watched, whatever else of it an event changes. -/
theorem State.WatchedAlike.channelEvent (h : s.WatchedAlike t) {c : Fin 12} {f : Channel → Channel}
    (hne : (f (t.channel c)).state ≠ (t.channel c).state) :
    ((s.updChannel c (fun _ => f (t.channel c))).alertsOfChannel c).WatchedAlike (t.channelEvent c f) := by
  rw [State.channelEvent_of_state_ne t c f hne]
  have hevent : (s.updChannel c (fun _ => f (t.channel c))).WatchedAlike
      ((t.updChannel c f).offer (.source c (t.channel c).state (f (t.channel c)).state)) := by
    refine ⟨h.alerts, fun d => ?_, h.ports⟩
    by_cases hd : d = c
    · subst hd
      simp [State.channel, State.offer]
    · simpa [State.channel, State.offer, hd] using h.channels d
  exact hevent.alertsOfChannel c

end

end Sys2Proof.Machine

/-! # Proofs: LOAD-STREAM closes, frees and binds (R21, R22, R35, R45, R46, R62, R145) -/

namespace Sys2Proof.Machine

/-! ## The open frame of the stream is closed (R22 step 1) -/

section
variable (s : State) (k : Fin 256)

theorem State.streamRec_closedFor_self : (s.closedFor k).streamRec k = { s.streamRec k with flow := { (s.streamRec k).flow with
    isOpen := false
    cut := if (s.streamRec k).flow.isOpen = true then ⟨false, false⟩ else (s.streamRec k).flow.cut } } := by
  unfold State.closedFor
  by_cases ho : (s.streamRec k).flow.isOpen = true
  · rw [if_pos ho, if_pos ho, State.streamRec_updFlow_self, State.streamRec_closeCut_self]
  · rw [if_neg ho, if_neg ho, ← Bool.eq_false_of_not_eq_true ho]

theorem State.streamRec_closedFor_of_ne {j : Fin 256} (h : j ≠ k) : (s.closedFor k).streamRec j = s.streamRec j := by
  unfold State.closedFor
  split
  · rw [State.streamRec_updFlow_of_ne _ _ h, State.streamRec_closeCut_of_ne s h]
  · rfl

theorem State.channel_closedFor (c : Fin 12) : (s.closedFor k).channel c =
    if (s.streamRec k).flow.isOpen = true ∧ (s.streamRec k).entry.channel = some c then
      (s.channel c).frameClose (s.streamRec k).flow.frame .cut
    else s.channel c := by
  unfold State.closedFor
  by_cases ho : (s.streamRec k).flow.isOpen = true
  · rw [if_pos ho, State.channel_congr (State.updFlow_channels ..), State.channel_closeCut]
    simp only [ho, true_and]
  · rw [if_neg ho, if_neg fun h => ho h.1]

/-- A FRAME-CLOSE at one trunk's output is offered there as if the other had taken none. -/
theorem State.trunk_sendControl_congr {s t : State} {u : Trunk} (h : t.trunks.get u = s.trunks.get u) (k : Fin 256) (p : Packet) :
    (t.sendControl u k p).trunks.get u = (s.sendControl u k p).trunks.get u := by
  have hout : t.out u = s.out u := congrArg TrunkPort.out h
  have hup : t.trunkUp u = s.trunkUp u := congrArg (fun x : TrunkPort => decide (x.rx.link = .up)) h
  unfold State.sendControl
  rw [hout, hup]
  split
  · exact h
  · dsimp only
    split <;> simp [State.countQueueCuts, h]

theorem State.trunk_sendRoute (e : StreamEntry) (p : Packet) (u : Trunk) :
    ((s.sendIfRouted e .ta k p).sendIfRouted e .tb k p).trunks.get u =
      if e.sendTo.get u = true then (s.sendControl u k p).trunks.get u else s.trunks.get u := by
  cases u with
  | ta =>
    rw [State.trunk_sendIfRouted (.inl (by decide)), State.sendIfRouted]
    split <;> rfl
  | tb =>
    have hta : (s.sendIfRouted e .ta k p).trunks.get .tb = s.trunks.get .tb := State.trunk_sendIfRouted (.inl (by decide)) e k p
    rw [State.sendIfRouted]
    split
    · exact State.trunk_sendControl_congr hta k p
    · exact hta

theorem State.trunk_closedFor (u : Trunk) : (s.closedFor k).trunks.get u =
    if (s.streamRec k).flow.isOpen = true ∧ (s.streamRec k).entry.sendTo.get u = true then (s.sendControl u k (s.cutOf k)).trunks.get u
    else s.trunks.get u := by
  unfold State.closedFor
  by_cases ho : (s.streamRec k).flow.isOpen = true
  · have htrunks : ((s.closeCut k).updFlow k (fun f => { f with cut := ⟨false, false⟩ })).trunks =
        ((s.sendIfRouted (s.streamRec k).entry .ta k (s.cutOf k)).sendIfRouted (s.streamRec k).entry .tb k (s.cutOf k)).trunks := by
      simp [State.closeCut, State.cutOf]
    rw [if_pos ho, htrunks, State.trunk_sendRoute]
    simp only [ho, true_and]
  · rw [if_neg ho, if_neg fun h => ho h.1]

theorem State.closeCut_told : (s.closeCut k).orders = s.orders ∧ (s.closeCut k).alerts = s.alerts := by
  obtain ⟨horders, halerts⟩ := State.deliver_cut_told ((s.sendIfRouted (s.streamRec k).entry .ta k (s.cutOf k)).sendIfRouted
    (s.streamRec k).entry .tb k (s.cutOf k)) (s.streamRec k).entry (s.streamRec k).flow.frame
  exact ⟨horders.trans (by simp), halerts.trans (by simp)⟩

theorem State.closedFor_frame : (s.closedFor k).cams = s.cams ∧ (s.closedFor k).lenses = s.lenses ∧
    (s.closedFor k).profiles = s.profiles ∧ (s.closedFor k).selector = s.selector ∧ (s.closedFor k).screens = s.screens ∧
    (s.closedFor k).views = s.views ∧ (s.closedFor k).loader = s.loader ∧ (s.closedFor k).flash = s.flash ∧
    (s.closedFor k).orders = s.orders := by
  unfold State.closedFor
  split
  · simp [s.closeCut_told k]
  · simp

/-- The closing changes no state and no grade of a channel, so no alert entry sees it. -/
theorem State.watchedAlike_closedFor : s.WatchedAlike (s.closedFor k) where
  alerts := by
    unfold State.closedFor
    split
    · simp [s.closeCut_told k]
    · rfl
  channels c := by
    rw [State.channel_closedFor]
    split
    · exact Channel.frameClose_cut_keeps _ _
    · exact ⟨rfl, rfl⟩
  ports p := by
    obtain ⟨-, hlenses, -⟩ := s.closedFor_frame k
    rw [State.lens, hlenses, ← State.lens]

end

/-! ## A channel that only one of the two routes names (R22 steps 2 and 3) -/

/-- A channel event at the channel of one route that the other does not name. -/
def State.deliverApart (s : State) (other e : StreamEntry) (f : Channel → Channel) : State :=
  if other.channel ≠ e.channel then s.deliver e f else s

theorem State.rerouted_eq (s : State) (k : Fin 256) (e : StreamEntry) : s.rerouted k e =
    (((s.deliverApart e (s.streamRec k).entry Channel.unbind).updStream k (fun r => { r with entry := e })).deliverApart
      (s.streamRec k).entry e (Channel.bind k)) := by
  unfold State.rerouted State.deliverApart
  by_cases h : (s.streamRec k).entry.channel = e.channel
  · simp [h]
  · simp [h, Ne.symm h]

section
variable {s : State} {other e : StreamEntry} {c : Fin 12} {f : Channel → Channel}

theorem State.deliverApart_of_some (hc : e.channel = some c) (ho : other.channel ≠ some c) :
    s.deliverApart other e f = s.channelEvent c f := by
  unfold State.deliverApart State.deliver
  rw [hc, if_pos ho]

theorem State.deliverApart_of_none (h : ∀ c, ¬(e.channel = some c ∧ other.channel ≠ some c)) : s.deliverApart other e f = s := by
  unfold State.deliverApart
  split
  · next hne =>
    cases he : e.channel with
    | none => unfold State.deliver; rw [he]
    | some c => exact absurd ⟨he, he ▸ hne⟩ (h c)
  · rfl

/-- `a` is what `rest` says when the event has no channel, and what `told` says of its channel when it has one. -/
structure ToldOf {α : Type} (event : Fin 12 → Prop) (rest : α) (told : Fin 12 → α) (a : α) : Prop where
  none : (∀ c, ¬event c) → a = rest
  some : ∀ c, event c → a = told c

/-- The order unit after a channel event that one route alone receives (R62). -/
theorem State.orders_deliverApart {v : OrderUnit} (hstate : ∀ c, e.channel = some c ∧ other.channel ≠ some c →
    (f (s.channel c)).state ≠ (s.channel c).state)
    (hv : ToldOf (fun c => e.channel = some c ∧ other.channel ≠ some c) s.orders
      (fun c => s.orders.offer (.source c (s.channel c).state (f (s.channel c)).state)) v) :
    (s.deliverApart other e f).orders = v := by
  by_cases hex : ∃ c, e.channel = some c ∧ other.channel ≠ some c
  · obtain ⟨c, hc⟩ := hex
    rw [State.deliverApart_of_some hc.1 hc.2, hv.some c hc, State.channelEvent_orders, if_neg (hstate c hc)]
  · rw [State.deliverApart_of_none (not_exists.1 hex), hv.none (not_exists.1 hex)]

/-- The alert entries after such an event, from a hub `t` that is watched like `s` (R145). -/
theorem State.WatchedAlike.deliverApart {t x : State} (h : s.WatchedAlike t) (hstate : ∀ c, e.channel = some c ∧ other.channel ≠ some c →
    (f (t.channel c)).state ≠ (t.channel c).state)
    (hx : ToldOf (fun c => e.channel = some c ∧ other.channel ≠ some c) s
      (fun c => (s.updChannel c (fun _ => f (t.channel c))).alertsOfChannel c) x) : x.WatchedAlike (t.deliverApart other e f) := by
  by_cases hex : ∃ c, e.channel = some c ∧ other.channel ≠ some c
  · obtain ⟨c, hc⟩ := hex
    rw [State.deliverApart_of_some hc.1 hc.2, hx.some c hc]
    exact h.channelEvent (hstate c hc)
  · rw [State.deliverApart_of_none (not_exists.1 hex), hx.none (not_exists.1 hex)]
    exact h

end

theorem State.rerouted_frame (s : State) (k : Fin 256) (e : StreamEntry) : (s.rerouted k e).cams = s.cams ∧
    (s.rerouted k e).trunks = s.trunks ∧ (s.rerouted k e).lenses = s.lenses ∧ (s.rerouted k e).profiles = s.profiles ∧
    (s.rerouted k e).selector = s.selector ∧ (s.rerouted k e).screens = s.screens ∧ (s.rerouted k e).views = s.views ∧
    (s.rerouted k e).loader = s.loader ∧ (s.rerouted k e).flash = s.flash := by
  unfold State.rerouted
  dsimp only
  (repeat' split) <;> simp

theorem State.AlertsFollowMembers.rerouted {s : State} (h : s.AlertsFollowMembers) (k : Fin 256) (e : StreamEntry) :
    (s.rerouted k e).AlertsFollowMembers := by
  have hdeliver : ∀ {x : State} (e : StreamEntry) (f : Channel → Channel), x.AlertsFollowMembers → (x.deliver e f).AlertsFollowMembers :=
    fun e f hx => by
      unfold State.deliver
      split
      · exact hx.channelEvent _ f
      · exact hx
  have hwrite : ∀ {x : State}, x.AlertsFollowMembers → (x.updStream k (fun r => { r with entry := e })).AlertsFollowMembers :=
    fun {x} hx => hx.of_watched ((State.WatchedAlike.refl x).of_frame rfl rfl rfl)
  unfold State.rerouted
  dsimp only
  split
  · exact hdeliver _ _ (hwrite (hdeliver _ _ h))
  · exact hwrite h

/-! ## The hub after LOAD-STREAM -/

/-- The hub after an accepted LOAD-STREAM, but for the REPLY. -/
def State.routedTo (s : State) (k : Fin 256) (e : StreamEntry) : State := (s.closedFor k).rerouted k e

/-- A channel whose open frame of the old route has been closed. -/
def State.closedChannel (s : State) (k : Fin 256) (c : Fin 12) : Channel :=
  if (s.streamRec k).flow.isOpen = true then (s.channel c).frameClose (s.streamRec k).flow.frame .cut else s.channel c

section
variable {s : State} {k : Fin 256} {e : StreamEntry} {c : Fin 12}

theorem State.channel_closedFor_of_named (h : (s.streamRec k).entry.channel = some c) :
    (s.closedFor k).channel c = s.closedChannel k c := by
  rw [State.channel_closedFor, State.closedChannel]
  simp only [h, and_true]

theorem State.channel_closedFor_of_not_named (h : (s.streamRec k).entry.channel ≠ some c) : (s.closedFor k).channel c = s.channel c := by
  rw [State.channel_closedFor, if_neg fun hc => h hc.2]

/-- The closing leaves the state and age of a channel, its stream, and the readers of its slots. -/
theorem State.closedChannel_keeps (s : State) (k : Fin 256) (c : Fin 12) :
    (s.closedChannel k c).stream = (s.channel c).stream ∧ (s.closedChannel k c).state = (s.channel c).state ∧
    (s.closedChannel k c).age = (s.channel c).age ∧ ∀ n, ((s.closedChannel k c).slot n).readers = ((s.channel c).slot n).readers := by
  unfold State.closedChannel
  split
  · exact ⟨Channel.frameClose_stream .., (Channel.frameClose_cut_keeps ..).1, Channel.frameClose_cut_age ..,
      Channel.readers_frameClose_cut _ _⟩
  · exact ⟨rfl, rfl, rfl, fun _ => rfl⟩

theorem State.channel_routedTo_freed (hold : (s.streamRec k).entry.channel = some c) (hnew : e.channel ≠ some c) :
    (s.routedTo k e).channel c = (s.closedChannel k c).unbind := by
  rw [State.routedTo, State.channel_rerouted, State.entry_closedFor, if_neg (hold ▸ Ne.symm hnew), if_neg hnew, if_pos hold,
    State.channel_closedFor_of_named hold]

theorem State.channel_routedTo_taken (hold : (s.streamRec k).entry.channel ≠ some c) (hnew : e.channel = some c) :
    (s.routedTo k e).channel c = (s.channel c).bind k := by
  rw [State.routedTo, State.channel_rerouted, State.entry_closedFor, if_neg (hnew ▸ hold), if_pos hnew,
    State.channel_closedFor_of_not_named hold]

theorem State.channel_routedTo_kept (hold : (s.streamRec k).entry.channel = some c) (hnew : e.channel = some c) :
    (s.routedTo k e).channel c = s.closedChannel k c := by
  rw [State.routedTo, State.channel_rerouted, State.entry_closedFor, if_pos (hold.trans hnew.symm), State.channel_closedFor_of_named hold]

theorem State.channel_routedTo_other (hold : (s.streamRec k).entry.channel ≠ some c) (hnew : e.channel ≠ some c) :
    (s.routedTo k e).channel c = s.channel c := by
  rw [State.routedTo, State.channel_rerouted, State.entry_closedFor, if_neg hnew, if_neg hold, ite_self,
    State.channel_closedFor_of_not_named hold]

/-! ### Its notices and its alert entries (R62, R145) -/

/-- The hub when the channel that is no longer named has been unbound and the entry is written. -/
def State.freedFor (s : State) (k : Fin 256) (e : StreamEntry) : State :=
  ((s.closedFor k).deliverApart e (s.streamRec k).entry Channel.unbind).updStream k (fun r => { r with entry := e })

theorem State.routedTo_eq (s : State) (k : Fin 256) (e : StreamEntry) :
    s.routedTo k e = (s.freedFor k e).deliverApart (s.streamRec k).entry e (Channel.bind k) := by
  rw [State.routedTo, State.rerouted_eq, State.entry_closedFor]
  rfl

/-- The channel is named by the old route alone, and is unbound. -/
def State.Frees (s : State) (k : Fin 256) (e : StreamEntry) (c : Fin 12) : Prop :=
  (s.streamRec k).entry.channel = some c ∧ e.channel ≠ some c

/-- The channel is named by the new route alone, and is bound. -/
def State.Takes (s : State) (k : Fin 256) (e : StreamEntry) (c : Fin 12) : Prop :=
  (s.streamRec k).entry.channel ≠ some c ∧ e.channel = some c

theorem State.takes_iff : s.Takes k e c ↔ e.channel = some c ∧ (s.streamRec k).entry.channel ≠ some c := and_comm

/-- A channel that is taken is still as it was when the other one has been freed. -/
theorem State.channel_freedFor (h : s.Takes k e c) : (s.freedFor k e).channel c = s.channel c := by
  obtain ⟨hold, -⟩ := h
  have hwrite : ∀ x : State, (x.updStream k (fun r => { r with entry := e })).channel c = x.channel c := fun _ => rfl
  rw [State.freedFor, hwrite, State.deliverApart]
  split
  · rw [State.channel_deliver, if_neg hold, State.channel_closedFor_of_not_named hold]
  · rw [State.channel_closedFor_of_not_named hold]

section
variable (hs : s.ChannelsConsistent)
include hs

theorem State.ChannelsConsistent.state_of_frees (h : s.Frees k e c) :
    ((s.closedFor k).channel c).state = (s.channel c).state ∧ (s.channel c).state ≠ .unbound := by
  obtain ⟨hold, -⟩ := h
  rw [State.channel_closedFor_of_named hold]
  exact ⟨(s.closedChannel_keeps k c).2.1, hs.state_ne_unbound hold⟩

theorem State.orders_freedFor {v : OrderUnit} (hv : ToldOf (s.Frees k e) s.orders
    (fun c => s.orders.offer (.source c (s.channel c).state .unbound)) v) : (s.freedFor k e).orders = v := by
  obtain ⟨-, -, -, -, -, -, -, -, horders⟩ := s.closedFor_frame k
  refine State.orders_deliverApart (f := Channel.unbind) (fun c hc => ?_) ⟨fun h => (hv.none h).trans horders.symm, fun c hc => ?_⟩
  · obtain ⟨hstate, hne⟩ := hs.state_of_frees hc
    rw [hstate]
    exact Ne.symm hne
  · rw [hv.some c hc, horders, (hs.state_of_frees hc).1]
    rfl

theorem State.watchedAlike_freedFor {w : State} (hw : ToldOf (s.Frees k e) s
    (fun c => (s.updChannel c (fun _ => (s.routedTo k e).channel c)).alertsOfChannel c) w) : w.WatchedAlike (s.freedFor k e) := by
  refine ((s.watchedAlike_closedFor k).deliverApart (f := Channel.unbind) (fun c hc => ?_) ⟨hw.none, fun c hc => ?_⟩).of_frame rfl rfl rfl
  · obtain ⟨hstate, hne⟩ := hs.state_of_frees hc
    rw [hstate]
    exact Ne.symm hne
  · rw [hw.some c hc, State.channel_routedTo_freed hc.1 hc.2, State.channel_closedFor_of_named hc.1]

variable (hfree : ∀ c j, e.channel = some c → j ≠ k → (s.streamRec j).entry.channel ≠ some c)
include hfree

theorem State.ChannelsConsistent.state_of_takes (h : s.Takes k e c) : ((s.freedFor k e).channel c).state = .unbound := by
  rw [State.channel_freedFor h]
  refine hs.state_unbound fun j => ?_
  by_cases hj : j = k
  · rw [hj]
    exact h.1
  · exact hfree c j h.2 hj

theorem State.orders_routedTo {v x : OrderUnit} (hv : ToldOf (s.Frees k e) s.orders
    (fun c => s.orders.offer (.source c (s.channel c).state .unbound)) v)
    (hx : ToldOf (s.Takes k e) v (fun c => v.offer (.source c .unbound .waiting)) x) : (s.routedTo k e).orders = x := by
  have hfreed := State.orders_freedFor hs hv
  rw [State.routedTo_eq]
  refine State.orders_deliverApart (f := Channel.bind k) (fun c hc => ?_)
    ⟨fun h => (hx.none fun c hc => h c (State.takes_iff.1 hc)).trans hfreed.symm, fun c hc => ?_⟩
  · rw [hs.state_of_takes hfree (State.takes_iff.2 hc)]
    exact nofun
  · rw [hx.some c (State.takes_iff.2 hc), hs.state_of_takes hfree (State.takes_iff.2 hc), hfreed]
    rfl

theorem State.alerts_routedTo {w x : State} (hw : ToldOf (s.Frees k e) s
    (fun c => (s.updChannel c (fun _ => (s.routedTo k e).channel c)).alertsOfChannel c) w)
    (hx : ToldOf (s.Takes k e) w (fun c => (w.updChannel c (fun _ => (s.routedTo k e).channel c)).alertsOfChannel c) x) :
    (s.routedTo k e).alerts = x.alerts := by
  have hfreed := State.watchedAlike_freedFor hs hw
  rw [State.routedTo_eq] at hx ⊢
  refine (hfreed.deliverApart (f := Channel.bind k) (fun c hc => ?_)
    ⟨fun h => hx.none fun c hc => h c (State.takes_iff.1 hc), fun c hc => ?_⟩).alerts
  · rw [hs.state_of_takes hfree (State.takes_iff.2 hc)]
    exact nofun
  · rw [hx.some c (State.takes_iff.2 hc), ← State.routedTo_eq, State.channel_routedTo_taken hc.2 hc.1,
      State.channel_freedFor (State.takes_iff.2 hc)]

end

end

/-! ### Its outputs (R35, R37) -/

theorem State.trunk_routedTo (s : State) (k : Fin 256) (e : StreamEntry) (u : Trunk) : (s.routedTo k e).trunks.get u =
    if (s.streamRec k).flow.isOpen = true ∧ (s.streamRec k).entry.sendTo.get u = true then (s.sendControl u k (s.cutOf k)).trunks.get u
    else s.trunks.get u := by
  obtain ⟨-, htrunks, -⟩ := (s.closedFor k).rerouted_frame k e
  rw [State.routedTo, htrunks, State.trunk_closedFor]

/-- An output where nothing of the stream waits takes the FRAME-CLOSE CUT at the tail of its video queue, or of its waiting list. -/
theorem State.out_routedTo {s : State} {k : Fin 256} (e : StreamEntry) {u : Trunk} (hopen : (s.streamRec k).flow.isOpen = true)
    (hroute : (s.streamRec k).entry.sendTo.get u = true) (hup : s.trunkUp u = true) (hw : ∀ q ∈ (s.out u).waiting, q.stream ≠ some k) :
    (s.routedTo k e).out u = if (s.out u).video.length < 24 then { s.out u with video := (s.out u).video ++ [s.cutOf k] }
      else { s.out u with waiting := (s.out u).waiting ++ [s.cutOf k] } := by
  rw [State.out, State.trunk_routedTo, if_pos ⟨hopen, hroute⟩, ← State.out, State.out_sendControl, if_pos rfl, State.outAfter, if_pos hup]
  split
  · next hv => rw [Output.control_of_place hw hv]
  · next hv => rw [Output.control_of_full hw (by omega)]

theorem State.streamRec_routedTo_self (s : State) (k : Fin 256) (e : StreamEntry) : (s.routedTo k e).streamRec k =
    { entry := e, flow := { (s.streamRec k).flow with
        isOpen := false, cut := if (s.streamRec k).flow.isOpen = true then ⟨false, false⟩ else (s.streamRec k).flow.cut } } := by
  rw [State.routedTo, State.streamRec_rerouted, if_pos rfl, State.streamRec_closedFor_self]

theorem State.streamRec_routedTo_of_ne (s : State) {j k : Fin 256} (h : j ≠ k) (e : StreamEntry) :
    (s.routedTo k e).streamRec j = s.streamRec j := by
  rw [State.routedTo, State.streamRec_rerouted, if_neg h, State.streamRec_closedFor_of_ne s k h]

/-! ## The settlement -/

theorem readLoadStream_spec (b0 v b2 ta tb b5 ca cb : Byte) :
    readLoadStream [b0, v, b2, ta, tb, b5, ca, cb] =
      if ¬((v = 0 ∨ v = 1) ∧ (ta = 0 ∨ ta = 1) ∧ (tb = 0 ∨ tb = 1) ∧ (ca = 0 ∨ ca = 1) ∧ (cb = 0 ∨ cb = 1)) then none
      else if v = 0 then some (b0.toFin, .reset)
      else if 9 < b2.toNat ∨ 12 < b5.toNat ∨ (ta = 1 ∧ b2 = 8) ∨ (tb = 1 ∧ b2 = 9) ∨ (ca = 1 ∧ ta = 0) ∨ (cb = 1 ∧ tb = 0) ∨
        ((ca = 1 ∨ cb = 1) ∧ b2.toNat < 8) then none
      else some (b0.toFin,
        { valid := true, origin := (portOf b2.toNat).getD (.cam 0), sendTo := ⟨decide (ta = 1), decide (tb = 1)⟩
          channel := if h : b5.toNat < 12 then some ⟨b5.toNat, h⟩ else none, cutThrough := ⟨decide (ca = 1), decide (cb = 1)⟩ }) := by
  split
  · next h => exact readLoadStream_eq_none_of_flags h
  · next h =>
    obtain ⟨hv, hta, htb, hca, hcb⟩ := not_not.1 h
    split
    · next h0 => rw [h0, readLoadStream_of_invalid hta htb hca hcb]
    · next h0 => rw [hv.resolve_left h0, readLoadStream_of_valid hta htb hca hcb]

section
variable {s : State} {i : Fin 2} {o : HeldOrder} {params : List Byte}

theorem State.Executes.exec_loadStream (h : s.Executes i o 5 params) (hlen : params.length = 8) :
    exec .loadStream s = .next ((loadStreamEffect params s).1.replied i o (loadStreamEffect params s).2) := by
  rw [exec_of_running h.running]
  exact congrArg _ (h.runOrder (by decide) hlen loadStreamEffect)

theorem loadStreamEffect_badField (h : readLoadStream params = none) : loadStreamEffect params s = (s, .refused .badField) := by
  unfold loadStreamEffect
  rw [h]

theorem loadStreamEffect_inUse {k : Fin 256} {e : StreamEntry} (h : readLoadStream params = some (k, e))
    (hf : (e.channel.map (s.channelTaken k)).getD false = true) : loadStreamEffect params s = (s, .refused .inUse) := by
  unfold loadStreamEffect
  rw [h]
  exact if_pos hf

end

/-- Settles O22: the fields byte by byte, the two refusals, and the hub after an accepted order, channel by channel. -/
theorem loadStreamRoutesAndBinds : Obligations.LoadStreamRoutesAndBinds := by
  refine ⟨readLoadStream_spec, fun s i o params h hlen hread => ?_, fun s i o params k e h hlen hread hs => ⟨fun hin => ?_, fun hout => ?_⟩⟩
  · rw [h.exec_loadStream hlen, loadStreamEffect_badField hread]
  · rw [h.exec_loadStream hlen, loadStreamEffect_inUse hread ((s.channelTaken_iff k e).2 hin)]
  · have hf : (e.channel.map (s.channelTaken k)).getD false ≠ true := fun htaken => by
      obtain ⟨c, j, hc, hj, hvalid, hjc⟩ := (s.channelTaken_iff k e).1 htaken
      exact hout c j hc hj hvalid hjc
    have hfree := hs.not_named hf
    have hexec : exec .loadStream s = .next ((s.routedTo k e).replied i o (.done false)) := by
      rw [h.exec_loadStream hlen, loadStreamEffect_accepted hread hf, ← State.routedTo]
    obtain ⟨hcams, -, hlenses, hprofiles, hselector, hscreens, hviews, hloader, hflash⟩ := (s.closedFor k).rerouted_frame k e
    obtain ⟨hcams', hlenses', hprofiles', hselector', hscreens', hviews', hloader', hflash', -⟩ := s.closedFor_frame k
    refine ⟨(s.routedTo k e).replied i o (.done false), hexec, s.streamRec_routedTo_self k e, s.trunk_routedTo k e,
      fun u => State.out_routedTo e, fun c hc => State.channel_routedTo_freed hc.1 hc.2, fun c => State.channel_routedTo_kept,
      fun w x y hw hwf hx hxt hy => ?_, fun w x hw hwf hx hxt => ?_, fun hfollow => ?_, fun j hj => s.streamRec_routedTo_of_ne hj e,
      fun c hnew hold => ?_, fun c hold hnew => ?_, fun c hold hnew => ?_, fun c => State.channel_routedTo_other,
      hcams.trans hcams', hlenses.trans hlenses', hprofiles.trans hprofiles', hselector.trans hselector', hscreens.trans hscreens',
      hviews.trans hviews', hloader.trans hloader', hflash.trans hflash'⟩
    · rw [hy]
      exact State.replied_orders_congr (State.orders_routedTo hs hfree ⟨hw, hwf⟩ ⟨hx, hxt⟩) i o _
    · exact State.alerts_routedTo hs hfree ⟨hw, hwf⟩ ⟨hx, hxt⟩
    · exact ((hfollow.of_watched (s.watchedAlike_closedFor k)).rerouted k e).of_watched ((State.WatchedAlike.refl _).of_frame rfl rfl rfl)
    · have hc : ((s.routedTo k e).replied i o (.done false)).channel c = (s.channel c).bind k := State.channel_routedTo_taken hold hnew
      rw [hc]
      exact ⟨rfl, rfl, rfl, rfl, rfl, rfl, rfl, rfl⟩
    · have hc : ((s.routedTo k e).replied i o (.done false)).channel c = (s.closedChannel k c).unbind :=
        State.channel_routedTo_freed hold hnew
      obtain ⟨-, -, -, hreaders⟩ := s.closedChannel_keeps k c
      rw [hc]
      exact ⟨rfl, rfl, rfl, rfl, rfl, Channel.abandonIntake_intake _, fun n => (Channel.unbind_slots _ n).1,
        fun n => (Channel.unbind_slots _ n).2.trans (hreaders n)⟩
    · have hc : ((s.routedTo k e).replied i o (.done false)).channel c = s.closedChannel k c := State.channel_routedTo_kept hold hnew
      obtain ⟨hstream, hstate, hage, -⟩ := s.closedChannel_keeps k c
      rw [hc]
      exact ⟨hstream.trans (hs.bound hold), hstate, hage⟩

end Sys2Proof.Machine

/-! # Proofs: takes and releases (R56, R57, R131, R132)

What a take and a release make of a channel, and what a screen's takes and releases make of the hub: they are quiet, so that only the
channels and the screen's held slots change. -/

namespace Sys2Proof.Machine

/-! ## Sets of members -/

@[simp] theorem hasMember_addMember {n : Nat} (set : BitVec n) (i j : Fin n) :
    hasMember (addMember set i.val) j.val = (hasMember set j.val || decide (j = i)) := by
  simp [hasMember, addMember, Fin.ext_iff, eq_comm]

@[simp] theorem hasMember_dropMember {n : Nat} (set : BitVec n) (i j : Fin n) :
    hasMember (dropMember set i.val) j.val = (hasMember set j.val && decide (j ≠ i)) := by
  simp [hasMember, dropMember, Fin.ext_iff, eq_comm]

/-- A member that is added again changes nothing. -/
theorem addMember_of_hasMember {n : Nat} {set : BitVec n} {i : Fin n} (h : hasMember set i.val = true) : addMember set i.val = set := by
  refine BitVec.eq_of_getLsbD_eq fun j hj => ?_
  change hasMember (addMember set i.val) (⟨j, hj⟩ : Fin n).val = hasMember set (⟨j, hj⟩ : Fin n).val
  rw [hasMember_addMember]
  by_cases e : (⟨j, hj⟩ : Fin n) = i
  · rw [e, h, Bool.true_or]
  · simp [e]

/-! ## One channel -/

/-- Whether a screen is in the reader set of a slot (R44). -/
def Channel.Reads (c : Channel) (sc : Fin 2) (i : Fin 3) : Prop := hasMember (c.slot i).readers sc.val = true

/-- A screen is in the reader set of one slot of a channel at most. -/
def Channel.ReadsOnce (c : Channel) (sc : Fin 2) : Prop := ∀ i j, c.Reads sc i → c.Reads sc j → i = j

/-- A slot after a screen has left its reader set: FREE if it is then unheld and not newest (R57). -/
def Slot.left (sc : Fin 2) (sl : Slot) : Slot :=
  if hasMember sl.readers sc.val = true then
    { sl with readers := dropMember sl.readers sc.val
              state := if dropMember sl.readers sc.val = 0 ∧ sl.newest = false then .free else sl.state }
  else sl

/-- A slot that is STORED while a screen holds it is left as R57 says. -/
theorem Slot.leave_eq_left {sl : Slot} {sc : Fin 2} (h : sl.readers ≠ 0 → sl.state = .stored) : sl.leave sc = sl.left sc := by
  unfold Slot.leave Slot.left
  split
  · next hm =>
    have hs : sl.state = .stored := h fun hz => by simp [hz, hasMember] at hm
    by_cases hf : dropMember sl.readers sc.val = 0 ∧ sl.newest = false
    · simp [Slot.freeIfUnheld, hf, hs]
    · rw [if_neg hf]
      exact if_neg (by simpa [hs, and_comm] using hf)
  · rfl

/-- Only the screen that leaves a slot is taken out of its reader set. -/
theorem Slot.leave_readers (sl : Slot) (sc sd : Fin 2) :
    hasMember (sl.leave sc).readers sd.val = (hasMember sl.readers sd.val && decide (sd ≠ sc)) := by
  unfold Slot.leave
  split
  · simp
  · next h =>
    by_cases e : sd = sc
    · subst e
      simpa using h
    · simp [e]

@[simp] theorem Channel.slot_release (c : Channel) (sc : Fin 2) (i : Fin 3) : (c.release sc).slot i = (c.slot i).leave sc :=
  c.slot_mapSlots (Slot.leave sc) i

theorem Channel.release_reads (c : Channel) (sc sd : Fin 2) (i : Fin 3) : (c.release sc).Reads sd i ↔ c.Reads sd i ∧ sd ≠ sc := by
  simp [Channel.Reads, Slot.leave_readers]

theorem Channel.newestSlot_eq_none {c : Channel} : c.newestSlot = none ↔ ∀ i, (c.slot i).newest = false := by
  simp [Channel.newestSlot]

/-- The newest slot, where only one is the newest. -/
theorem Channel.newestSlot_eq_some {c : Channel} (h : ∀ i j, (c.slot i).newest = true → (c.slot j).newest = true → i = j) {i : Fin 3}
    (hi : (c.slot i).newest = true) : c.newestSlot = some i := by
  cases hn : c.newestSlot with
  | none => exact absurd (Channel.newestSlot_eq_none.1 hn i) (by simp [hi])
  | some j => rw [h i j hi (Channel.newestSlot_newest hn)]

theorem Channel.take_of_none {c : Channel} (h : c.newestSlot = none) (sc : Fin 2) : c.take sc = c.release sc := by
  rw [Channel.take, h]

/-- A screen that reads the newest slot keeps what it has (R56). -/
theorem Channel.take_of_reads {c : Channel} {i : Fin 3} (h : c.newestSlot = some i) {sc : Fin 2} (hr : c.Reads sc i) : c.take sc = c := by
  rw [Channel.take, h]
  exact if_pos hr

/-- A screen that does not read the newest slot leaves every slot and joins it (R56). -/
theorem Channel.take_of_not_reads {c : Channel} {i : Fin 3} (h : c.newestSlot = some i) {sc : Fin 2} (hr : ¬c.Reads sc i) :
    c.take sc = (c.release sc).updSlot i (fun sl => { sl with readers := addMember sl.readers sc.val }) := by
  rw [Channel.take, h]
  exact if_neg hr

/-- A take changes the slots of a channel alone (R56). -/
theorem Channel.take_frame (c : Channel) (sc : Fin 2) : { c.take sc with slots := c.slots } = c := by
  unfold Channel.take
  (repeat' split) <;> rfl

/-- After a take the screen reads the newest slot alone (R56). -/
theorem Channel.take_reads {c : Channel} {sc : Fin 2} (h : c.ReadsOnce sc) (i : Fin 3) :
    (c.take sc).Reads sc i ↔ c.newestSlot = some i := by
  cases hn : c.newestSlot with
  | none => simp [Channel.take_of_none hn, Channel.release_reads]
  | some n =>
    by_cases hr : c.Reads sc n
    · rw [Channel.take_of_reads hn hr]
      exact ⟨fun hi => congrArg some (h n i hr hi), fun e => Option.some.inj e ▸ hr⟩
    · rw [Channel.take_of_not_reads hn hr, Channel.Reads, Channel.slot_updSlot]
      split
      · next e => simp [e]
      · next e => simp [Slot.leave_readers, Ne.symm e]

/-- A take leaves the other screen's slots to it (R56). -/
theorem Channel.take_reads_of_ne (c : Channel) {sc sd : Fin 2} (h : sd ≠ sc) (i : Fin 3) : (c.take sc).Reads sd i ↔ c.Reads sd i := by
  cases hn : c.newestSlot with
  | none => simp [Channel.take_of_none hn, Channel.release_reads, h]
  | some n =>
    by_cases hr : c.Reads sc n
    · rw [Channel.take_of_reads hn hr]
    · rw [Channel.take_of_not_reads hn hr, Channel.Reads, Channel.slot_updSlot]
      split
      · next e => simp [e, Channel.Reads, Slot.leave_readers, h]
      · simp [Channel.Reads, Slot.leave_readers, h]

/-- A slot that no screen has left. -/
theorem Slot.left_of_not_reads {sl : Slot} {sc : Fin 2} (h : ¬hasMember sl.readers sc.val = true) : sl.left sc = sl := if_neg h

theorem Slot.leave_of_not_reads {sl : Slot} {sc : Fin 2} (h : ¬hasMember sl.readers sc.val = true) : sl.leave sc = sl := if_neg h

/-- The slots of a consistent channel after a release (R57). -/
theorem Channel.Consistent.leave_eq_left {c : Channel} (h : c.Consistent) (sc : Fin 2) (i : Fin 3) :
    (c.slot i).leave sc = (c.slot i).left sc := by
  obtain ⟨-, hslots, -⟩ := c.consistent_iff.1 h
  exact Slot.leave_eq_left fun hr => (hslots.stored i).2 (.inr hr)

/-- Settles O26: a slot that is left is left as R57 says, because it is STORED while it is held; a take joins the newest slot, which the
screen either reads already or has just left with the others. -/
theorem takesAndReleasesMoveReaders : Obligations.TakesAndReleasesMoveReaders := by
  intro c sc h honce left
  obtain ⟨-, hslots, -⟩ := c.consistent_iff.1 h
  refine ⟨?_, fun hnone => Channel.take_of_none (Channel.newestSlot_eq_none.2 hnone) sc, fun i hi => ?_⟩
  · have hmap : c.slots.map (Slot.leave sc) = c.slots.map (Slot.left sc) := Tab.ext_get fun i => by
      rw [Tab.get_map, Tab.get_map]
      exact h.leave_eq_left sc i
    rw [Channel.release, hmap]
    rfl
  · have hnew := Channel.newestSlot_eq_some hslots.newest hi
    by_cases hr : c.Reads sc i
    · rw [Channel.take_of_reads hnew hr]
      refine ⟨?_, fun j hj => ?_, rfl⟩
      · rw [addMember_of_hasMember hr]
      · exact (Slot.left_of_not_reads fun hj' => hj (honce j i hj' hr)).symm
    · refine ⟨?_, fun j hj => ?_, c.take_frame sc⟩
      · rw [Channel.take_of_not_reads hnew hr, Channel.slot_updSlot_self, Channel.slot_release, Slot.leave_of_not_reads hr]
      · rw [Channel.take_of_not_reads hnew hr, Channel.slot_updSlot_of_ne _ _ hj, Channel.slot_release]
        exact h.leave_eq_left sc j

end Sys2Proof.Machine

/-! # Proofs: what a screen's takes and releases make of the hub (R120, R131, R132) -/

namespace Sys2Proof.Machine

/-! ## One screen -/

@[simp] theorem State.screen_updScreen_self (s : State) (sc : Fin 2) (f : Screen → Screen) :
    (s.updScreen sc f).screen sc = f (s.screen sc) := by
  simp [State.screen]

@[simp] theorem State.screen_updScreen_of_ne (s : State) {sc sd : Fin 2} (f : Screen → Screen) (h : sd ≠ sc) :
    (s.updScreen sc f).screen sd = s.screen sd := by
  simp [State.screen, h]

@[simp] theorem State.channel_updScreen (s : State) (sc : Fin 2) (f : Screen → Screen) (c : Fin 12) :
    (s.updScreen sc f).channel c = s.channel c := rfl

theorem State.screen_congr {s t : State} (h : t.screens = s.screens) (sc : Fin 2) : t.screen sc = s.screen sc := by
  rw [State.screen, h, ← State.screen]

/-! ## Channels at which a screen moves -/

/-- A screen moves at the channels for which `p` holds: each takes `f`, and the screen then holds there what `n` answers (R117). -/
def State.slotsMoved (s : State) (sc : Fin 2) (p : Fin 12 → Bool) (f : Channel → Channel) (n : Channel → Option (Fin 3)) : State :=
  { s with
    channels := Vector.ofFn (fun c => if p c then f (s.channel c) else s.channel c)
    screens := Tab.upd s.screens sc (fun x =>
      { x with held := Vector.ofFn (fun c => if p c then n (s.channel c) else Tab.get x.held c) }) }

@[simp] theorem Tab.get_ofFn {α : Type} {n : Nat} (f : Fin n → α) (i : Fin n) : Tab.get (Vector.ofFn f) i = f i := by
  simp [Tab.get]

section
variable (s : State) (sc : Fin 2) (p : Fin 12 → Bool) (f : Channel → Channel) (n : Channel → Option (Fin 3))

@[simp] theorem State.channel_slotsMoved (c : Fin 12) :
    (s.slotsMoved sc p f n).channel c = if p c then f (s.channel c) else s.channel c :=
  Tab.get_ofFn _ c

theorem State.screen_slotsMoved : (s.slotsMoved sc p f n).screen sc = { s.screen sc with
    held := Vector.ofFn (fun c => if p c then n (s.channel c) else Tab.get (s.screen sc).held c) } :=
  Tab.get_upd_self _ _ _

@[simp] theorem State.screen_slotsMoved_of_ne {sd : Fin 2} (h : sd ≠ sc) : (s.slotsMoved sc p f n).screen sd = s.screen sd :=
  Tab.get_upd_of_ne _ _ h

theorem State.held_slotsMoved (c : Fin 12) : Tab.get ((s.slotsMoved sc p f n).screen sc).held c =
    if p c then n (s.channel c) else Tab.get (s.screen sc).held c := by
  rw [State.screen_slotsMoved]
  exact Tab.get_ofFn _ c

/-- No move at all. -/
theorem State.slotsMoved_none (hp : ∀ c, p c = false) : s.slotsMoved sc p f n = s := by
  have hc : Vector.ofFn (fun c => if p c then f (s.channel c) else s.channel c) = s.channels := Tab.ext_get fun c => by
    rw [Tab.get_ofFn, hp]
    rfl
  have hx : ∀ x : Screen, { x with held := Vector.ofFn (fun c => if p c then n (s.channel c) else Tab.get x.held c) } = x := fun x => by
    have hh : Vector.ofFn (fun c => if p c then n (s.channel c) else Tab.get x.held c) = x.held := Tab.ext_get fun c => by
      rw [Tab.get_ofFn, hp]
      rfl
    rw [hh]
  unfold State.slotsMoved
  rw [hc, Tab.upd_same _ _ _ (hx _)]

/-- A move at one channel. -/
def State.slotMoved (c : Fin 12) : State :=
  (s.updChannel c f).updScreen sc (fun x => { x with held := Tab.upd x.held c (fun _ => n (s.channel c)) })

theorem State.channel_slotMoved (c d : Fin 12) : (s.slotMoved sc f n c).channel d = if d = c then f (s.channel c) else s.channel d :=
  Tab.get_upd ..

theorem State.held_slotMoved (c d : Fin 12) : Tab.get ((s.slotMoved sc f n c).screen sc).held d =
    if d = c then n (s.channel c) else Tab.get (s.screen sc).held d := by
  rw [State.slotMoved, State.screen_updScreen_self, Tab.get_upd]
  rfl

/-- After a move at one channel, moves at others are moves at all of them. -/
theorem State.slotsMoved_slotMoved {c : Fin 12} {q : Fin 12 → Bool} (hc : p c = false) (hq : ∀ d, q d = (p d || decide (d = c))) :
    (s.slotMoved sc f n c).slotsMoved sc p f n = s.slotsMoved sc q f n := by
  have hchannels : Vector.ofFn (fun d => if p d then f ((s.slotMoved sc f n c).channel d) else (s.slotMoved sc f n c).channel d) =
      Vector.ofFn (fun d => if q d then f (s.channel d) else s.channel d) := Tab.ext_get fun d => by
    rw [Tab.get_ofFn, Tab.get_ofFn, State.channel_slotMoved, hq]
    by_cases hd : d = c
    · simp [hd, hc]
    · simp [hd]
  have hheld : ∀ x : Screen, Vector.ofFn (fun d =>
      if p d then n ((s.slotMoved sc f n c).channel d) else Tab.get (Tab.upd x.held c (fun _ => n (s.channel c))) d) =
      Vector.ofFn (fun d => if q d then n (s.channel d) else Tab.get x.held d) := fun x => Tab.ext_get fun d => by
    rw [Tab.get_ofFn, Tab.get_ofFn, State.channel_slotMoved, hq, Tab.get_upd]
    by_cases hd : d = c
    · simp [hd, hc]
    · simp [hd]
  unfold State.slotsMoved
  rw [hchannels]
  simp only [State.slotMoved, State.updScreen, State.updChannel, Tab.upd_upd] at hheld ⊢
  simp only [hheld]

/-- A screen moves at the channels of a list, one after the other, where what it holds there and the channel decide. -/
theorem State.foldl_slotMoved (b : Fin 12 → Option (Fin 3) → Bool) {l : List (Fin 12)} (hl : l.Nodup) :
    l.foldl (fun x c => if b c (Tab.get (x.screen sc).held c) then x.slotMoved sc f n c else x) s =
      s.slotsMoved sc (fun c => decide (c ∈ l) && b c (Tab.get (s.screen sc).held c)) f n := by
  induction l generalizing s with
  | nil => exact (s.slotsMoved_none sc _ f n fun _ => by simp).symm
  | cons a rest ih =>
    obtain ⟨ha, hrest⟩ := List.nodup_cons.1 hl
    rw [List.foldl_cons, ih _ hrest]
    by_cases hb : b a (Tab.get (s.screen sc).held a) = true
    · rw [if_pos hb]
      refine State.slotsMoved_slotMoved s sc _ f n (by simp [ha]) fun d => ?_
      rw [State.held_slotMoved]
      by_cases hd : d = a
      · simp [hd, hb]
      · simp [hd]
    · rw [if_neg hb]
      congr 1
      funext d
      by_cases hd : d = a
      · simp [hd, ha, hb]
      · simp [hd]

end

/-! ## Takes and releases -/

theorem State.releaseSlot_eq (s : State) (sc : Fin 2) (c : Fin 12) :
    s.releaseSlot sc c = s.slotMoved sc (Channel.release sc) (fun _ => none) c := by
  rw [State.releaseSlot, State.channelEvent_quiet _ _ _ rfl rfl]
  rfl

theorem Channel.take_keeps (c : Channel) (sc : Fin 2) : (c.take sc).state = c.state ∧ (c.take sc).grade = c.grade := by
  unfold Channel.take
  (repeat' split) <;> exact ⟨rfl, rfl⟩

theorem State.takeSlot_eq (s : State) (sc : Fin 2) (c : Fin 12) :
    s.takeSlot sc c = s.slotMoved sc (Channel.take sc) Channel.newestSlot c := by
  obtain ⟨hstate, hgrade⟩ := (s.channel c).take_keeps sc
  rw [State.takeSlot, State.channelEvent_quiet _ _ _ hstate hgrade]
  rfl

/-- The releases of a screen (R57, R120, R132). -/
theorem State.releaseWhere_eq (s : State) (sc : Fin 2) (g : Fin 12 → Bool) : s.releaseWhere sc g =
    s.slotsMoved sc (fun c => (Tab.get (s.screen sc).held c).isSome && g c) (Channel.release sc) (fun _ => none) := by
  have h := s.foldl_slotMoved sc (Channel.release sc) (fun _ => none) (fun c held => held.isSome && g c) (List.nodup_finRange 12)
  simp only [List.mem_finRange, decide_true, Bool.true_and] at h
  rw [← h]
  simp only [State.releaseWhere, State.releaseSlot_eq]

/-- The takes of a screen (R56, R131). -/
theorem State.takeWhere_eq (s : State) (sc : Fin 2) (drawn : Fin 12 → Bool) :
    s.takeWhere sc drawn = s.slotsMoved sc drawn (Channel.take sc) Channel.newestSlot := by
  have h := s.foldl_slotMoved sc (Channel.take sc) Channel.newestSlot (fun c _ => drawn c) (List.nodup_finRange 12)
  simp only [List.mem_finRange, decide_true, Bool.true_and] at h
  rw [← h]
  simp only [State.takeWhere, State.takeSlot_eq]

/-- A screen that is turned off (R120). -/
theorem State.disableScreen_eq (s : State) (sc : Fin 2) : s.disableScreen sc =
    (s.slotsMoved sc (fun c => (Tab.get (s.screen sc).held c).isSome) (Channel.release sc) (fun _ => none)).updScreen sc
      (fun x => { x with composing := false, copy := { x.copy with tiles := [] }, record := [], reading := none }) := by
  simp [State.disableScreen, State.releaseWhere_eq]

/-- What a screen holds after releases at the channels for which `g` holds. -/
theorem State.held_releaseWhere (s : State) (sc : Fin 2) (g : Fin 12 → Bool) (c : Fin 12) :
    Tab.get ((s.releaseWhere sc g).screen sc).held c = if g c then none else Tab.get (s.screen sc).held c := by
  rw [State.releaseWhere_eq, State.held_slotsMoved]
  cases hg : g c
  · simp
  · cases hh : Tab.get (s.screen sc).held c <;> simp

end Sys2Proof.Machine

/-! # Proofs: the reader sets that an operation leaves (R44, R56, R57)

Only a take and a release move a reader set. Every other operation leaves the reader sets of all slots as they are. -/

namespace Sys2Proof.Machine

/-! ## One channel -/

/-- The reader sets of a channel's slots. -/
def Channel.readerSets (c : Channel) (i : Fin 3) : BitVec 2 := (c.slot i).readers

theorem Channel.readerSets_updSlot (c : Channel) (i : Fin 3) {f : Slot → Slot} (hf : ∀ sl, (f sl).readers = sl.readers) :
    (c.updSlot i f).readerSets = c.readerSets := by
  funext j
  unfold Channel.readerSets
  rw [Channel.slot_updSlot]
  split
  · next h => rw [hf, h]
  · rfl

theorem Channel.readerSets_mapSlots (c : Channel) {f : Slot → Slot} (hf : ∀ sl, (f sl).readers = sl.readers) :
    { c with slots := c.slots.map f }.readerSets = c.readerSets := by
  funext j
  rw [Channel.readerSets, c.slot_mapSlots, hf, Channel.readerSets]

/-- The slots of a channel carry its reader sets. -/
theorem Channel.readerSets_congr {c d : Channel} (h : d.slots = c.slots) : d.readerSets = c.readerSets := by
  funext i
  rw [Channel.readerSets, Channel.slot, h, ← Channel.slot, ← Channel.readerSets]

theorem Slot.unNewest_readers (sl : Slot) : sl.unNewest.readers = sl.readers := by
  unfold Slot.unNewest
  split <;> simp

@[simp] theorem Channel.readerSets_count (c : Channel) (f : ChannelCounters → ChannelCounters) :
    (c.count f).readerSets = c.readerSets := rfl

@[simp] theorem Channel.readerSets_strayPacket (c : Channel) : c.strayPacket.readerSets = c.readerSets := rfl

@[simp] theorem Channel.readerSets_abandonIntake (c : Channel) : c.abandonIntake.readerSets = c.readerSets := by
  funext i
  exact c.readers_abandonIntake i

@[simp] theorem Channel.readerSets_bind (k : Fin 256) (c : Channel) : (c.bind k).readerSets = c.readerSets := rfl

@[simp] theorem Channel.readerSets_unbind (c : Channel) : c.unbind.readerSets = c.readerSets :=
  (c.abandonIntake.readerSets_mapSlots fun _ => by simp).trans c.readerSets_abandonIntake

@[simp] theorem Channel.readerSets_frameOpen (frame : Nat) (grade : Grade) (home : Nat) (c : Channel) :
    (c.frameOpen frame grade home).readerSets = c.readerSets := by
  unfold Channel.frameOpen
  split
  · rfl
  · dsimp only
    split
    · next i _ =>
      have hfill := Channel.readerSets_updSlot { c.abandonIntake with grade := grade, home := some home, intake := .filling i frame } i
        (f := fun sl => { sl with state := .filling, frame := frame, good := [] }) fun _ => rfl
      exact hfill.trans c.readerSets_abandonIntake
    · exact c.readerSets_abandonIntake

@[simp] theorem Channel.readerSets_line (frame line : Nat) (pixels : List Byte) (poisoned : Bool) (c : Channel) :
    (c.line frame line pixels poisoned).readerSets = c.readerSets := by
  have hgood : ∀ sl : Slot, (sl.goodLine line pixels).readers = sl.readers := fun sl => by
    unfold Slot.goodLine
    split <;> rfl
  have hpoisoned : ∀ sl : Slot, (sl.poisonedLine line pixels).readers = sl.readers := fun sl => by
    unfold Slot.poisonedLine
    split <;> rfl
  unfold Channel.line
  (repeat' split)
  · rfl
  · rfl
  · rfl
  · exact c.readerSets_updSlot _ hpoisoned
  · exact c.readerSets_updSlot _ hgood
  · rfl

@[simp] theorem Channel.readerSets_publish (i : Fin 3) (missing : List Nat) (c : Channel) :
    (c.publish i missing).readerSets = c.readerSets :=
  (Channel.readerSets_updSlot _ i (f := fun sl => { sl with state := .stored, newest := true, missing := missing }) fun _ => rfl).trans
    (c.readerSets_mapSlots Slot.unNewest_readers)

@[simp] theorem Channel.readerSets_frameClose (frame : Nat) (status : CloseStatus) (c : Channel) :
    (c.frameClose frame status).readerSets = c.readerSets := by
  unfold Channel.frameClose
  split
  · rfl
  · split <;> rfl
  · split
    · dsimp only
      split <;> simp
    · rfl

@[simp] theorem Channel.readerSets_ageStale (c : Channel) : c.ageStale.readerSets = c.readerSets := by
  unfold Channel.ageStale
  split <;> rfl

@[simp] theorem Channel.readerSets_ageLost (c : Channel) : c.ageLost.readerSets = c.readerSets := by
  unfold Channel.ageLost
  split <;> rfl

@[simp] theorem Channel.readerSets_compareStale (c : Channel) : c.compareStale.readerSets = c.readerSets := by
  unfold Channel.compareStale
  split <;> rfl

@[simp] theorem Channel.readerSets_compareLost (c : Channel) : c.compareLost.readerSets = c.readerSets := by
  unfold Channel.compareLost
  split <;> rfl

/-! ## The hub -/

/-- The reader sets of all slots. -/
def State.readerSets (s : State) (c : Fin 12) : Fin 3 → BitVec 2 := (s.channel c).readerSets

theorem State.readerSets_congr {s t : State} (h : t.channels = s.channels) : t.readerSets = s.readerSets := by
  funext c
  rw [State.readerSets, State.channel_congr h, State.readerSets]

/-- A change that leaves the reader sets of a channel leaves them all. -/
theorem State.readerSets_updChannel (s : State) (c : Fin 12) {f : Channel → Channel} (hf : ∀ x, (f x).readerSets = x.readerSets) :
    (s.updChannel c f).readerSets = s.readerSets := by
  funext d
  rw [State.readerSets, State.channel, State.updChannel_channels, Tab.get_upd]
  split
  · next h => rw [hf, h]; rfl
  · rfl

@[simp] theorem State.readerSets_channelEvent (s : State) (c : Fin 12) {f : Channel → Channel}
    (hf : ∀ x, (f x).readerSets = x.readerSets) :
    (s.channelEvent c f).readerSets = s.readerSets :=
  (State.readerSets_congr (s.channelEvent_channels c f)).trans (s.readerSets_updChannel c hf)

@[simp] theorem State.readerSets_deliver (s : State) (e : StreamEntry) {f : Channel → Channel}
    (hf : ∀ x, (f x).readerSets = x.readerSets) :
    (s.deliver e f).readerSets = s.readerSets := by
  unfold State.deliver
  split
  · exact s.readerSets_channelEvent _ hf
  · rfl


/-! ## The switch (spec 02) -/

@[simp] theorem State.readerSets_updRx (s : State) (p : Port) (f : Receiver → Receiver) : (s.updRx p f).readerSets = s.readerSets :=
  State.readerSets_congr (by simp)

@[simp] theorem State.readerSets_updFlow (s : State) (k : Fin 256) (f : StreamFlow → StreamFlow) :
    (s.updFlow k f).readerSets = s.readerSets := rfl

@[simp] theorem State.readerSets_sendIfRouted (s : State) (e : StreamEntry) (t : Trunk) (k : Fin 256) (p : Packet) :
    (s.sendIfRouted e t k p).readerSets = s.readerSets := State.readerSets_congr (by simp)

@[simp] theorem State.readerSets_closeCut (s : State) (k : Fin 256) : (s.closeCut k).readerSets = s.readerSets := by
  simp [State.closeCut]

@[simp] theorem State.readerSets_originLoss (s : State) (p : Port) : (s.originLoss p).readerSets = s.readerSets :=
  State.originLoss_keeps (P := fun x => x.readerSets = s.readerSets) (fun x k h => (x.readerSets_closeCut k).trans h) rfl p

@[simp] theorem State.readerSets_switchFrameOpen (s : State) (p : Port) (k : Fin 256) (frame : Nat) (grade : Grade) (home : Nat) :
    (s.switchFrameOpen p k frame grade home).readerSets = s.readerSets := by
  unfold State.switchFrameOpen
  split
  · exact State.readerSets_congr (by simp [State.countUnrouted])
  · exact State.readerSets_congr (by simp [State.countMisrouted])
  · unfold State.routeFrameOpen State.closeIfOpen
    dsimp only
    split <;> simp

@[simp] theorem State.readerSets_switchFrameClose (s : State) (p : Port) (k : Fin 256) (frame : Nat) (status : CloseStatus) :
    (s.switchFrameClose p k frame status).readerSets = s.readerSets := by
  unfold State.switchFrameClose
  dsimp only
  (repeat' split)
  · exact State.readerSets_congr (by simp [State.countUnrouted])
  · exact State.readerSets_congr (by simp [State.countMisrouted])
  · simp [State.routeFrameClose]
  · exact State.readerSets_congr (by simp [State.countStray])

@[simp] theorem State.readerSets_settleLine (s : State) (p : Port) (a : LineArrival) (report : EndReport) (bytes : List Byte) :
    (s.settleLine p a report bytes).readerSets = s.readerSets := by
  by_cases ho : s.StillOpen a
  · rw [State.settleLine_open ho]
    split
    · exact State.readerSets_congr (by simp)
    · exact (State.readerSets_deliver _ _ fun x => x.readerSets_line ..).trans (State.readerSets_congr (by simp))
  · rw [State.settleLine_closed ho]
    (repeat' split) <;> exact State.readerSets_congr (by simp)

@[simp] theorem State.readerSets_reportLineEnd (s : State) (p : Port) (report : EndReport) (bytes : List Byte) :
    (s.reportLineEnd p report bytes).readerSets = s.readerSets := by
  unfold State.reportLineEnd
  split
  · rfl
  · exact (State.readerSets_settleLine ..).trans (State.readerSets_congr (by simp))

@[simp] theorem State.readerSets_abandonArrival (s : State) (p : Port) : (s.abandonArrival p).readerSets = s.readerSets := by
  unfold State.abandonArrival
  split
  · rfl
  · exact (State.readerSets_updRx ..).trans (State.readerSets_reportLineEnd ..)

/-! ## The ports (spec 01) -/

@[simp] theorem State.readerSets_setIgnoring (s : State) (p : Port) (b : Bool) : (s.setIgnoring p b).readerSets = s.readerSets :=
  State.readerSets_congr (by simp)

@[simp] theorem State.readerSets_clearUnformed (s : State) (p : Port) : (s.clearUnformed p).readerSets = s.readerSets :=
  State.readerSets_congr (by simp)

@[simp] theorem State.readerSets_markUnformed (s : State) (p : Port) (u : UnformedLine) : (s.markUnformed p u).readerSets = s.readerSets :=
  State.readerSets_updRx ..

@[simp] theorem State.readerSets_countReceived (s : State) (p : Port) : (s.countReceived p).readerSets = s.readerSets :=
  State.readerSets_congr (by simp)

@[simp] theorem State.readerSets_countFraming (s : State) (p : Port) : (s.countFraming p).readerSets = s.readerSets :=
  State.readerSets_congr (by simp)

@[simp] theorem State.readerSets_countShape (s : State) (p : Port) : (s.countShape p).readerSets = s.readerSets :=
  State.readerSets_congr (by simp)

@[simp] theorem State.readerSets_countPoisoned (s : State) (p : Port) : (s.countPoisoned p).readerSets = s.readerSets :=
  State.readerSets_congr (by simp)

@[simp] theorem State.readerSets_countFault (s : State) (p : Port) (fault : PacketFault) :
    (s.countFault p fault).readerSets = s.readerSets := State.readerSets_congr (by simp)

@[simp] theorem State.readerSets_judgeHighLine (s : State) (p : Port) : (s.judgeHighLine p).readerSets = s.readerSets := by
  simp [State.judgeHighLine]

@[simp] theorem State.readerSets_switchLineHeader (s : State) (p : Port) (k : Fin 256) (frame line : Nat) :
    (s.switchLineHeader p k frame line).readerSets = s.readerSets := State.readerSets_congr (by simp)

@[simp] theorem State.readerSets_takeHeader (s : State) (p : Port) (stream : Byte) (frame line : Nat) :
    (s.takeHeader p stream frame line).readerSets = s.readerSets := by
  unfold State.takeHeader
  split <;> simp

@[simp] theorem State.readerSets_ensureHeader (s : State) (p : Port) (bytes : List Byte) :
    (s.ensureHeader p bytes).readerSets = s.readerSets := by
  unfold State.ensureHeader
  split <;> simp

@[simp] theorem State.readerSets_framingFault (s : State) (p : Port) (cause : FramingCause) (bytes : List Byte) :
    (s.framingFault p cause bytes).readerSets = s.readerSets := by
  unfold State.framingFault
  dsimp only
  (repeat' split) <;> simp

@[simp] theorem State.readerSets_overLongEnd (s : State) (p : Port) (bytes : List Byte) :
    (s.overLongEnd p bytes).readerSets = s.readerSets := by
  unfold State.overLongEnd
  split <;> simp

@[simp] theorem State.readerSets_handFrameOpen (s : State) (p : Port) (k : Fin 256) (frame : Nat) (grade : Grade) (home : Nat) :
    (s.handFrameOpen p k frame grade home).readerSets = s.readerSets := by
  cases p with
  | cam i => exact (State.readerSets_switchFrameOpen ..).trans (State.readerSets_congr (by simp))
  | trunk u => exact (State.readerSets_switchFrameOpen ..).trans (State.readerSets_countReceived ..)

@[simp] theorem State.readerSets_handFrameClose (s : State) (p : Port) (k : Fin 256) (frame : Nat) (status : CloseStatus) :
    (s.handFrameClose p k frame status).readerSets = s.readerSets := by
  cases p with
  | cam i => exact (State.readerSets_switchFrameClose ..).trans (State.readerSets_congr (by simp))
  | trunk u => exact (State.readerSets_switchFrameClose ..).trans (State.readerSets_countReceived ..)

@[simp] theorem State.readerSets_handLine (s : State) (p : Port) (frame line : Nat) (pixels bytes : List Byte) :
    (s.handLine p frame line pixels bytes).readerSets = s.readerSets := by
  cases p with
  | cam i => exact (State.readerSets_reportLineEnd ..).trans (State.readerSets_congr (by simp))
  | trunk u => exact (State.readerSets_reportLineEnd ..).trans (State.readerSets_countReceived ..)

@[simp] theorem State.readerSets_handOn (s : State) (p : Port) (packet : Packet) (bytes : List Byte) :
    (s.handOn p packet bytes).readerSets = s.readerSets := by
  unfold State.handOn
  split
  · exact State.readerSets_handFrameOpen ..
  · exact State.readerSets_handFrameClose ..
  · exact State.readerSets_handLine ..
  · exact State.readerSets_congr (by simp)
  · exact State.readerSets_congr (by simp)
  · rfl
  · rfl

@[simp] theorem State.readerSets_judgeArrival (s : State) (p : Port) (bytes : List Byte) :
    (s.judgeArrival p bytes).readerSets = s.readerSets := by
  unfold State.judgeArrival
  split <;> simp

@[simp] theorem State.readerSets_packetEnd (s : State) (p : Port) (bytes : List Byte) :
    (s.packetEnd p bytes).readerSets = s.readerSets := by
  unfold State.packetEnd
  (repeat' split) <;> simp

@[simp] theorem State.readerSets_discardPoisoned (s : State) (p : Port) (bytes : List Byte) :
    (s.discardPoisoned p bytes).readerSets = s.readerSets := by
  unfold State.discardPoisoned
  split <;> simp

@[simp] theorem State.readerSets_poisonedArrival (s : State) (p : Port) (bytes : List Byte) :
    (s.poisonedArrival p bytes).readerSets = s.readerSets := by
  unfold State.poisonedArrival
  dsimp only
  (repeat' split) <;> simp

@[simp] theorem State.readerSets_portLost (s : State) (p : Port) : (s.portLost p).readerSets = s.readerSets := by
  unfold State.portLost
  split <;> exact (State.readerSets_originLoss ..).trans (State.readerSets_congr (by simp))

@[simp] theorem State.readerSets_linkDown (s : State) (p : Port) (arrived : Option (List Byte)) :
    (s.linkDown p arrived).readerSets = s.readerSets := by
  have hoffer : ∀ (x : State) n, (x.offer n).readerSets = x.readerSets := fun _ _ => rfl
  unfold State.linkDown
  dsimp only
  (repeat' split) <;> simp [hoffer]

@[simp] theorem State.readerSets_disablePort (s : State) (i : Fin 8) : (s.disablePort i).readerSets = s.readerSets := by
  have hx : (((s.abandonArrival (.cam i)).stopLens i).loseCameraFrame i).readerSets = (s.abandonArrival (.cam i)).readerSets :=
    State.readerSets_congr (by simp)
  unfold State.disablePort
  rw [State.readerSets_originLoss, hx, State.readerSets_abandonArrival]

@[simp] theorem State.readerSets_restartPort (s : State) (p : Port) : (s.restartPort p).readerSets = s.readerSets := by
  unfold State.restartPort
  dsimp only
  rw [State.readerSets_portLost]
  refine Eq.trans (State.readerSets_congr ?_) (s.readerSets_abandonArrival p)
  cases p <;> simp

end Sys2Proof.Machine

/-! # Proofs: every step keeps the held slots and the reader sets one and the same, and the screen records consistent (R56, R57, R117,
R121)

A screen holds the slots whose reader sets it is in. Its own takes and releases move both together; every other operation leaves both. -/

namespace Sys2Proof.Machine

/-! ## One screen -/

/-- What a screen record keeps of R117, and a reading of R128 to R130. -/
def Screen.Consistent (x : Screen) : Prop :=
  (∀ r, x.reading = some r → r.drawn.length = r.copy.tiles.length) ∧ x.blink < 50 ∧ x.frameBlink < 50 ∧
    x.record.length = x.copy.tiles.length

theorem State.screensConsistent_iff (s : State) :
    s.ScreensConsistent ↔ (∀ sc, (s.screen sc).Consistent) ∧ ∀ v : Fin 32, (Tab.get s.views v).tiles.length ≤ 8 := Iff.rfl

/-- A frame begins with the blink position as it stands, and makes its reading anew (R118). -/
theorem Screen.Consistent.beginFrame {x : Screen} (h : x.Consistent) : x.beginFrame.Consistent := by
  obtain ⟨-, hblink, -, hrecord⟩ := h
  exact ⟨nofun, Nat.mod_lt _ (by decide), hblink, hrecord⟩

/-- A change of what R117 does not bound. -/
theorem Screen.Consistent.congr {x y : Screen} (h : x.Consistent) (hr : y.reading = x.reading)
    (hb : y.blink = x.blink ∧ y.frameBlink = x.frameBlink) (hc : y.record = x.record ∧ y.copy = x.copy) : y.Consistent := by
  obtain ⟨hblink, hframe⟩ := hb
  obtain ⟨hrecord, hcopy⟩ := hc
  unfold Screen.Consistent
  rw [hr, hblink, hframe, hrecord, hcopy]
  exact h

/-- A screen that is turned off has neither a copy nor a record of tiles (R120). -/
theorem Screen.Consistent.turnedOff {x : Screen} (h : x.Consistent) :
    { x with composing := false, copy := { x.copy with tiles := [] }, record := [], reading := none }.Consistent := by
  obtain ⟨-, hblink, hframe, -⟩ := h
  exact ⟨nofun, hblink, hframe, rfl⟩

theorem Screen.consistent_reset : Screen.reset.Consistent := ⟨nofun, by decide, by decide, rfl⟩

/-- A reading decides every tile of its copy (R129, R130). -/
theorem State.readFrame_drawn_length (s : State) (sc : Fin 2) :
    (s.readFrame sc).drawn.length = (s.readFrame sc).copy.tiles.length := by
  simp [State.readFrame]

theorem State.startReading_drawn_length {s : State} {sc : Fin 2} (h : (s.screen sc).Consistent) :
    (s.startReading sc).drawn.length = (s.startReading sc).copy.tiles.length := by
  obtain ⟨-, -, hstands | hfresh⟩ := s.startReading_spec sc
  · exact h.1 _ hstands
  · rw [hfresh]
    exact s.readFrame_drawn_length sc

/-! ## The frame that a screen composes (R131, R132, R134) -/

/-- Whether a reading draws a channel (R130, R131). -/
def FrameReading.draws (r : FrameReading) (c : Fin 12) : Bool := r.drawn.any (fun d => d.1 = c)

theorem FrameReading.draws_iff (r : FrameReading) (c : Fin 12) : r.draws c = true ↔ ∃ b, (c, b) ∈ r.drawn := by
  simp [FrameReading.draws]

/-- A start takes at the channels that are drawn, releases what it holds of the others, and records the tiles. -/
theorem State.composeFrame_eq (s : State) (sc : Fin 2) (r : FrameReading) : s.composeFrame sc r =
    ((s.takeWhere sc r.draws).releaseWhere sc (fun c => !r.draws c)).updScreen sc
      (fun x => { x with activeView := r.view, copy := r.copy, record := r.record s.channels, composing := true }) := rfl

/-- The channels after a start (R131, R132). -/
theorem State.channel_composeFrame (s : State) (sc : Fin 2) (r : FrameReading) (c : Fin 12) : (s.composeFrame sc r).channel c =
    if r.draws c then (s.channel c).take sc
    else if (Tab.get (s.screen sc).held c).isSome then (s.channel c).release sc else s.channel c := by
  rw [State.composeFrame_eq, State.channel_updScreen, State.releaseWhere_eq, State.channel_slotsMoved, State.takeWhere_eq,
    State.channel_slotsMoved, State.held_slotsMoved]
  cases r.draws c <;> simp

/-- What a screen holds after a start: the newest slot of each channel that is drawn, and nothing else (R131, R132). -/
theorem State.held_composeFrame (s : State) (sc : Fin 2) (r : FrameReading) (c : Fin 12) :
    Tab.get ((s.composeFrame sc r).screen sc).held c = if r.draws c then (s.channel c).newestSlot else none := by
  rw [State.composeFrame_eq, State.screen_updScreen_self]
  dsimp only
  rw [State.held_releaseWhere, State.takeWhere_eq, State.held_slotsMoved]
  cases r.draws c <;> rfl

/-- The record of a screen after a start, besides what it holds. -/
theorem State.screen_composeFrame (s : State) (sc : Fin 2) (r : FrameReading) : (s.composeFrame sc r).screen sc =
    { s.screen sc with
      held := ((s.composeFrame sc r).screen sc).held
      activeView := r.view, copy := r.copy, record := r.record s.channels, composing := true } := by
  rw [State.composeFrame_eq, State.screen_updScreen_self, State.releaseWhere_eq, State.screen_slotsMoved, State.takeWhere_eq,
    State.screen_slotsMoved]

theorem State.screen_composeFrame_of_ne (s : State) {sc sd : Fin 2} (h : sd ≠ sc) (r : FrameReading) :
    (s.composeFrame sc r).screen sd = s.screen sd := by
  rw [State.composeFrame_eq, State.screen_updScreen_of_ne _ _ h, State.releaseWhere_eq, State.screen_slotsMoved_of_ne _ _ _ _ _ h,
    State.takeWhere_eq, State.screen_slotsMoved_of_ne _ _ _ _ _ h]

/-! ## The held slots -/

/-- The held slots and the reader sets are as they were. -/
theorem State.HeldSlotsAreRead.congr {s t : State} (h : s.HeldSlotsAreRead) (hx : ∀ sc, (t.screen sc).held = (s.screen sc).held)
    (hr : t.readerSets = s.readerSets) : t.HeldSlotsAreRead := fun sc c i => by
  have hslot : ((t.channel c).slot i).readers = ((s.channel c).slot i).readers := congrFun (congrFun hr c) i
  rw [hx, hslot]
  exact h sc c i

/-- A screen that holds what it reads reads one slot of a channel at most. -/
theorem State.HeldSlotsAreRead.readsOnce {s : State} (h : s.HeldSlotsAreRead) (sc : Fin 2) (c : Fin 12) :
    (s.channel c).ReadsOnce sc := fun i j hi hj =>
  Option.some.inj (((h sc c i).2 hi).symm.trans ((h sc c j).2 hj))

/-- A screen may move where it then holds what it reads, and where the other screen reads what it did. -/
theorem State.HeldSlotsAreRead.slotsMoved {s : State} (h : s.HeldSlotsAreRead) (sc : Fin 2) (p : Fin 12 → Bool) {f : Channel → Channel}
    {n : Channel → Option (Fin 3)} (hself : ∀ c i, n (s.channel c) = some i ↔ (f (s.channel c)).Reads sc i)
    (hother : ∀ c sd i, sd ≠ sc → ((f (s.channel c)).Reads sd i ↔ (s.channel c).Reads sd i)) :
    (s.slotsMoved sc p f n).HeldSlotsAreRead := by
  intro sd c i
  rw [State.channel_slotsMoved]
  by_cases hd : sd = sc
  · subst hd
    rw [State.held_slotsMoved]
    split
    · exact hself c i
    · exact h sd c i
  · rw [State.screen_slotsMoved_of_ne _ _ _ _ _ hd]
    split
    · exact (h sd c i).trans (hother c sd i hd).symm
    · exact h sd c i

theorem State.HeldSlotsAreRead.takeWhere {s : State} (h : s.HeldSlotsAreRead) (sc : Fin 2) (drawn : Fin 12 → Bool) :
    (s.takeWhere sc drawn).HeldSlotsAreRead := by
  rw [State.takeWhere_eq]
  exact h.slotsMoved sc _ (fun c i => (Channel.take_reads (h.readsOnce sc c) i).symm) fun c sd i hd => Channel.take_reads_of_ne _ hd i

theorem State.HeldSlotsAreRead.releaseWhere {s : State} (h : s.HeldSlotsAreRead) (sc : Fin 2) (g : Fin 12 → Bool) :
    (s.releaseWhere sc g).HeldSlotsAreRead := by
  rw [State.releaseWhere_eq]
  exact h.slotsMoved sc _ (fun c i => by simp [Channel.release_reads]) fun c sd i hd => by simp [Channel.release_reads, hd]

/-- A screen's record changed in all but what it holds. -/
theorem State.HeldSlotsAreRead.updScreen {s : State} (h : s.HeldSlotsAreRead) (sc : Fin 2) {f : Screen → Screen}
    (hf : ∀ x, (f x).held = x.held) : (s.updScreen sc f).HeldSlotsAreRead := by
  refine h.congr (fun sd => ?_) rfl
  by_cases hd : sd = sc
  · subst hd
    rw [State.screen_updScreen_self, hf]
  · rw [State.screen_updScreen_of_ne _ _ hd]

/-! ## Both invariants -/

/-- A screen's record changed, and it stays consistent. -/
theorem State.ScreensConsistent.of_screen {s t : State} (h : s.ScreensConsistent) {sc : Fin 2} (hx : (t.screen sc).Consistent)
    (hother : ∀ sd, sd ≠ sc → t.screen sd = s.screen sd) (hv : t.views = s.views) : t.ScreensConsistent := by
  obtain ⟨hs, hviews⟩ := h
  refine ⟨fun sd => ?_, hv ▸ hviews⟩
  by_cases hd : sd = sc
  · exact hd ▸ hx
  · rw [hother sd hd]
    exact hs sd

/-- The held slots are read, and the screen records are consistent. -/
structure State.ScreensAgree (s : State) : Prop where
  held : s.HeldSlotsAreRead
  consistent : s.ScreensConsistent

namespace State.ScreensAgree

variable {s t : State}

/-- What the screens, the views and the reader sets decide. -/
theorem of_frame (h : s.ScreensAgree) (hx : t.screens = s.screens) (hv : t.views = s.views) (hr : t.readerSets = s.readerSets) :
    t.ScreensAgree where
  held := h.held.congr (fun sc => by rw [State.screen_congr hx]) hr
  consistent := by
    obtain ⟨hs, hviews⟩ := h.consistent
    exact ⟨fun sc => by rw [State.screen_congr hx]; exact hs sc, hv ▸ hviews⟩

/-- An operation that leaves the screens, the views and the channels. -/
theorem of_channels (h : s.ScreensAgree) (hx : t.screens = s.screens) (hv : t.views = s.views) (hc : t.channels = s.channels) :
    t.ScreensAgree := h.of_frame hx hv (State.readerSets_congr hc)

theorem updScreen (h : s.ScreensAgree) (sc : Fin 2) {f : Screen → Screen} (hf : ∀ x, (f x).held = x.held)
    (hc : (f (s.screen sc)).Consistent) : (s.updScreen sc f).ScreensAgree where
  held := h.held.updScreen sc hf
  consistent := h.consistent.of_screen (by rw [State.screen_updScreen_self]; exact hc) (fun _ => State.screen_updScreen_of_ne s f) rfl

theorem screen (h : s.ScreensAgree) (sc : Fin 2) : (s.screen sc).Consistent := h.consistent.1 sc

/-! ## Screens -/

theorem disableScreen (h : s.ScreensAgree) (sc : Fin 2) : (s.disableScreen sc).ScreensAgree where
  held := by
    unfold State.disableScreen
    exact (h.held.releaseWhere sc _).updScreen sc fun _ => rfl
  consistent := by
    rw [State.disableScreen_eq]
    refine h.consistent.of_screen (sc := sc) ?_ (fun sd hd => ?_) rfl
    · rw [State.screen_updScreen_self, State.screen_slotsMoved]
      exact (h.screen sc).turnedOff.congr rfl ⟨rfl, rfl⟩ ⟨rfl, rfl⟩
    · rw [State.screen_updScreen_of_ne _ _ hd, State.screen_slotsMoved_of_ne _ _ _ _ _ hd]

theorem composeFrame (h : s.ScreensAgree) (sc : Fin 2) {r : FrameReading} (hr : r.drawn.length = r.copy.tiles.length) :
    (s.composeFrame sc r).ScreensAgree where
  held := by
    rw [State.composeFrame_eq]
    exact ((h.held.takeWhere sc _).releaseWhere sc _).updScreen sc fun _ => rfl
  consistent := by
    obtain ⟨hreading, hblink, hframe, -⟩ := h.screen sc
    refine h.consistent.of_screen ?_ (fun _ hd => State.screen_composeFrame_of_ne s hd r) (by simp)
    rw [State.screen_composeFrame]
    exact ⟨hreading, hblink, hframe, by simpa [FrameReading.record] using hr⟩

theorem frameStart (h : s.ScreensAgree) (sc : Fin 2) : (s.frameStart sc).ScreensAgree := by
  have hbegin : (s.updScreen sc Screen.beginFrame).ScreensAgree := h.updScreen sc (fun _ => rfl) (h.screen sc).beginFrame
  unfold State.frameStart
  dsimp only
  split
  · exact hbegin
  · exact hbegin.composeFrame sc (State.startReading_drawn_length (h.screen sc))

/-- A millisecond makes the reading of a start that is due, and leaves what the screens hold (R118, entry 26). -/
theorem tick (h : s.ScreensAgree) : s.tick.ScreensAgree := by
  have hscreen : ∀ sc, s.tick.screen sc = s.tickScreen sc (s.screen sc) := fun sc => Tab.get_ofFn _ sc
  have hreaders : s.tick.readerSets = s.readerSets := funext fun c => by
    have hc : s.tick.channel c = (s.channel c).tick := Tab.get_map ..
    rw [State.readerSets, hc]
    rfl
  refine ⟨h.held.congr (fun sc => by rw [hscreen]; rfl) hreaders, fun sc => ?_, h.consistent.2⟩
  obtain ⟨hreading, hblink, hframe, hrecord⟩ := h.screen sc
  rw [hscreen]
  refine ⟨fun r hr => ?_, hblink, hframe, hrecord⟩
  unfold State.tickScreen at hr
  dsimp only at hr
  split at hr
  · exact Option.some.inj hr ▸ s.readFrame_drawn_length sc
  · exact hreading r hr

/-! ## Orders -/

theorem answer (h : s.ScreensAgree) (i : Fin 2) (o : HeldOrder) (a : Answer) : (s.answer i o a).ScreensAgree :=
  h.of_frame rfl rfl rfl

theorem onOrder (h : s.ScreensAgree) (codes : Byte → Bool) {run : Fin 2 → HeldOrder → State → State}
    (hr : ∀ i o, (run i o s).ScreensAgree) : (s.onOrder codes run).ScreensAgree := by
  unfold State.onOrder
  (repeat' split)
  · exact hr _ _
  · exact h
  · exact h

end State.ScreensAgree

/-- The effect of an order keeps both. -/
def KeepsScreens (effect : State → State × Answer) : Prop := ∀ s : State, s.ScreensAgree → (effect s).1.ScreensAgree

/-- An effect that leaves the screens, the views and the reader sets. -/
theorem KeepsScreens.of_frame {effect : State → State × Answer} (h : ∀ s, (effect s).1.screens = s.screens ∧
    (effect s).1.views = s.views ∧ (effect s).1.readerSets = s.readerSets) : KeepsScreens effect := fun s hs => by
  obtain ⟨hx, hv, hr⟩ := h s
  exact hs.of_frame hx hv hr

/-- An effect that leaves the screens, the views and the channels. -/
theorem KeepsScreens.of_channels {effect : State → State × Answer} (h : ∀ s, (effect s).1.screens = s.screens ∧
    (effect s).1.views = s.views ∧ (effect s).1.channels = s.channels) : KeepsScreens effect := fun s hs => by
  obtain ⟨hx, hv, hc⟩ := h s
  exact hs.of_channels hx hv hc

theorem keepsScreens_setPort (ps : List Byte) : KeepsScreens (setPortEffect ps) := .of_frame fun s => by
  have hlens : ∀ (x : State) i f, (x.lensEvent i f).readerSets = x.readerSets := fun x i f => State.readerSets_congr (by simp)
  have hcam : ∀ (x : State) i f, (x.updCam i f).readerSets = x.readerSets := fun _ _ _ => rfl
  unfold setPortEffect
  dsimp only
  (repeat' split) <;> simp [hlens, hcam]

theorem keepsScreens_restartPort (ps : List Byte) : KeepsScreens (restartPortEffect ps) := .of_frame fun s => by
  unfold restartPortEffect
  split <;> simp

theorem keepsScreens_loadStream (ps : List Byte) : KeepsScreens (loadStreamEffect ps) := .of_frame fun s => by
  have hstream : ∀ (x : State) k f, (x.updStream k f).readerSets = x.readerSets := fun _ _ _ => rfl
  have hbind : ∀ (x : State) e k, (x.deliver e (Channel.bind k)).readerSets = x.readerSets := fun x e k =>
    x.readerSets_deliver e (Channel.readerSets_bind k)
  unfold loadStreamEffect
  dsimp only
  (repeat' split) <;> simp [hstream, hbind]

theorem keepsScreens_setChannel (ps : List Byte) : KeepsScreens (setChannelEffect ps) := .of_frame fun s => by
  unfold setChannelEffect
  split
  · exact ⟨rfl, rfl, rfl⟩
  · next o _ =>
    have hset := s.readerSets_updChannel o.channel
      (f := fun c => { c with patch := o.patch, staleTime := o.staleTime, lostTime := o.lostTime }) fun _ => rfl
    dsimp only
    split <;> simp [hset]

/-- `n` tiles are read as `n` tiles (R122). -/
theorem length_readTiles {n : Nat} {ps : List Byte} {ts : List (Tile × Bool)} (h : readTiles n ps = some ts) : ts.length = n := by
  induction n generalizing ps ts with
  | zero => cases h; rfl
  | succ n ih =>
    simp only [readTiles, Option.bind_eq_bind, Option.bind_eq_some_iff] at h
    obtain ⟨x, -, rest, hrest, h⟩ := h
    cases h
    simp [ih hrest]

/-- A view that LOAD-VIEW accepts has 8 tiles at most (R122). -/
theorem readLoadView_tiles {ps : List Byte} {v : Fin 32} {view : View} {clamped : Bool} (h : readLoadView ps = some (v, view, clamped)) :
    view.tiles.length ≤ 8 := by
  unfold readLoadView at h
  split at h
  · cases h
  · next hok =>
    simp only [Option.bind_eq_bind, Option.bind_eq_some_iff] at h
    obtain ⟨_, -, tiles, htiles, h⟩ := h
    cases h
    simp only [List.length_map, length_readTiles htiles]
    simp only [Bool.or_eq_true, decide_eq_true_eq, not_or] at hok
    omega

theorem keepsScreens_loadView (ps : List Byte) : KeepsScreens (loadViewEffect ps) := fun s hs => by
  unfold loadViewEffect
  split
  · exact hs
  · next v view clamped hread =>
    refine ⟨hs.held.congr (fun _ => rfl) rfl, fun sc => hs.screen sc, fun w => ?_⟩
    dsimp only
    rw [Tab.get_upd]
    split
    · exact readLoadView_tiles hread
    · exact hs.consistent.2 w

theorem keepsScreens_setScreen (ps : List Byte) : KeepsScreens (setScreenEffect ps) := fun s hs => by
  unfold setScreenEffect
  split
  · exact hs
  · next o _ =>
    have hset : (s.updScreen o.screen (fun x => { x with enable := o.enable, defaultView := o.defaultView })).ScreensAgree :=
      hs.updScreen o.screen (fun _ => rfl) ((hs.screen o.screen).congr rfl ⟨rfl, rfl⟩ ⟨rfl, rfl⟩)
    obtain ⟨-, -, -, hc, -, -, hx, hv, -⟩ := State.recompute_frame
      (s.updScreen o.screen (fun x => { x with enable := o.enable, defaultView := o.defaultView })) o.screen
    have hview := hset.of_channels hx hv hc
    dsimp only
    (repeat' split)
    · exact hview.disableScreen o.screen
    · exact hset.disableScreen o.screen
    · exact hview
    · exact hset

theorem keepsScreens_clearCounts (ps : List Byte) : KeepsScreens (clearCountsEffect ps) := .of_frame fun s => by
  unfold clearCountsEffect
  split
  · exact ⟨rfl, rfl, rfl⟩
  · next p _ => cases p <;> exact ⟨rfl, rfl, rfl⟩
  · exact ⟨rfl, rfl, s.readerSets_updChannel _ fun _ => rfl⟩
  · exact ⟨rfl, rfl, rfl⟩

theorem keepsScreens_loadTrigger (ps : List Byte) : KeepsScreens (loadTriggerEffect ps) := .of_channels fun s => by
  unfold loadTriggerEffect
  split <;> simp

theorem keepsScreens_setLines (ps : List Byte) : KeepsScreens (setLinesEffect ps) := .of_channels fun s => by simp [setLinesEffect]

theorem keepsScreens_pinView (ps : List Byte) : KeepsScreens (pinViewEffect ps) := .of_channels fun s => by
  unfold pinViewEffect
  split <;> simp

theorem keepsScreens_releaseView (ps : List Byte) : KeepsScreens (releaseViewEffect ps) := .of_channels fun s => by
  unfold releaseViewEffect
  split <;> simp

theorem keepsScreens_loadProfile (ps : List Byte) : KeepsScreens (loadProfileEffect ps) := .of_channels fun s => by
  unfold loadProfileEffect
  dsimp only
  (repeat' split) <;> simp

theorem keepsScreens_learn (ps : List Byte) : KeepsScreens (learnEffect ps) := .of_channels fun s => by
  unfold learnEffect
  split <;> simp

theorem keepsScreens_setAlert (ps : List Byte) : KeepsScreens (setAlertEffect ps) := .of_channels fun s => by
  unfold setAlertEffect
  split <;> simp

theorem keepsScreens_query (ps : List Byte) : KeepsScreens (queryEffect ps) := .of_channels fun s => by
  unfold queryEffect
  dsimp only
  (repeat' split) <;> simp

theorem keepsScreens_queryZones (ps : List Byte) : KeepsScreens (queryZonesEffect ps) := .of_channels fun s => by
  unfold queryZonesEffect
  split <;> simp

theorem keepsScreens_baselines (ps : List Byte) : KeepsScreens (baselinesEffect ps) := .of_channels fun s => by
  unfold baselinesEffect
  (repeat' split) <;> simp

theorem EntryKind.keepsScreens_effect (k : EntryKind) (ps : List Byte) : KeepsScreens (k.effect ps) := by
  cases k with
  | hub => exact .of_channels fun _ => ⟨rfl, rfl, rfl⟩
  | port => exact keepsScreens_setPort ps
  | profile => exact keepsScreens_loadProfile ps
  | baselines => exact keepsScreens_baselines ps
  | stream => exact keepsScreens_loadStream ps
  | channel => exact keepsScreens_setChannel ps
  | view => exact keepsScreens_loadView ps
  | trigger => exact keepsScreens_loadTrigger ps
  | filterTimes => exact keepsScreens_setLines _
  | screen => exact keepsScreens_setScreen ps
  | alert => exact keepsScreens_setAlert ps

namespace State.ScreensAgree

variable {s : State}

theorem carryOut (h : s.ScreensAgree) (lengthOk : Bool) {effect : State → State × Answer} (he : KeepsScreens effect) :
    (s.carryOut lengthOk effect).1.ScreensAgree := by
  unfold State.carryOut
  (repeat' split)
  · exact h
  · exact h
  · exact he s h

theorem runOrder (h : s.ScreensAgree) (code : Byte) (length : Nat) {effect : List Byte → State → State × Answer}
    (he : ∀ ps, KeepsScreens (effect ps)) : (s.runOrder code length effect).ScreensAgree :=
  h.onOrder _ fun i o => (h.carryOut _ (he o.params)).answer i o _

/-! ## The load, the SAVE job and the resets -/

theorem applyNext (h : s.ScreensAgree) : s.applyNext.ScreensAgree := by
  have ha : ∀ e, (s.applyEntry e).ScreensAgree := fun e => by
    unfold State.applyEntry
    dsimp only
    split
    · exact h.of_frame rfl rfl rfl
    · exact e.kind.keepsScreens_effect _ s h
  unfold State.applyNext
  split
  · next e todo _ => exact (ha e).of_channels (by simp) (by simp) (by simp)
  · exact h
  · exact h
  · exact h

theorem judgeLoad (h : s.ScreensAgree) (answers : Bool) : (s.judgeLoad answers).ScreensAgree := by
  unfold State.judgeLoad
  split <;> exact h.of_channels (by simp) (by simp) (by simp)

theorem eraseDone (h : s.ScreensAgree) : s.eraseDone.ScreensAgree := by
  unfold State.eraseDone
  (repeat' split) <;> exact h.of_channels (by simp) (by simp) (by simp)

theorem eraseTimeout (h : s.ScreensAgree) : s.eraseTimeout.ScreensAgree := by
  unfold State.eraseTimeout
  (repeat' split) <;> exact h.of_channels (by simp) (by simp) (by simp)

theorem pageDone (h : s.ScreensAgree) : s.pageDone.ScreensAgree := by
  unfold State.pageDone
  dsimp only
  (repeat' split) <;> exact h.of_channels (by simp) (by simp) (by simp)

theorem pageTimeout (h : s.ScreensAgree) : s.pageTimeout.ScreensAgree := by
  unfold State.pageTimeout
  (repeat' split) <;> exact h.of_channels (by simp) (by simp) (by simp)

/-- After a reset no screen holds a slot, no slot has a reader, and no view has a tile (R64, R140). -/
theorem resetWith (cause : ResetCause) (tag : Option Byte) (held : Bool) (straps : BitVec 4) (raw : Vector Bool 8) (flash : Flash)
    (n : Nat) (l : List Instr) : (State.resetWith cause tag held straps raw flash n l).ScreensAgree := by
  refine ⟨fun sc c i => ?_, fun sc => ?_, fun v => ?_⟩
  · simp [Screen.reset, Channel.reset_slot, Slot.reset, hasMember]
  · rw [State.screen_resetWith]
    exact Screen.consistent_reset
  · simp [State.resetWith, View.reset]

theorem takeReset (s : State) (cause : ResetCause) (tag : Option Byte) (held : Bool) (straps : BitVec 4) :
    (s.takeReset cause tag held straps).ScreensAgree := resetWith _ _ _ _ _ _ _ _

theorem saveSettings (h : s.ScreensAgree) (i : Fin 2) (o : HeldOrder) : (s.saveSettings i o).ScreensAgree := by
  unfold State.saveSettings
  (repeat' split) <;> exact h.of_frame rfl rfl rfl

theorem resetHub (h : s.ScreensAgree) (i : Fin 2) (o : HeldOrder) : (s.resetHub i o).ScreensAgree := by
  unfold State.resetHub
  (repeat' split)
  · exact h.answer i o _
  · exact h.answer i o _
  · exact takeReset _ _ _ _ _

/-! ## One step -/

/-- A packet that is over, where the port that deals with it leaves the screens, the views and the reader sets. -/
theorem packetOver (h : s.ScreensAgree) (p : Port) (bytes : List Byte) (goesOn : Bool) {f : State → State}
    (hf : ∀ x : State, (f x).screens = x.screens ∧ (f x).views = x.views ∧ (f x).readerSets = x.readerSets) :
    (s.packetOver p bytes goesOn f).ScreensAgree := by
  have hclear : (s.clearUnformed p).ScreensAgree := h.of_channels (by simp) (by simp) (by simp)
  unfold State.packetOver
  split
  · obtain ⟨hx, hv, hr⟩ := hf (s.clearUnformed p)
    exact hclear.of_frame hx hv hr
  · exact hclear.of_channels (by simp) (by simp) (by simp)

theorem onCommand (h : s.ScreensAgree) (c : Instr) : (s.onCommand c).ScreensAgree := by
  cases c with
  | powerOn straps => exact takeReset _ _ _ _ _
  | resetLineAsserted => exact takeReset _ _ _ _ _
  | resetLineReleased straps => exact h
  | framingFault p cause bytes => exact h.packetOver p bytes _ (f := fun s => s.framingFault p cause bytes) fun x => by simp
  | lineHeader p stream frame line =>
    simp only [State.onCommand]
    split <;> exact h.of_frame (by simp) (by simp) (by simp)
  | packetEnd p bytes => exact h.packetOver p bytes _ (f := fun s => s.packetEnd p bytes) fun x => by simp
  | poisonedArrival p bytes => exact h.packetOver p bytes _ (f := fun s => s.poisonedArrival p bytes) fun x => by simp
  | linkUp p => exact h.of_channels (t := s.linkUp p) (by simp) (by simp) (by simp)
  | linkDown p arrived => exact h.of_frame (t := s.linkDown p arrived) (by simp) (by simp) (by simp)
  | restartHoldEnd p => exact h.of_channels (t := s.updRx p (fun x => { x with hold := none })) (by simp) (by simp) (by simp)
  | transmissionStart u =>
    simp only [State.onCommand]
    split
    · exact h.of_frame rfl rfl rfl
    · exact h
  | transmissionEnd u => exact h.of_channels (t := s.transmissionEnd u) (by simp) (by simp) (by simp)
  | frameAgeStale c => exact h.of_frame (t := s.channelEvent c Channel.ageStale) (by simp) (by simp) (by simp)
  | frameAgeLost c => exact h.of_frame (t := s.channelEvent c Channel.ageLost) (by simp) (by simp) (by simp)
  | doorLineChange d level => exact h.of_channels (t := s.doorChange d level) (by simp) (by simp) (by simp)
  | filterWaitExpiry d => exact h.of_channels (t := s.filterExpiry d) (by simp) (by simp) (by simp)
  | lingerExpiry n => exact h.of_channels (t := s.lingerExpiry n) (by simp) (by simp) (by simp)
  | silenceExpiry => exact h.of_channels (t := s.silenceExpiry) (by simp) (by simp) (by simp)
  | outputFrameStart sc => exact h.frameStart sc
  | pulseBoundary a => exact h.of_frame rfl rfl rfl
  | noticeMove => exact h.of_channels (t := s.moveNotice) (by simp) (by simp) (by simp)
  | presence =>
    have he : KeepsScreens (fun s => (s, .done false)) := .of_channels fun _ => ⟨rfl, rfl, rfl⟩
    exact h.runOrder 1 0 fun _ => he
  | setHub => exact h.runOrder 2 2 fun _ => .of_channels fun _ => ⟨rfl, rfl, rfl⟩
  | setPort => exact h.runOrder 3 4 keepsScreens_setPort
  | restartPort => exact h.runOrder 4 1 keepsScreens_restartPort
  | loadStream => exact h.runOrder 5 8 keepsScreens_loadStream
  | setChannel => exact h.runOrder 6 6 keepsScreens_setChannel
  | loadView =>
    simp only [State.onCommand]
    exact h.onOrder _ fun i o => (h.carryOut _ (keepsScreens_loadView _)).answer i o _
  | setScreen => exact h.runOrder 8 3 keepsScreens_setScreen
  | loadTrigger => exact h.runOrder 9 10 keepsScreens_loadTrigger
  | setLines => exact h.runOrder 10 11 keepsScreens_setLines
  | pinView => exact h.runOrder 11 3 keepsScreens_pinView
  | releaseView => exact h.runOrder 12 1 keepsScreens_releaseView
  | loadProfile => exact h.runOrder 13 13 keepsScreens_loadProfile
  | learn => exact h.runOrder 14 1 keepsScreens_learn
  | setAlert => exact h.runOrder 15 9 keepsScreens_setAlert
  | query => exact h.runOrder 16 3 keepsScreens_query
  | queryZones => exact h.runOrder 17 1 keepsScreens_queryZones
  | clearCounts => exact h.runOrder 18 2 keepsScreens_clearCounts
  | saveSettings =>
    simp only [State.onCommand]
    exact h.onOrder _ fun i o => h.saveSettings i o
  | resetHub =>
    simp only [State.onCommand]
    exact h.onOrder _ fun i o => h.resetHub i o
  | badCode =>
    have he : KeepsScreens (fun s => (s, .refused .badCode)) := .of_channels fun _ => ⟨rfl, rfl, rfl⟩
    simp only [State.onCommand]
    exact h.onOrder _ fun i o => (h.carryOut _ he).answer i o _
  | eraseDone => exact h.eraseDone
  | eraseTimeout => exact h.eraseTimeout
  | pageDone => exact h.pageDone
  | pageTimeout => exact h.pageTimeout
  | imageJudged answers => exact h.judgeLoad answers
  | imageEntryApply => exact h.applyNext

theorem onCommandHeld (h : s.ScreensAgree) (c : Instr) : (s.onCommandHeld c).ScreensAgree := by
  unfold State.onCommandHeld
  split
  · exact takeReset _ _ _ _ _
  · exact h.of_frame rfl rfl rfl
  · exact h.of_frame rfl rfl rfl
  · exact h

end State.ScreensAgree

/-- Settles O56: a screen's takes and releases move its held slots and the reader sets together; every other command leaves both. -/
theorem everyStepKeepsHeldSlotsRead : Obligations.EveryStepKeepsHeldSlotsRead := fun _ _ _ hheld hscreens e =>
  have h := step_keeps (P := State.ScreensAgree) (fun _ _ hs => hs.of_frame rfl rfl rfl) (fun _ c _ hs => hs.onCommand c)
    (fun _ c _ hs => hs.onCommandHeld c) (fun _ hs => hs.tick) ⟨hheld, hscreens⟩ e
  ⟨h.held, h.consistent⟩

end Sys2Proof.Machine

/-! # Proofs: an event that is due, and the frame age (R59 to R62, R145, entries 1, 2, 24) -/

namespace Sys2Proof.Machine

/-- Settles O2: what an empty queue brings is the first of the events that are due. -/
theorem emptyQueueTakesDueEventOrTime : Obligations.EmptyQueueTakesDueEventOrTime := by
  intro s hq
  refine ⟨fun hheld => ?_, fun hrun c rest hdue => ?_, fun hrun hdue => ?_⟩
  · simp [step, hq, State.idleCommand, State.idle, hheld]
  · simp [step, hq, State.idleCommand, hrun, hdue]
  · simp [step, hq, State.idleCommand, State.idle, hrun, hdue]

/-! ## An event that changes the state of its channel -/

/-- A change of a channel's state is told to the order unit and to the alert entries, whichever function makes it (R62, R145). -/
theorem State.channelEvent_changes (s : State) (c : Fin 12) {f g : Channel → Channel} (hfg : f (s.channel c) = g (s.channel c))
    (hne : (g (s.channel c)).state ≠ (s.channel c).state) : s.channelEvent c f =
      ((s.updChannel c g).offer (.source c (s.channel c).state (g (s.channel c)).state)).alertsOfChannel c := by
  rw [State.channelEvent_of_state_ne s c f (hfg ▸ hne), State.updChannel_congr s c f g hfg, hfg]

theorem Channel.ageStale_of_live {x : Channel} (h : x.state = .live) :
    x.ageStale = { x with state := .stale, age := ⟨max x.age.ms x.staleTime, x.age.running⟩ } := if_pos h

theorem Channel.ageStale_of_not_live {x : Channel} (h : x.state ≠ .live) : x.ageStale = x := if_neg h

theorem Channel.ageLost_of_old {x : Channel} (h : x.state = .waiting ∨ x.state = .stale) :
    x.ageLost = { x with state := .lost, age := ⟨max x.age.ms x.lostTime, false⟩ } := if_pos (by simpa using h)

theorem Channel.ageLost_of_not_old {x : Channel} (hw : x.state ≠ .waiting) (hs : x.state ≠ .stale) : x.ageLost = x :=
  if_neg (by simp [hw, hs])

/-- Settles O23: an expiry in a state that it changes is told, and in any other state it does nothing. -/
theorem frameAgeExpiriesChangeState : Obligations.FrameAgeExpiriesChangeState := by
  intro c s hrun
  rw [exec_of_running hrun (.frameAgeStale c), exec_of_running hrun (.frameAgeLost c)]
  refine ⟨fun hlive => ?_, fun hno => ?_, fun hold => ?_, fun hwaiting hno => ?_⟩
  · have h := State.channelEvent_changes s c (f := Channel.ageStale)
      (g := fun x => { x with state := .stale, age := ⟨max x.age.ms x.staleTime, x.age.running⟩ }) (Channel.ageStale_of_live hlive)
      (by simp [hlive])
    rw [hlive] at h
    exact congrArg _ h
  · exact congrArg _ (State.channelEvent_same s c _ (Channel.ageStale_of_not_live hno))
  · have h := State.channelEvent_changes s c (f := Channel.ageLost)
      (g := fun x => { x with state := .lost, age := ⟨max x.age.ms x.lostTime, false⟩ }) (Channel.ageLost_of_old hold)
      (by rcases hold with h | h <;> simp [h])
    exact congrArg _ h
  · exact congrArg _ (State.channelEvent_same s c _ (Channel.ageLost_of_not_old hwaiting hno))

end Sys2Proof.Machine

/-! # Proofs: SET-CHANNEL (R43, R61, R62, R145, entry 28) -/

namespace Sys2Proof.Machine

/-! ## The fields -/

theorem readSetChannel_none {b patch s1 s0 l1 l0 : Byte} (h : 12 ≤ b.toNat) : readSetChannel [b, patch, s1, s0, l1, l0] = none := by
  have hc : instanceOf 12 (byteAt [b, patch, s1, s0, l1, l0] 0) = none := instanceOf_eq_none h
  rw [readSetChannel, hc]
  rfl

/-- The settings that SET-CHANNEL stores, and whether one of them is another than was given (R43, entry 28). -/
theorem readSetChannel_some {b patch s1 s0 l1 l0 : Byte} {c : Fin 12} {stale lost : Nat} (hc : c.val = b.toNat)
    (hs : stale = min 2000 (max 40 (256 * s1.toNat + s0.toNat)))
    (hl : lost = max (stale + 10) (min 10000 (max 100 (256 * l1.toNat + l0.toNat)))) :
    readSetChannel [b, patch, s1, s0, l1, l0] = some
      { channel := c, patch := min 15 patch.toNat, staleTime := stale, lostTime := lost
        clamped := decide (15 < patch.toNat ∨ stale ≠ 256 * s1.toNat + s0.toNat ∨ lost ≠ 256 * l1.toNat + l0.toNat) } := by
  have hchannel : instanceOf 12 (byteAt [b, patch, s1, s0, l1, l0] 0) = some c := instanceOf_eq_some hc
  have hstale : wordAt [b, patch, s1, s0, l1, l0] 2 = 256 * s1.toNat + s0.toNat := congrArg (· + s0.toNat) (Nat.mul_comm ..)
  have hlost : wordAt [b, patch, s1, s0, l1, l0] 4 = 256 * l1.toNat + l0.toNat := congrArg (· + l0.toNat) (Nat.mul_comm ..)
  have hpatch : byteAt [b, patch, s1, s0, l1, l0] 1 = patch.toNat := rfl
  obtain ⟨hpv, hpf⟩ := clamp_spec (Nat.zero_le 15) patch.toNat
  obtain ⟨hsv, hsf⟩ := clamp_spec (by decide : 40 ≤ 2000) (256 * s1.toNat + s0.toNat)
  obtain ⟨hlv, hlf⟩ := clamp_spec (by decide : 100 ≤ 10000) (256 * l1.toNat + l0.toNat)
  rw [← hs] at hsv
  unfold readSetChannel
  rw [hchannel]
  simp only [Option.bind_eq_bind, Option.bind_some, hpatch, hstale, hlost, hpv, hpf, hsv, hsf, hlv, hlf]
  refine congrArg some ?_
  rw [SetChannel.mk.injEq]
  refine ⟨rfl, by omega, rfl, ?_, ?_⟩
  · split <;> omega
  · simp only [← Bool.decide_or, decide_eq_decide]
    omega

/-! ## The two comparisons (R61) -/

/-- What both comparisons make of a channel's state. -/
theorem Channel.compared_state {x : Channel} (h : x.staleTime ≤ x.lostTime) : x.compareStale.compareLost.state =
    if x.state = .live then (if x.lostTime ≤ x.age.ms then .lost else if x.staleTime ≤ x.age.ms then .stale else .live)
    else if (x.state = .stale ∨ x.state = .waiting) ∧ x.lostTime ≤ x.age.ms then .lost
    else x.state := by
  by_cases hlive : x.state = .live
  · by_cases hs : x.staleTime ≤ x.age.ms
    · by_cases hl : x.lostTime ≤ x.age.ms <;> simp [Channel.compareStale, Channel.compareLost, hlive, hs, hl]
    · have hl : ¬x.lostTime ≤ x.age.ms := fun hl => hs (h.trans hl)
      simp [Channel.compareStale, Channel.compareLost, hlive, hs, hl]
  · have hsame : x.compareStale = x := if_neg (by simp [hlive])
    rw [hsame, if_neg hlive]
    unfold Channel.compareLost
    split
    · next hc => simp_all
    · next hc => simp_all

/-- A comparison changes the state and stops the age, and nothing else. -/
theorem Channel.compared_frame (x : Channel) :
    x.compareStale.compareLost.patch = x.patch ∧ x.compareStale.compareLost.staleTime = x.staleTime ∧
    x.compareStale.compareLost.lostTime = x.lostTime ∧ x.compareStale.compareLost.stream = x.stream ∧
    x.compareStale.compareLost.slots = x.slots ∧ x.compareStale.compareLost.intake = x.intake ∧
    x.compareStale.compareLost.counters = x.counters ∧ x.compareStale.compareLost.grade = x.grade ∧
    x.compareStale.compareLost.home = x.home ∧ x.compareStale.compareLost.age.ms = x.age.ms := by
  unfold Channel.compareLost Channel.compareStale
  (repeat' split) <;> exact ⟨rfl, rfl, rfl, rfl, rfl, rfl, rfl, rfl, rfl, rfl⟩

theorem Channel.compareStale_of_old {x : Channel} (h : x.state = .live ∧ x.staleTime ≤ x.age.ms) :
    x.compareStale = { x with state := .stale } := if_pos (by simpa using h)

theorem Channel.compareStale_of_not_old {x : Channel} (h : ¬(x.state = .live ∧ x.staleTime ≤ x.age.ms)) : x.compareStale = x :=
  if_neg (by simpa using h)

theorem Channel.compareLost_of_old {x : Channel} (h : (x.state = .stale ∨ x.state = .waiting) ∧ x.lostTime ≤ x.age.ms) :
    x.compareLost = { x with state := .lost, age := ⟨x.age.ms, false⟩ } := if_pos (by simpa using h)

theorem Channel.compareLost_of_not_old {x : Channel} (h : ¬((x.state = .stale ∨ x.state = .waiting) ∧ x.lostTime ≤ x.age.ms)) :
    x.compareLost = x := if_neg (by simpa using h)

/-- The first comparison makes a LIVE channel at or above its stale time STALE, and tells it. -/
theorem State.channelEvent_compareStale (s : State) (c : Fin 12) : s.channelEvent c Channel.compareStale =
    if (s.channel c).state = .live ∧ (s.channel c).staleTime ≤ (s.channel c).age.ms then
      ((s.updChannel c (fun x => { x with state := .stale })).offer (.source c .live .stale)).alertsOfChannel c
    else s := by
  split
  · next h =>
    have he := State.channelEvent_changes s c (f := Channel.compareStale) (g := fun x => { x with state := .stale })
      (Channel.compareStale_of_old h) (by simp [h.1])
    rwa [h.1] at he
  · next h => exact State.channelEvent_same s c _ (Channel.compareStale_of_not_old h)

/-- The second comparison makes a STALE or WAITING channel at or above its lost time LOST, and tells it. -/
theorem State.channelEvent_compareLost (s : State) (c : Fin 12) : s.channelEvent c Channel.compareLost =
    if ((s.channel c).state = .stale ∨ (s.channel c).state = .waiting) ∧ (s.channel c).lostTime ≤ (s.channel c).age.ms then
      ((s.updChannel c (fun x => { x with state := .lost, age := ⟨x.age.ms, false⟩ })).offer
        (.source c (s.channel c).state .lost)).alertsOfChannel c
    else s := by
  split
  · next h =>
    exact State.channelEvent_changes s c (f := Channel.compareLost) (g := fun x => { x with state := .lost, age := ⟨x.age.ms, false⟩ })
      (Channel.compareLost_of_old h) (by rcases h.1 with h | h <;> simp [h])
  · next h => exact State.channelEvent_same s c _ (Channel.compareLost_of_not_old h)

/-! ## The settings stored, and compared (R43, R61) -/

theorem State.channel_channelEvent (s : State) (c d : Fin 12) (f : Channel → Channel) :
    (s.channelEvent c f).channel d = if d = c then f (s.channel c) else s.channel d := by
  rw [State.channel, State.channelEvent_channels, Tab.get_upd]
  rfl

theorem State.channel_updChannel (s : State) (c d : Fin 12) (f : Channel → Channel) :
    (s.updChannel c f).channel d = if d = c then f (s.channel c) else s.channel d := Tab.get_upd ..

/-- The hub with the settings of a channel stored (R43). -/
def State.settingsStored (s : State) (c : Fin 12) (patch stale lost : Nat) : State :=
  s.updChannel c (fun x => { x with patch := patch, staleTime := stale, lostTime := lost })

/-- The hub with the age of a channel compared with its times (R61). -/
def State.ageCompared (s : State) (c : Fin 12) : State := (s.channelEvent c Channel.compareStale).channelEvent c Channel.compareLost

theorem State.channel_ageCompared (s : State) (c d : Fin 12) :
    (s.ageCompared c).channel d = if d = c then (s.channel c).compareStale.compareLost else s.channel d := by
  rw [State.ageCompared, State.channel_channelEvent, State.channel_channelEvent, State.channel_channelEvent, if_pos rfl]
  split <;> rfl

/-- Both comparisons, each with what it tells (R61, R62, R145). -/
theorem State.ageCompared_eq (s : State) (c : Fin 12) : s.ageCompared c =
    let goesStale : Bool := decide ((s.channel c).state = .live ∧ (s.channel c).staleTime ≤ (s.channel c).age.ms)
    let goesLost : Bool := (goesStale || decide ((s.channel c).state = .stale ∨ (s.channel c).state = .waiting)) &&
      decide ((s.channel c).lostTime ≤ (s.channel c).age.ms)
    let x := if goesStale then
        ((s.updChannel c (fun x => { x with state := .stale })).offer (.source c .live .stale)).alertsOfChannel c
      else s
    if goesLost then
      ((x.updChannel c (fun x => { x with state := .lost, age := ⟨x.age.ms, false⟩ })).offer
        (.source c (if goesStale then .stale else (s.channel c).state) .lost)).alertsOfChannel c
    else x := by
  unfold State.ageCompared
  rw [State.channelEvent_compareStale]
  by_cases hs : (s.channel c).state = .live ∧ (s.channel c).staleTime ≤ (s.channel c).age.ms
  · have hc : (((s.updChannel c (fun x => { x with state := .stale })).offer (.source c .live .stale)).alertsOfChannel c).channel c =
        { s.channel c with state := .stale } := State.channel_updChannel s c c _ |>.trans (if_pos rfl)
    rw [if_pos hs, State.channelEvent_compareLost, hc]
    simp [hs]
  · rw [if_neg hs, State.channelEvent_compareLost]
    simp [hs]

/-- The hub after a SET-CHANNEL: the settings are stored, and the age is compared when a time has changed (R43, R61). -/
def State.channelSet (s : State) (c : Fin 12) (patch stale lost : Nat) : State :=
  if stale = (s.channel c).staleTime ∧ lost = (s.channel c).lostTime then s.settingsStored c patch stale lost
  else (s.settingsStored c patch stale lost).ageCompared c

theorem setChannelEffect_some {ps : List Byte} {o : SetChannel} (h : readSetChannel ps = some o) (s : State) :
    setChannelEffect ps s = (s.channelSet o.channel o.patch o.staleTime o.lostTime, .done o.clamped) := by
  have hold : Tab.get s.channels o.channel = s.channel o.channel := rfl
  unfold setChannelEffect State.channelSet
  rw [h]
  dsimp only
  rw [hold]
  by_cases hsame : o.staleTime = (s.channel o.channel).staleTime ∧ o.lostTime = (s.channel o.channel).lostTime
  · rw [if_pos hsame, if_neg (by simp [hsame])]
    rfl
  · rw [if_neg hsame, if_pos]
    · rfl
    · rw [Bool.or_eq_true, decide_eq_true_eq, decide_eq_true_eq, ← not_and_or]
      exact fun e => hsame ⟨e.1.symm, e.2.symm⟩

section
variable (s : State) (c : Fin 12) (patch stale lost : Nat)

theorem State.channel_settingsStored (d : Fin 12) : (s.settingsStored c patch stale lost).channel d =
    if d = c then { s.channel c with patch := patch, staleTime := stale, lostTime := lost } else s.channel d :=
  State.channel_updChannel ..

theorem State.channel_settingsStored_self : (s.settingsStored c patch stale lost).channel c =
    { s.channel c with patch := patch, staleTime := stale, lostTime := lost } :=
  (State.channel_settingsStored ..).trans (if_pos rfl)

theorem State.channel_channelSet_of_ne {d : Fin 12} (h : d ≠ c) : (s.channelSet c patch stale lost).channel d = s.channel d := by
  unfold State.channelSet
  split
  · rw [State.channel_settingsStored, if_neg h]
  · rw [State.channel_ageCompared, if_neg h, State.channel_settingsStored, if_neg h]

/-- The settings of the channel after a SET-CHANNEL, and what it leaves of the channel. -/
theorem State.channelSet_fields :
    ((s.channelSet c patch stale lost).channel c).patch = patch ∧ ((s.channelSet c patch stale lost).channel c).staleTime = stale ∧
    ((s.channelSet c patch stale lost).channel c).lostTime = lost ∧
    ((s.channelSet c patch stale lost).channel c).stream = (s.channel c).stream ∧
    ((s.channelSet c patch stale lost).channel c).slots = (s.channel c).slots ∧
    ((s.channelSet c patch stale lost).channel c).intake = (s.channel c).intake ∧
    ((s.channelSet c patch stale lost).channel c).counters = (s.channel c).counters ∧
    ((s.channelSet c patch stale lost).channel c).grade = (s.channel c).grade ∧
    ((s.channelSet c patch stale lost).channel c).home = (s.channel c).home ∧
    ((s.channelSet c patch stale lost).channel c).age.ms = (s.channel c).age.ms := by
  unfold State.channelSet
  split
  · rw [State.channel_settingsStored_self]
    exact ⟨rfl, rfl, rfl, rfl, rfl, rfl, rfl, rfl, rfl, rfl⟩
  · rw [State.channel_ageCompared, if_pos rfl, State.channel_settingsStored_self]
    exact Channel.compared_frame _

/-- The state of the channel after a SET-CHANNEL (R61). -/
theorem State.channelSet_state (h : stale ≤ lost) : ((s.channelSet c patch stale lost).channel c).state =
    if stale = (s.channel c).staleTime ∧ lost = (s.channel c).lostTime then (s.channel c).state
    else if (s.channel c).state = .live then
      (if lost ≤ (s.channel c).age.ms then .lost else if stale ≤ (s.channel c).age.ms then .stale else .live)
    else if ((s.channel c).state = .stale ∨ (s.channel c).state = .waiting) ∧ lost ≤ (s.channel c).age.ms then .lost
    else (s.channel c).state := by
  unfold State.channelSet
  split
  · rw [State.channel_settingsStored_self]
  · rw [State.channel_ageCompared, if_pos rfl, State.channel_settingsStored_self]
    exact Channel.compared_state h

/-- What a SET-CHANNEL tells the order unit and the alert entries (R61, R62, R145). -/
theorem State.channelSet_eq : s.channelSet c patch stale lost =
    let old := s.channel c
    let changed : Bool := decide (¬(stale = old.staleTime ∧ lost = old.lostTime))
    let goesStale : Bool := changed && decide (old.state = .live ∧ stale ≤ old.age.ms)
    let goesLost : Bool := changed && (goesStale || decide (old.state = .stale ∨ old.state = .waiting)) && decide (lost ≤ old.age.ms)
    let stored := s.updChannel c (fun x => { x with patch := patch, staleTime := stale, lostTime := lost })
    let afterStale := if goesStale then
        ((stored.updChannel c (fun x => { x with state := .stale })).offer (.source c .live .stale)).alertsOfChannel c
      else stored
    if goesLost then
      ((afterStale.updChannel c (fun x => { x with state := .lost, age := ⟨x.age.ms, false⟩ })).offer
        (.source c (if goesStale then .stale else old.state) .lost)).alertsOfChannel c
    else afterStale := by
  unfold State.channelSet
  by_cases hsame : stale = (s.channel c).staleTime ∧ lost = (s.channel c).lostTime
  · rw [if_pos hsame]
    simp [hsame, State.settingsStored]
  · rw [if_neg hsame, State.ageCompared_eq, State.channel_settingsStored_self]
    simp only [hsame, not_false_eq_true, decide_true, Bool.true_and]
    rfl

/-- The blocks that a SET-CHANNEL leaves. -/
theorem State.channelSet_frame :
    (s.channelSet c patch stale lost).cams = s.cams ∧ (s.channelSet c patch stale lost).trunks = s.trunks ∧
    (s.channelSet c patch stale lost).streams = s.streams ∧ (s.channelSet c patch stale lost).lenses = s.lenses ∧
    (s.channelSet c patch stale lost).profiles = s.profiles ∧ (s.channelSet c patch stale lost).selector = s.selector ∧
    (s.channelSet c patch stale lost).screens = s.screens ∧ (s.channelSet c patch stale lost).views = s.views ∧
    (s.channelSet c patch stale lost).loader = s.loader ∧ (s.channelSet c patch stale lost).flash = s.flash := by
  unfold State.channelSet
  split <;> simp [State.ageCompared, State.settingsStored]

theorem State.AlertsFollowMembers.channelSet {s : State} (h : s.AlertsFollowMembers) :
    (s.channelSet c patch stale lost).AlertsFollowMembers := by
  have hstored : (s.settingsStored c patch stale lost).AlertsFollowMembers := by
    refine h.congr rfl (fun d => ?_) fun _ => rfl
    rw [State.channel_settingsStored]
    split
    · next e => exact e ▸ ⟨rfl, rfl⟩
    · exact ⟨rfl, rfl⟩
  unfold State.channelSet
  split
  · exact hstored
  · exact (hstored.channelEvent c _).channelEvent c _

end

theorem State.AlertsFollowMembers.replied {s : State} (h : s.AlertsFollowMembers) (i : Fin 2) (o : HeldOrder) (a : Answer) :
    (s.replied i o a).AlertsFollowMembers := h.congr rfl (fun _ => ⟨rfl, rfl⟩) fun _ => rfl

theorem State.Executes.exec_setChannel {s : State} {i : Fin 2} {o : HeldOrder} {b patch s1 s0 l1 l0 : Byte}
    (h : s.Executes i o 6 [b, patch, s1, s0, l1, l0]) {r : State × Answer} (hr : setChannelEffect [b, patch, s1, s0, l1, l0] s = r) :
    exec .setChannel s = .next (r.1.replied i o r.2) := by
  subst hr
  rw [exec_of_running h.running]
  exact congrArg _ (h.runOrder (by decide) rfl setChannelEffect)

/-- Settles O24: the settings are read by `readSetChannel_some`, and `State.channelSet_eq` says what is told where a time changed. -/
theorem setChannelStoresSettings : Obligations.SetChannelStoresSettings := by
  intro s i o b patch s1 s0 l1 l0 h
  refine ⟨fun hb => ?_, fun c stale lost hc hs hl => ?_⟩
  · exact h.exec_setChannel (r := (s, .refused .badField)) (by rw [setChannelEffect, readSetChannel_none hb])
  · have hexec := h.exec_setChannel (setChannelEffect_some (readSetChannel_some (patch := patch) hc hs hl) s)
    have hle : stale ≤ lost := by omega
    obtain ⟨hpatch, hstale, hlost, hstream, hslots, hintake, hcounters, hgrade, hhome, hage⟩ :=
      s.channelSet_fields c (min 15 patch.toNat) stale lost
    obtain ⟨hcams, htrunks, hstreams, hlenses, hprofiles, hselector, hscreens, hviews, hloader, hflash⟩ :=
      s.channelSet_frame c (min 15 patch.toNat) stale lost
    exact ⟨_, hexec, congrArg (State.replied · i o _) (s.channelSet_eq c (min 15 patch.toNat) stale lost),
      fun hf => (hf.channelSet c (min 15 patch.toNat) stale lost).replied i o _, hpatch, hstale, hlost, hstream, hslots, hintake, hcounters,
      hgrade, hhome, hage, s.channelSet_state c (min 15 patch.toNat) stale lost hle,
      fun d hd => s.channel_channelSet_of_ne c (min 15 patch.toNat) stale lost hd, State.replied_slot .., hcams, htrunks, hstreams, hlenses,
      hprofiles, hselector, hscreens, hviews, hloader, hflash⟩

end Sys2Proof.Machine

/-! # Proofs: SET-SCREEN (R112, R119, R120, entry 40) -/

namespace Sys2Proof.Machine

/-! ## The fields -/

theorem readSetScreen_none {b e v : Byte} (h : 2 ≤ b.toNat ∨ ¬(e = 0 ∨ e = 1) ∨ 32 ≤ v.toNat) :
    readSetScreen [b, e, v] = none := by
  by_contra hsome
  obtain ⟨r, hr⟩ := Option.ne_none_iff_exists'.1 hsome
  simp only [readSetScreen, Option.bind_eq_bind, Option.bind_eq_some_iff, byteAt_cons_succ, byteAt_cons_zero, flagOf_byte] at hr
  obtain ⟨sc, hsc, enable, henable, w, hw, -⟩ := hr
  rcases h with h | h | h
  · rw [instanceOf_eq_none h] at hsc
    cases hsc
  · rw [if_neg h] at henable
    cases henable
  · rw [instanceOf_eq_none h] at hw
    cases hw

theorem readSetScreen_some {b e v : Byte} (he : e = 0 ∨ e = 1) {sc : Fin 2} {w : Fin 32} (hsc : sc.val = b.toNat) (hw : w.val = v.toNat) :
    readSetScreen [b, e, v] = some ⟨sc, decide (e = 1), w⟩ := by
  simp only [readSetScreen, byteAt_cons_succ, byteAt_cons_zero, flagOf_byte, if_pos he, instanceOf_eq_some hsc, instanceOf_eq_some hw]
  rfl

/-! ## The fields stored (R119) -/

/-- The hub with the fields of a screen stored, and its chosen view recomputed when the default view changed (R112, R119). -/
def State.screenStored (s : State) (sc : Fin 2) (enable : Bool) (w : Fin 32) : State :=
  let x := s.updScreen sc (fun x => { x with enable := enable, defaultView := w })
  if (s.screen sc).defaultView ≠ w then x.recompute sc else x

/-- The hub after a SET-SCREEN: a screen that was enabled and is not any more is turned off (R120). -/
def State.screenSet (s : State) (sc : Fin 2) (enable : Bool) (w : Fin 32) : State :=
  if (s.screen sc).enable && !enable then (s.screenStored sc enable w).disableScreen sc else s.screenStored sc enable w

theorem setScreenEffect_some {ps : List Byte} {sc : Fin 2} {enable : Bool} {w : Fin 32} (h : readSetScreen ps = some ⟨sc, enable, w⟩)
    (s : State) : setScreenEffect ps s = (s.screenSet sc enable w, .done false) := by
  rw [setScreenEffect, h]
  rfl

/-- A screen that is turned off is seen by no other block (R57, R120). -/
@[simp] theorem State.disableScreen_quiet (s : State) (sc : Fin 2) :
    (s.disableScreen sc).orders = s.orders ∧ (s.disableScreen sc).alerts = s.alerts := by
  rw [State.disableScreen_eq]
  exact ⟨rfl, rfl⟩

section
variable (s : State) (sc : Fin 2) (enable : Bool) (w : Fin 32)

theorem State.screenStored_frame :
    (s.screenStored sc enable w).screens = Tab.upd s.screens sc (fun x => { x with enable := enable, defaultView := w }) ∧
    (s.screenStored sc enable w).channels = s.channels ∧ (s.screenStored sc enable w).views = s.views ∧
    (s.screenStored sc enable w).alerts = s.alerts ∧ (s.screenStored sc enable w).cams = s.cams ∧
    (s.screenStored sc enable w).trunks = s.trunks ∧ (s.screenStored sc enable w).streams = s.streams ∧
    (s.screenStored sc enable w).lenses = s.lenses ∧ (s.screenStored sc enable w).profiles = s.profiles ∧
    (s.screenStored sc enable w).loader = s.loader ∧ (s.screenStored sc enable w).flash = s.flash := by
  unfold State.screenStored
  dsimp only
  split <;> simp

theorem State.screen_screenStored : (s.screenStored sc enable w).screen sc = { s.screen sc with enable := enable, defaultView := w } := by
  obtain ⟨hx, -⟩ := s.screenStored_frame sc enable w
  rw [State.screen, hx, Tab.get_upd_self]
  rfl

theorem State.screen_screenStored_of_ne {sd : Fin 2} (h : sd ≠ sc) : (s.screenStored sc enable w).screen sd = s.screen sd := by
  obtain ⟨hx, -⟩ := s.screenStored_frame sc enable w
  rw [State.screen, hx, Tab.get_upd_of_ne _ _ h]
  rfl

/-- A default view that stays leaves the selector and the order unit (R119). -/
theorem State.screenStored_same (h : w = (s.screen sc).defaultView) :
    (s.screenStored sc enable w).selector = s.selector ∧ (s.screenStored sc enable w).orders = s.orders := by
  unfold State.screenStored
  rw [if_neg fun hne => hne h.symm]
  exact ⟨rfl, rfl⟩

/-- A changed default view is a recomputation of the chosen view (R112, R113). -/
theorem State.screenStored_changed (h : w ≠ (s.screen sc).defaultView) :
    let old := Tab.get s.selector.chosen sc
    let new := chooseView s.selector.triggers sc (Tab.get s.selector.pins sc) w
    (s.screenStored sc enable w).selector = { s.selector with chosen := s.selector.chosen.set sc.val new } ∧
    (s.screenStored sc enable w).orders =
      if old.view = new.view then s.orders else s.orders.offer (.view sc old.view new.view new.source) := by
  have hdefault : ((s.updScreen sc (fun x => { x with enable := enable, defaultView := w })).screen sc).defaultView = w := by
    rw [State.screen_updScreen_self]
  unfold State.screenStored
  rw [if_pos (Ne.symm h), State.recompute_selector, State.recompute_orders, hdefault]
  exact ⟨rfl, ite_not ..⟩

/-! ## A screen turned off, or not (R120) -/

theorem State.screenSet_off (h : (s.screen sc).enable = true) : s.screenSet sc false w = (s.screenStored sc false w).disableScreen sc := by
  rw [State.screenSet, h]
  rfl

theorem State.screenSet_on (h : ¬((s.screen sc).enable = true ∧ enable = false)) :
    s.screenSet sc enable w = s.screenStored sc enable w := if_neg (by simpa using h)

/-- What a SET-SCREEN makes of the screen and its channels where it turns the screen off. -/
theorem State.screenSet_screen_off (h : (s.screen sc).enable = true) :
    (s.screenSet sc false w).screen sc = { s.screen sc with
      enable := false, defaultView := w, composing := false, record := [], held := Vector.replicate 12 none, reading := none
      copy := { (s.screen sc).copy with tiles := [] } } ∧
    ∀ c, (s.screenSet sc false w).channel c =
      if (Tab.get (s.screen sc).held c).isSome then (s.channel c).release sc else s.channel c := by
  obtain ⟨-, hchannels, -⟩ := s.screenStored_frame sc false w
  rw [State.screenSet_off s sc w h, State.disableScreen_eq]
  refine ⟨?_, fun c => ?_⟩
  · have hheld : Vector.ofFn (fun c => if (Tab.get (s.screen sc).held c).isSome then none else Tab.get (s.screen sc).held c) =
        Vector.replicate 12 none := Tab.ext_get fun c => by
      rw [Tab.get_ofFn, Tab.get_replicate]
      cases Tab.get (s.screen sc).held c <;> rfl
    rw [State.screen_updScreen_self, State.screen_slotsMoved, State.screen_screenStored]
    dsimp only
    rw [hheld]
  · rw [State.channel_updScreen, State.channel_slotsMoved, State.screen_screenStored, State.channel_congr hchannels]

/-- A SET-SCREEN leaves the other screen, and reaches the rest of the hub through the fields that it stores alone. -/
theorem State.screenSet_frame :
    (∀ sd, sd ≠ sc → (s.screenSet sc enable w).screen sd = s.screen sd) ∧
    (s.screenSet sc enable w).selector = (s.screenStored sc enable w).selector ∧
    (s.screenSet sc enable w).orders = (s.screenStored sc enable w).orders ∧
    (s.screenSet sc enable w).views = s.views ∧ (s.screenSet sc enable w).alerts = s.alerts ∧
    (s.screenSet sc enable w).cams = s.cams ∧ (s.screenSet sc enable w).trunks = s.trunks ∧
    (s.screenSet sc enable w).streams = s.streams ∧ (s.screenSet sc enable w).lenses = s.lenses ∧
    (s.screenSet sc enable w).profiles = s.profiles ∧ (s.screenSet sc enable w).loader = s.loader ∧
    (s.screenSet sc enable w).flash = s.flash := by
  obtain ⟨-, -, hviews, halerts, hcams, htrunks, hstreams, hlenses, hprofiles, hloader, hflash⟩ := s.screenStored_frame sc enable w
  have hother : ∀ sd, sd ≠ sc → ((s.screenStored sc enable w).disableScreen sc).screen sd = s.screen sd := fun sd hd => by
    rw [State.disableScreen_eq, State.screen_updScreen_of_ne _ _ hd, State.screen_slotsMoved_of_ne _ _ _ _ _ hd,
      State.screen_screenStored_of_ne s sc enable w hd]
  unfold State.screenSet
  split
  · exact ⟨hother, by simp [hviews, halerts, hcams, htrunks, hstreams, hlenses, hprofiles, hloader, hflash]⟩
  · exact ⟨fun sd hd => s.screen_screenStored_of_ne sc enable w hd, rfl, rfl, hviews, halerts, hcams, htrunks, hstreams, hlenses,
      hprofiles, hloader, hflash⟩

end

theorem State.Executes.exec_setScreen {s : State} {i : Fin 2} {o : HeldOrder} {b e v : Byte} (h : s.Executes i o 8 [b, e, v])
    {r : State × Answer} (hr : setScreenEffect [b, e, v] s = r) : exec .setScreen s = .next (r.1.replied i o r.2) := by
  subst hr
  rw [exec_of_running h.running]
  exact congrArg _ (h.runOrder (by decide) rfl setScreenEffect)

/-- Settles O38: the fields are stored by `State.screenStored`, whose recomputation `State.screenStored_changed` describes; a screen that
is turned off then releases what it holds. -/
theorem setScreenWritesTheScreen : Obligations.SetScreenWritesTheScreen := by
  intro s i o b e v h
  refine ⟨fun hbad => ?_, fun he sc w hsc hw => ?_⟩
  · exact h.exec_setScreen (r := (s, .refused .badField)) (by rw [setScreenEffect, readSetScreen_none hbad])
  · have hexec := h.exec_setScreen (setScreenEffect_some (readSetScreen_some he hsc hw) s)
    obtain ⟨hother, hselector, horders, hviews, halerts, hcams, htrunks, hstreams, hlenses, hprofiles, hloader, hflash⟩ :=
      s.screenSet_frame sc (decide (e = 1)) w
    refine ⟨_, hexec, fun ⟨hon, h0⟩ => ?_, fun hoff => ?_, fun hsame => ?_, fun hne => ?_, fun hsame => ?_, fun hne hview => ?_,
      hother, hviews, halerts, hcams, htrunks, hstreams, hlenses, hprofiles, hloader, hflash⟩
    · subst h0
      exact s.screenSet_screen_off sc w hon
    · have hset := s.screenSet_on sc (decide (e = 1)) w fun ⟨hon, hno⟩ => hoff ⟨hon, he.resolve_right (of_decide_eq_false hno)⟩
      obtain ⟨-, hchannels, -⟩ := s.screenStored_frame sc (decide (e = 1)) w
      rw [hset]
      exact ⟨s.screen_screenStored sc _ w, hchannels⟩
    · exact hselector.trans (s.screenStored_same sc _ w hsame).1
    · exact hselector.trans (s.screenStored_changed sc _ w hne).1
    · refine State.replied_orders_congr (horders.trans ?_) i o _
      by_cases hdefault : w = (s.screen sc).defaultView
      · exact (s.screenStored_same sc _ w hdefault).2
      · rw [(s.screenStored_changed sc _ w hdefault).2]
        exact if_pos (hsame.resolve_left hdefault)
    · refine State.replied_orders_congr (horders.trans ?_) i o _
      rw [(s.screenStored_changed sc _ w hne).2]
      exact if_neg hview

end Sys2Proof.Machine

/-! # Proofs: the decisions and the takes of an output frame start (R118, R128 to R134, entry 26) -/

namespace Sys2Proof.Machine

/-! ## The decision of a tile (R129, R130) -/

/-- A grade at or beyond a tile's substitute level (R129). -/
def SubstituteLevel.Reached (l : SubstituteLevel) (g : Grade) : Prop :=
  (l = .smear ∧ (g = .smear ∨ g = .blocked)) ∨ (l = .blocked ∧ g = .blocked)

/-- A channel without a newest slot. -/
def Channel.Empty (c : Channel) : Prop := ∀ i, (c.slot i).newest = false

/-- A tile's primary is unfit (R129). -/
def State.UnfitPrimary (s : State) (x : Tile) : Prop :=
  (s.channel x.primary).state = .unbound ∨ (s.channel x.primary).state = .waiting ∨ (s.channel x.primary).state = .lost ∨
    (s.channel x.primary).Empty ∨ x.level.Reached (s.channel x.primary).grade

/-- A channel is fit as a tile's alternate (R129). -/
def State.FitAlternate (s : State) (x : Tile) (a : Fin 12) : Prop :=
  ((s.channel a).state = .live ∨ (s.channel a).state = .stale) ∧ ¬(s.channel a).Empty ∧ ¬x.level.Reached (s.channel a).grade

/-- A tile draws a channel, as its alternate or not (R130). -/
def State.Decided (s : State) (x : Tile) (c : Fin 12) (alternate : Bool) : Prop :=
  (alternate = true ∧ x.alternate = some c ∧ s.UnfitPrimary x ∧ s.FitAlternate x c) ∨
    (alternate = false ∧ c = x.primary ∧ ∀ a, x.alternate = some a → ¬(s.UnfitPrimary x ∧ s.FitAlternate x a))

theorem SubstituteLevel.reachedBy_iff (l : SubstituteLevel) (g : Grade) : l.reachedBy g = true ↔ l.Reached g := by
  cases l <;> simp [SubstituteLevel.reachedBy, SubstituteLevel.Reached]

theorem Channel.newestSlot_isNone_iff (c : Channel) : c.newestSlot.isNone = true ↔ c.Empty := by
  rw [Option.isNone_iff_eq_none]
  exact Channel.newestSlot_eq_none

theorem State.unfitPrimary_iff (s : State) (x : Tile) : (s.channel x.primary).unfitPrimary x.level = true ↔ s.UnfitPrimary x := by
  simp [Channel.unfitPrimary, State.UnfitPrimary, SubstituteLevel.reachedBy_iff, ← Channel.newestSlot_isNone_iff, or_assoc]

theorem State.fitAlternate_iff (s : State) (x : Tile) (a : Fin 12) : (s.channel a).fitAlternate x.level = true ↔ s.FitAlternate x a := by
  have hsome : (s.channel a).newestSlot.isSome = true ↔ ¬(s.channel a).Empty := by
    rw [← Channel.newestSlot_isNone_iff, Option.isNone_iff_eq_none, Option.isSome_iff_ne_none]
  simp only [Channel.fitAlternate, State.FitAlternate, Bool.and_eq_true, Bool.or_eq_true, decide_eq_true_eq, Bool.not_eq_true',
    hsome, ← SubstituteLevel.reachedBy_iff, Bool.not_eq_true, and_assoc]

/-- A tile draws what R130 says. -/
theorem State.drawnChannel_decided (s : State) (x : Tile) :
    s.Decided x (drawnChannel s.channels x).1 (drawnChannel s.channels x).2 := by
  unfold drawnChannel
  cases ha : x.alternate with
  | none => exact .inr ⟨rfl, rfl, fun a h => by rw [ha] at h; cases h⟩
  | some a =>
    have hfit : ((Tab.get s.channels x.primary).unfitPrimary x.level && (Tab.get s.channels a).fitAlternate x.level) = true ↔
        s.UnfitPrimary x ∧ s.FitAlternate x a := by
      rw [Bool.and_eq_true]
      exact and_congr (s.unfitPrimary_iff x) (s.fitAlternate_iff x a)
    dsimp only
    split
    · next h =>
      obtain ⟨hunfit, hfit⟩ := hfit.1 h
      exact .inl ⟨rfl, ha, hunfit, hfit⟩
    · next h =>
      refine .inr ⟨rfl, rfl, fun b hb hno => h (hfit.2 ?_)⟩
      rw [ha] at hb
      cases hb
      exact hno

/-- A reading made from the channels as they stand decides every tile of its copy (R128 to R130). -/
theorem State.readFrame_decided (s : State) (sc : Fin 2) {n : Nat} {x : Tile} {c : Fin 12} {alternate : Bool}
    (hx : (s.readFrame sc).copy.tiles[n]? = some x) (hd : (s.readFrame sc).drawn[n]? = some (c, alternate)) :
    s.Decided x c alternate := by
  have hdrawn : (s.readFrame sc).drawn[n]? = some (drawnChannel s.channels x) := by
    have hmap : (s.readFrame sc).drawn = (s.readFrame sc).copy.tiles.map (drawnChannel s.channels) := rfl
    rw [hmap, List.getElem?_map, hx]
    rfl
  rw [hdrawn] at hd
  have h := s.drawnChannel_decided x
  rw [Option.some.inj hd] at h
  exact h

/-! ## The condition of a tile (R134) -/

theorem tileCondition_placeholder {c : Channel} (h : c.state = .unbound ∨ c.state = .waiting ∨ c.state = .lost ∨ c.Empty)
    (alternate : Bool) : tileCondition c alternate = .placeholder := by
  unfold tileCondition
  rw [if_pos]
  simpa [← Channel.newestSlot_isNone_iff, or_assoc] using h

theorem tileCondition_drawn {c : Channel} (h : c.state = .live ∨ c.state = .stale) (hne : ¬c.Empty) (alternate : Bool) :
    tileCondition c alternate =
      if alternate then .substituted
      else if c.state = .stale then (if c.grade = .smear ∨ c.grade = .blocked then .staleDirty else .stale)
      else if c.grade = .blocked then .blocked
      else if c.grade = .smear then .smear
      else if c.grade = .haze then .haze
      else .clear := by
  have hdrawn : ¬((c.state = .unbound || c.state = .waiting || c.state = .lost || c.newestSlot.isNone) = true) := by
    rw [← Channel.newestSlot_isNone_iff] at hne
    rcases h with h | h <;> simpa [h] using hne
  unfold tileCondition
  rw [if_neg hdrawn]
  cases c.grade <;> simp

/-! ## The record of a frame (R131, R134) -/

/-- The tile that a start records for a decision of its reading. -/
theorem FrameReading.mem_record {r : FrameReading} {channels : Vector Channel 12} {x : TileRecord} :
    x ∈ r.record channels ↔
      (x.drawn, x.alternate) ∈ r.drawn ∧ x.condition = tileCondition (Tab.get channels x.drawn) x.alternate := by
  unfold FrameReading.record
  rw [List.mem_map]
  constructor
  · rintro ⟨d, hd, rfl⟩
    exact ⟨hd, rfl⟩
  · rintro ⟨hd, hc⟩
    exact ⟨_, hd, by rw [← hc]⟩

theorem FrameReading.map_record (r : FrameReading) (channels : Vector Channel 12) :
    (r.record channels).map (fun x => (x.drawn, x.alternate)) = r.drawn := by
  rw [FrameReading.record, List.map_map]
  exact List.map_id r.drawn

theorem FrameReading.exists_mem_record {r : FrameReading} {channels : Vector Channel 12} {c : Fin 12} :
    (∃ x ∈ r.record channels, x.drawn = c) ↔ r.draws c = true := by
  rw [FrameReading.draws_iff]
  constructor
  · rintro ⟨x, hx, rfl⟩
    exact ⟨x.alternate, (FrameReading.mem_record.1 hx).1⟩
  · rintro ⟨b, hb⟩
    exact ⟨⟨c, b, tileCondition (Tab.get channels c) b⟩, FrameReading.mem_record.2 ⟨hb, rfl⟩, rfl⟩

/-! ## The start -/

/-- The takes and releases of a start are seen by no other block (R57, R131, R132). -/
theorem State.composeFrame_quiet (s : State) (sc : Fin 2) (r : FrameReading) :
    (s.composeFrame sc r).alerts = s.alerts ∧ (s.composeFrame sc r).orders = s.orders := by
  rw [State.composeFrame_eq, State.releaseWhere_eq, State.takeWhere_eq]
  exact ⟨rfl, rfl⟩

theorem State.frameStart_disabled {s : State} {sc : Fin 2} (h : (s.screen sc).enable = false) :
    s.frameStart sc = s.updScreen sc Screen.beginFrame := by
  simp [State.frameStart, h]

theorem State.frameStart_enabled {s : State} {sc : Fin 2} (h : (s.screen sc).enable = true) :
    s.frameStart sc = (s.updScreen sc Screen.beginFrame).composeFrame sc (s.startReading sc) := by
  simp [State.frameStart, h]

/-- A reading that still stands is kept (R128, entry 26). -/
theorem State.startReading_of_stands {s : State} {sc : Fin 2} {r : FrameReading} (h : (s.screen sc).reading = some r)
    (hv : r.view = (Tab.get s.selector.chosen sc).view) (hc : r.copy = Tab.get s.views (Tab.get s.selector.chosen sc).view) :
    s.startReading sc = r := by
  unfold State.startReading
  rw [h]
  exact if_pos ⟨hv, hc⟩

section
variable {s : State} {sc : Fin 2}

/-- The screen after the start of a frame that it composes (R118, R128). -/
theorem State.screen_frameStart (h : (s.screen sc).enable = true) : (s.frameStart sc).screen sc =
    { s.screen sc with
      held := ((s.frameStart sc).screen sc).held
      activeView := (Tab.get s.selector.chosen sc).view, copy := Tab.get s.views (Tab.get s.selector.chosen sc).view
      record := (s.startReading sc).record s.channels, composing := true, reading := none
      frameBlink := (s.screen sc).blink, blink := ((s.screen sc).blink + 1) % 50, frameTimer := 20 } := by
  obtain ⟨hview, hcopy, -⟩ := s.startReading_spec sc
  have hcomposed := (s.updScreen sc Screen.beginFrame).screen_composeFrame sc (s.startReading sc)
  rw [hview, hcopy] at hcomposed
  rw [State.screen_updScreen_self, ← State.frameStart_enabled h] at hcomposed
  exact hcomposed

/-- The channels that a start draws are those of its records. -/
theorem State.frameStart_drawn_iff (h : (s.screen sc).enable = true) (c : Fin 12) :
    (∃ r ∈ ((s.frameStart sc).screen sc).record, r.drawn = c) ↔ (s.startReading sc).draws c = true := by
  rw [State.screen_frameStart h]
  exact FrameReading.exists_mem_record

theorem State.channel_frameStart (h : (s.screen sc).enable = true) (c : Fin 12) : (s.frameStart sc).channel c =
    if (s.startReading sc).draws c then (s.channel c).take sc
    else if (Tab.get (s.screen sc).held c).isSome then (s.channel c).release sc else s.channel c := by
  rw [State.frameStart_enabled h, State.channel_composeFrame, State.screen_updScreen_self]
  rfl

theorem State.held_frameStart (h : (s.screen sc).enable = true) (c : Fin 12) : Tab.get ((s.frameStart sc).screen sc).held c =
    if (s.startReading sc).draws c then (s.channel c).newestSlot else none := by
  rw [State.frameStart_enabled h, State.held_composeFrame]
  rfl

theorem State.screen_frameStart_of_ne (h : (s.screen sc).enable = true) {sd : Fin 2} (hd : sd ≠ sc) :
    (s.frameStart sc).screen sd = s.screen sd := by
  rw [State.frameStart_enabled h, State.screen_composeFrame_of_ne _ hd, State.screen_updScreen_of_ne _ _ hd]

theorem State.frameStart_quiet (h : (s.screen sc).enable = true) :
    (s.frameStart sc).alerts = s.alerts ∧ (s.frameStart sc).orders = s.orders := by
  rw [State.frameStart_enabled h]
  exact State.composeFrame_quiet _ sc _

/-- Where no reading stands the start decides from the channels as they stand (R128 to R130). -/
theorem State.frameStart_decides (h : (s.screen sc).enable = true)
    (hnone : ∀ x, ¬((s.screen sc).reading = some x ∧ x.view = (Tab.get s.selector.chosen sc).view ∧
      x.copy = Tab.get s.views (Tab.get s.selector.chosen sc).view)) :
    ((s.frameStart sc).screen sc).record.length = ((s.frameStart sc).screen sc).copy.tiles.length ∧
    ∀ (n : Nat) (x : Tile) (r : TileRecord), ((s.frameStart sc).screen sc).copy.tiles[n]? = some x →
      ((s.frameStart sc).screen sc).record[n]? = some r → s.Decided x r.drawn r.alternate := by
  obtain ⟨hview, hcopy, hold | hfresh⟩ := s.startReading_spec sc
  · exact absurd ⟨hold, hview, hcopy⟩ (hnone _)
  · rw [State.screen_frameStart h, hfresh]
    refine ⟨by simp [FrameReading.record, State.readFrame], fun n x r hx hr => ?_⟩
    have hdrawn : (s.readFrame sc).drawn[n]? = some (r.drawn, r.alternate) := by
      rw [← (s.readFrame sc).map_record s.channels, List.getElem?_map]
      exact congrArg (Option.map _) hr
    exact s.readFrame_decided sc hx hdrawn

end

/-- The millisecond that ends a frame timer makes the reading of an enabled screen (R118, R128, entry 26). -/
theorem State.tick_reads {s : State} {sc : Fin 2} (hon : (s.screen sc).enable = true) (htimer : (s.screen sc).frameTimer = 1) :
    (s.tick.screen sc).reading = some (s.readFrame sc) ∧ (s.tick.screen sc).frameTimer = 0 := by
  have hscreen : s.tick.screen sc = s.tickScreen sc (s.screen sc) := Tab.get_ofFn _ sc
  rw [hscreen, State.tickScreen]
  simp [hon, htimer]

end Sys2Proof.Machine

/-! # Proofs: the pixels of a frame (R54, R126, R127, R134 to R137, R141) -/

namespace Sys2Proof.Machine

/-! ## The row that a slot yields (R54) -/

/-- The last place below `k` that is not in a list, searched from above. -/
theorem find?_reverse_range {k r : Nat} {missing : List Nat} (hr : r < k) (hno : r ∉ missing)
    (hbetween : ∀ q, r < q → q < k → q ∈ missing) :
    (List.range k).reverse.find? (fun q => !missing.contains q) = some r := by
  obtain ⟨d, rfl⟩ := Nat.exists_eq_add_of_lt hr
  induction d with
  | zero => simp [List.range_succ, hno]
  | succ d ih =>
    have hlast : r + (d + 1) ∈ missing := hbetween _ (by omega) (by omega)
    rw [List.range_succ, List.reverse_append, List.reverse_singleton, List.singleton_append, List.find?_cons_of_neg (by simpa using hlast)]
    exact ih (by omega) fun q hq hlt => hbetween q hq (by omega)

/-- A slot yields the row that R54 says. -/
theorem yieldedRow_eq {missing : List Nat} {k r : Nat} (h : RowYielded missing k r) : yieldedRow missing k = r := by
  unfold yieldedRow
  rcases h with ⟨hk, rfl⟩ | ⟨hk, hr, hno, hbetween⟩ | ⟨hk, hbelow, hr, hlines, hno, hbetween⟩
  · simp [hk]
  · rw [if_pos (by simpa using hk), find?_reverse_range hr hno hbetween]
  · have hnone : (List.range k).reverse.find? (fun q => !missing.contains q) = none := by
      simpa using hbelow
    have hsome : (List.range Config.lines).find? (fun q => k < q && !missing.contains q) = some r := by
      rw [List.find?_range_eq_some]
      refine ⟨by simp [hr, hno], List.mem_range.2 hlines, fun q hq => ?_⟩
      by_cases hkq : k < q
      · simp [hbetween q hkq hq]
      · simp [hkq]
    rw [if_pos (by simpa using hk), hnone, hsome]
    rfl

/-! ## The last pixel that is drawn (R137) -/

theorem lastDrawn_eq_none {l : List (Option Pixel)} (h : ∀ p ∈ l, p = none) : lastDrawn l = none := by
  induction l with
  | nil => rfl
  | cons p rest ih =>
    rw [lastDrawn, ih fun q hq => h q (List.mem_cons_of_mem _ hq), h p List.mem_cons_self]
    rfl

/-- The pixel of the last place at which one is drawn. -/
theorem lastDrawn_eq_some {l : List (Option Pixel)} {n : Nat} {p : Pixel} (hp : l[n]? = some (some p))
    (hlater : ∀ m q, n < m → l[m]? = some q → q = none) : lastDrawn l = some p := by
  induction l generalizing n with
  | nil => simp at hp
  | cons a rest ih =>
    cases n with
    | zero =>
      have hrest : ∀ q ∈ rest, q = none := fun q hq => by
        obtain ⟨m, hm⟩ := List.mem_iff_getElem?.1 hq
        exact hlater (m + 1) q (Nat.succ_pos m) hm
      rw [lastDrawn, lastDrawn_eq_none hrest]
      exact Option.some.inj hp
    | succ n =>
      rw [lastDrawn, ih hp fun m q hm hq => hlater (m + 1) q (Nat.succ_lt_succ hm) hq]
      rfl

/-! ## The tiles of a frame -/

/-- A tile of a screen's copy with its record. -/
def State.TileAt (s : State) (sc : Fin 2) (n : Nat) (x : Tile) (r : TileRecord) : Prop :=
  (s.screen sc).copy.tiles[n]? = some x ∧ (s.screen sc).record[n]? = some r

theorem State.tileAt_iff (s : State) (sc : Fin 2) (n : Nat) (x : Tile) (r : TileRecord) :
    s.TileAt sc n x r ↔ ((s.screen sc).copy.tiles.zip (s.screen sc).record)[n]? = some (x, r) := by
  rw [List.getElem?_zip_eq_some]
  exact Iff.rfl

section
variable {s : State} {sc : Fin 2} {f : Tile → TileRecord → Option Pixel}

/-- The last tile that draws a pixel draws it (R137). -/
theorem State.lastDrawn_tiles_some {n : Nat} {x : Tile} {r : TileRecord} {p : Pixel} (ht : s.TileAt sc n x r) (hp : f x r = some p)
    (hlater : ∀ m y q, n < m → s.TileAt sc m y q → f y q = none) :
    lastDrawn (((s.screen sc).copy.tiles.zip (s.screen sc).record).map (fun tr => f tr.1 tr.2)) = some p := by
  refine lastDrawn_eq_some (n := n) ?_ fun m q hm hq => ?_
  · rw [List.getElem?_map, (s.tileAt_iff sc n x r).1 ht]
    exact congrArg some hp
  · rw [List.getElem?_map, Option.map_eq_some_iff] at hq
    obtain ⟨⟨y, z⟩, hyz, rfl⟩ := hq
    exact hlater m y z hm ((s.tileAt_iff sc m y z).2 hyz)

theorem State.lastDrawn_tiles_none (h : ∀ n x r, s.TileAt sc n x r → f x r = none) :
    lastDrawn (((s.screen sc).copy.tiles.zip (s.screen sc).record).map (fun tr => f tr.1 tr.2)) = none := by
  refine lastDrawn_eq_none fun p hp => ?_
  obtain ⟨⟨x, r⟩, hxr, rfl⟩ := List.mem_map.1 hp
  obtain ⟨n, hn⟩ := List.mem_iff_getElem?.1 hxr
  exact h n x r ((s.tileAt_iff sc n x r).2 hn)

end

/-! ## Badges and pictures (R126, R127, R134 to R136) -/

/-- The pixel of a flat colour in a screen column (R136). -/
def flatPixel (column : Nat) (c : Byte × Byte × Byte) : Pixel := ⟨c.1, if column % 2 = 0 then c.2.1 else c.2.2⟩

/-- The colour of a tile condition's border at a blink position, if it is drawn (R134, R135). -/
def TileCondition.badge (blink : Nat) (c : TileCondition) : Option (Byte × Byte × Byte) :=
  match c with
  | .placeholder => some (81, 90, 240)
  | .substituted => some (41, 240, 110)
  | .staleDirty => if blink % 50 < 25 then some (81, 90, 240) else none
  | .stale => if blink % 50 < 25 then some (162, 44, 182) else none
  | .blocked => if blink % 50 < 25 then some (81, 90, 240) else none
  | .smear => some (81, 90, 240)
  | .haze => some (162, 44, 182)
  | .clear => none

theorem blinkShown_iff (position : Nat) : blinkShown position = true ↔ position % 50 < 25 := by
  simp only [blinkShown, decide_eq_true_eq]
  omega

/-- A border is drawn in its colour while it does not blink, or is shown (R134 to R136). -/
theorem TileCondition.border_badge (blink column : Nat) (c : TileCondition) :
    (match c.border with
      | some (colour, blinks) => if !blinks || blinkShown blink then some (colour.pixel column) else none
      | none => none) = (c.badge blink).map (flatPixel column) := by
  have hshown := blinkShown_iff blink
  cases c with
  | placeholder => rfl
  | substituted => rfl
  | staleDirty => by_cases h : blink % 50 < 25 <;> simp [TileCondition.border, TileCondition.badge, hshown, h]; rfl
  | stale => by_cases h : blink % 50 < 25 <;> simp [TileCondition.border, TileCondition.badge, hshown, h]; rfl
  | blocked => by_cases h : blink % 50 < 25 <;> simp [TileCondition.border, TileCondition.badge, hshown, h]; rfl
  | smear => rfl
  | haze => rfl
  | clear => rfl

section
variable {column row : Nat}

/-- A tile covers the places of its rectangle that are on the screen (R126, R137). -/
theorem Tile.covers_iff (x : Tile) (hc : column < 1280) (hr : row < 800) :
    x.covers column row = true ↔ x.x ≤ column ∧ column < x.x + x.w ∧ x.y ≤ row ∧ row < x.y + x.h := by
  simp [Tile.covers, onScreen, hc, hr, and_assoc]

/-- The badge of a tile at a place of the screen (R134 to R136). -/
theorem badgePixel_eq (hc : column < 1280) (hr : row < 800) (blink : Nat) (x : Tile) (r : TileRecord) :
    badgePixel blink x r column row =
      (if (x.x ≤ column ∧ column < x.x + x.w ∧ x.y ≤ row ∧ row < x.y + x.h) ∧
          (column < x.x + 4 ∨ x.x + x.w ≤ column + 4 ∨ row < x.y + 4 ∨ x.y + x.h ≤ row + 4) then r.condition.badge blink
        else none).map (flatPixel column) := by
  have hplace : (x.covers column row && x.onBorder (column - x.x) (row - x.y)) = true ↔
      (x.x ≤ column ∧ column < x.x + x.w ∧ x.y ≤ row ∧ row < x.y + x.h) ∧
        (column < x.x + 4 ∨ x.x + x.w ≤ column + 4 ∨ row < x.y + 4 ∨ x.y + x.h ≤ row + 4) := by
    rw [Bool.and_eq_true, x.covers_iff hc hr]
    refine and_congr_right fun ⟨hx, hxw, hy, hyh⟩ => ?_
    simp only [Tile.onBorder, Bool.or_eq_true, decide_eq_true_eq]
    omega
  unfold badgePixel
  split
  · next h =>
    rw [if_pos (hplace.1 h)]
    exact TileCondition.border_badge blink column r.condition
  · next h => rw [if_neg fun e => h (hplace.2 e)]; rfl

variable {s : State} {sc : Fin 2} {x : Tile} {r : TileRecord}

theorem State.tilePixel_of_not_covers (h : ¬x.covers column row = true) : s.tilePixel sc x r column row = none := if_neg h

theorem State.tilePixel_placeholder (h : x.covers column row = true) (hp : r.condition = .placeholder) :
    s.tilePixel sc x r column row = some (flatPixel column (96, 128, 128)) := by
  rw [State.tilePixel, if_pos h, hp]
  rfl

/-- A tile that draws a slot shows the row that the slot yields (R54, R126, R127). -/
theorem State.tilePixel_slot (h : x.covers column row = true) (hp : r.condition ≠ .placeholder) {i : Fin 3}
    (hi : Tab.get (s.screen sc).held r.drawn = some i) {k : Nat}
    (hk : RowYielded ((s.channel r.drawn).slot i).missing (x.sourceRow (row - x.y)) k) :
    s.tilePixel sc x r column row = some (rowPixel (((s.channel r.drawn).slot i).row k) (x.sourceColumn (column - x.x)) column) := by
  rw [State.tilePixel, if_pos h, hi]
  split
  · next hc => exact absurd hc hp
  · next heq _ => cases heq
  · next j heq _ =>
    cases heq
    dsimp only
    rw [yieldedRow_eq hk]

/-- The bytes of a row at a screen column (R127). -/
theorem rowPixel_eq (bytes : List Byte) (source : Nat) :
    rowPixel bytes source column = ⟨bytes.getD (2 * source) 0, bytes.getD (2 * (2 * (source / 2) + column % 2) + 1) 0⟩ := by
  unfold rowPixel
  rcases Nat.mod_two_eq_zero_or_one column with h | h <;> simp [h]

/-! ## The frame (R137, R141) -/

theorem State.screenPixel_none (h : s.held = true ∨ 1280 ≤ column ∨ 800 ≤ row) : s.screenPixel sc column row = none := by
  unfold State.screenPixel State.framePixel
  rcases h with h | h | h
  · rw [if_pos h]
  · have hoff : onScreen column row = false := by simp [onScreen, h]
    simp [hoff]
  · have hoff : onScreen column row = false := by simp [onScreen, h]
    simp [hoff]

theorem State.screenPixel_on (hrun : s.held = false) (hc : column < 1280) (hr : row < 800) : s.screenPixel sc column row =
    some (if (s.screen sc).composing then s.composedPixel sc column row else Colour.black.pixel column) := by
  simp [State.screenPixel, State.framePixel, onScreen, hrun, hc, hr]

/-- The badge of the last tile that draws one there (R137 step 3). -/
theorem State.composedPixel_badge {n : Nat} {p : Pixel} (ht : s.TileAt sc n x r)
    (hp : badgePixel (s.screen sc).frameBlink x r column row = some p)
    (hlater : ∀ m y q, n < m → s.TileAt sc m y q → badgePixel (s.screen sc).frameBlink y q column row = none) :
    s.composedPixel sc column row = p := by
  have h := State.lastDrawn_tiles_some (f := fun y q => badgePixel (s.screen sc).frameBlink y q column row) ht hp hlater
  unfold State.composedPixel
  dsimp only at h ⊢
  rw [h]

/-- Where no tile draws a badge, the picture of the last tile that covers the place (R137 step 2). -/
theorem State.composedPixel_tile {n : Nat} {p : Pixel}
    (hbadges : ∀ m y q, s.TileAt sc m y q → badgePixel (s.screen sc).frameBlink y q column row = none) (ht : s.TileAt sc n x r)
    (hp : s.tilePixel sc x r column row = some p)
    (hlater : ∀ m y q, n < m → s.TileAt sc m y q → ¬y.covers column row = true) : s.composedPixel sc column row = p := by
  have hb := State.lastDrawn_tiles_none (f := fun y q => badgePixel (s.screen sc).frameBlink y q column row) hbadges
  have h := State.lastDrawn_tiles_some (f := fun y q => s.tilePixel sc y q column row) ht hp
    fun m y q hm hy => State.tilePixel_of_not_covers (hlater m y q hm hy)
  unfold State.composedPixel
  dsimp only at hb h ⊢
  rw [hb, h]

/-- Where no tile covers the place, the background (R137 step 1). -/
theorem State.composedPixel_background
    (hbadges : ∀ m y q, s.TileAt sc m y q → badgePixel (s.screen sc).frameBlink y q column row = none)
    (hno : ∀ m y q, s.TileAt sc m y q → ¬y.covers column row = true) :
    s.composedPixel sc column row = (s.screen sc).copy.background.pixel column := by
  have hb := State.lastDrawn_tiles_none (f := fun y q => badgePixel (s.screen sc).frameBlink y q column row) hbadges
  have h := State.lastDrawn_tiles_none (f := fun y q => s.tilePixel sc y q column row)
    fun m y q hy => State.tilePixel_of_not_covers (hno m y q hy)
  unfold State.composedPixel
  dsimp only at hb h ⊢
  rw [hb, h]

end

/-! ## The settlement -/

/-- Settles O37: the reading and the start by their lemmas, the pixel by the three layers of a composed frame. -/
theorem outputFrameStartComposes : Obligations.OutputFrameStartComposes := by
  unfold Obligations.OutputFrameStartComposes
  intro beyond empty unfit fit decided
  refine ⟨fun sc s hon htimer => ?_, fun sc s hrun => ⟨fun hoff => ?_, fun hon => ?_⟩, ?_⟩
  · obtain ⟨hreading, hzero⟩ := State.tick_reads hon htimer
    exact ⟨_, hreading, hzero, rfl, rfl, s.readFrame_drawn_length sc, fun n x c alternate => s.readFrame_decided sc⟩
  · rw [exec_of_running hrun]
    exact congrArg _ (State.frameStart_disabled hoff)
  · refine ⟨s.frameStart sc, exec_of_running hrun _, ?_⟩
    intro drawn view stands
    have hdrawn : ∀ c, drawn c ↔ (s.startReading sc).draws c = true := State.frameStart_drawn_iff hon
    have hscreen := State.screen_frameStart hon
    have hrecord : ((s.frameStart sc).screen sc).record = (s.startReading sc).record s.channels := by rw [hscreen]
    obtain ⟨halerts, horders⟩ := State.frameStart_quiet hon
    obtain ⟨hcams, htrunks, hstreams, hlenses, hprofiles, hselector, hviews, hloader, hflash, -⟩ := s.frameStart_frame sc
    refine ⟨by rw [hscreen], by rw [hscreen], State.frameStart_decides hon, fun x hx => ?_, by rw [hscreen], by rw [hscreen],
      by rw [hscreen], by rw [hscreen], by rw [hscreen], by rw [hscreen]; exact hon, by rw [hscreen], fun r hr => ?_, fun c hc => ?_,
      fun c hc => ?_, fun sd hd => State.screen_frameStart_of_ne hon hd, hcams, htrunks, hstreams, hlenses, hprofiles, hselector, hviews,
      halerts, horders, hloader, hflash⟩
    · obtain ⟨hreading, hview, hcopy⟩ := hx
      rw [hrecord, FrameReading.map_record, State.startReading_of_stands hreading hview hcopy]
    · rw [hrecord, FrameReading.mem_record] at hr
      obtain ⟨-, hcondition⟩ := hr
      exact ⟨fun h => hcondition.trans (tileCondition_placeholder h _), fun h hne => hcondition.trans (tileCondition_drawn h hne _)⟩
    · rw [State.channel_frameStart hon, State.held_frameStart hon, if_pos ((hdrawn c).1 hc), if_pos ((hdrawn c).1 hc)]
      exact ⟨rfl, rfl⟩
    · rw [State.channel_frameStart hon, State.held_frameStart hon, if_neg fun h => hc ((hdrawn c).2 h),
        if_neg fun h => hc ((hdrawn c).2 h)]
      exact ⟨rfl, rfl⟩
  · intro sc column row s flat tile covers shown red amber badge unbadged
    refine ⟨State.screenPixel_none, fun hrun hcol hrow => ?_⟩
    rw [State.screenPixel_on hrun hcol hrow]
    have hcovers : ∀ x : Tile, x.covers column row = true ↔ covers x := fun x => x.covers_iff hcol hrow
    have hbadge : ∀ x r, badgePixel (s.screen sc).frameBlink x r column row = (badge x r).map flat := fun x r =>
      badgePixel_eq hcol hrow (s.screen sc).frameBlink x r
    have hnone : ∀ x r, badge x r = none → badgePixel (s.screen sc).frameBlink x r column row = none := fun x r h => by
      rw [hbadge, h]
      rfl
    refine ⟨fun hblack => by rw [hblack]; rfl, fun hcomposing => ?_⟩
    rw [hcomposing, if_pos rfl]
    refine ⟨fun n x r c ht hc hlater => ?_, fun hplain n x r ht hx hlater => ⟨fun hp => ?_, fun i k hp hi => ?_⟩,
      fun hplain hno => ?_⟩
    · have hpixel : badgePixel (s.screen sc).frameBlink x r column row = some (flat c) := by
        rw [hbadge, hc]
        rfl
      exact congrArg some (State.composedPixel_badge ht hpixel fun m y q hm hy => hnone y q (hlater m y q hm hy))
    · exact congrArg some (State.composedPixel_tile (fun m y q hy => hnone y q (hplain m y q hy)) ht
        (State.tilePixel_placeholder ((hcovers x).2 hx) hp) fun m y q hm hy h => hlater m y q hm hy ((hcovers y).1 h))
    · intro slot step source hk
      rw [State.composedPixel_tile (fun m y q hy => hnone y q (hplain m y q hy)) ht (State.tilePixel_slot ((hcovers x).2 hx) hp hi hk)
        fun m y q hm hy h => hlater m y q hm hy ((hcovers y).1 h), rowPixel_eq]
      rfl
    · exact congrArg some (State.composedPixel_background (fun m y q hy => hnone y q (hplain m y q hy))
        fun m y q hy h => hno m y q hy ((hcovers y).1 h))

end Sys2Proof.Machine

/-! # Proofs: the figures of a lens record (R67 to R70, R75, R77 to R79, R81, R90) -/

namespace Sys2Proof.Machine

/-! ## The samples of a zone (R67) -/

/-- The even places of a list, one by one. -/
theorem getElem?_evenPlaces {α : Type} (l : List α) (n : Nat) : (evenPlaces l)[n]? = l[2 * n]? := by
  induction l using evenPlaces.induct generalizing n with
  | case1 => rfl
  | case2 a => cases n <;> rfl
  | case3 a b rest ih =>
    cases n with
    | zero => rfl
    | succ n => exact ih n

/-- The first sampled column of a zone in a phase, counted from the zone's first column (R67). -/
def phaseOffset (odd : Bool) : Nat := if odd = true then 1 else 0

/-- The luma of sample `n` of the zones in a zone column (R5, R67). -/
def sampleLuma (pixels : List Byte) (odd : Bool) (column n : Nat) : Nat :=
  (pixels.getD (2 * (160 * column + 2 * n + phaseOffset odd)) 0).toNat

/-- A zone column of a whole line has 80 samples (R67). -/
theorem zoneSamples_lumas {pixels : List Byte} (h : pixels.length = 2560) (odd : Bool) {column : Nat} (hc : column < 8) :
    zoneSamples odd (lumas pixels) column = (List.range 80).map (sampleLuma pixels odd column) := by
  have hphase : (if odd then 1 else 0) = phaseOffset odd := rfl
  have hle : phaseOffset odd ≤ 1 := by cases odd <;> decide
  refine List.ext_getElem? fun n => ?_
  rw [zoneSamples, hphase, getElem?_evenPlaces, List.getElem?_drop, List.getElem?_take, List.getElem?_map]
  by_cases hn : n < 80
  · have hplace : 2 * (160 * column + (phaseOffset odd + 2 * n)) = 2 * (160 * column + 2 * n + phaseOffset odd) := by omega
    have hin : 2 * (160 * column + 2 * n + phaseOffset odd) < pixels.length := by omega
    rw [if_pos (by omega), List.getElem?_drop, lumas, List.getElem?_map, getElem?_evenPlaces, hplace, List.getElem?_range hn,
      List.getElem?_eq_getElem hin]
    simp [sampleLuma, List.getD_eq_getElem?_getD, List.getElem?_eq_getElem hin]
  · rw [if_neg (by omega), List.getElem?_eq_none (by simpa using hn)]
    rfl

/-! ## The terms of a zone and its lumas (R68, R69) -/

theorem pairTerm_eq (noise y0 y2 : Nat) : pairTerm noise y0 y2 =
    (if (if y0 ≤ y2 then y2 - y0 else y0 - y2) ≤ noise then 0
    else if 63 < (if y0 ≤ y2 then y2 - y0 else y0 - y2) - noise then 63
    else (if y0 ≤ y2 then y2 - y0 else y0 - y2) - noise) := by
  unfold pairTerm
  dsimp only
  generalize (if y0 ≤ y2 then y2 - y0 else y0 - y2) = d
  split_ifs <;> omega

/-- `k + 1` samples have `k` terms. -/
theorem sumTerms_range (noise k : Nat) (f : Nat → Nat) : sumTerms noise ((List.range (k + 1)).map f) =
    ((List.range k).map (fun n => pairTerm noise (f n) (f (n + 1)))).sum := by
  induction k generalizing f with
  | zero => rfl
  | succ k ih =>
    have hrest := ih fun n => f (n + 1)
    rw [List.range_succ_eq_map, List.map_cons, List.map_map] at hrest
    rw [List.range_succ_eq_map, List.range_succ_eq_map (n := k)]
    simp only [List.map_cons, List.map_map, List.sum_cons, sumTerms] at hrest ⊢
    exact congrArg _ hrest

/-- `k + 1` samples are the ends of `k` pairs, whose first pixels are all but the last. -/
theorem sumFirsts_range (k : Nat) (f : Nat → Nat) : sumFirsts ((List.range (k + 1)).map f) = ((List.range k).map f).sum := by
  induction k generalizing f with
  | zero => rfl
  | succ k ih =>
    have hrest := ih fun n => f (n + 1)
    rw [List.range_succ_eq_map, List.map_cons, List.map_map] at hrest
    rw [List.range_succ_eq_map, List.range_succ_eq_map (n := k)]
    simp only [List.map_cons, List.map_map, List.sum_cons, sumFirsts] at hrest ⊢
    exact congrArg _ hrest

/-! ## A line added to a frame measure (R67 to R70) -/

theorem sampledRow_iff (odd : Bool) (y : Nat) : sampledRow odd y = true ↔ if odd = true then y % 4 = 2 else y % 4 = 0 := by
  cases odd <;> simp [sampledRow]

theorem Measure.addLine_of_not_sampled {m : Measure} {y : Nat} (h : sampledRow m.odd y ≠ true) (pixels : List Byte) :
    m.addLine y pixels = m := if_neg h

/-- A sampled row adds the terms of its eight zones and the lumas of their first pixels. -/
theorem Measure.addLine_of_sampled {m : Measure} {y : Nat} (h : sampledRow m.odd y = true) {pixels : List Byte}
    (hlen : pixels.length = 2560) : m.addLine y pixels = { m with
      sums := Vector.ofFn (fun z : Fin 48 => if z.val / 8 = y / 120 then m.sums[z] + ((List.range 79).map (fun n =>
        pairTerm m.noise (sampleLuma pixels m.odd (z.val % 8) n) (sampleLuma pixels m.odd (z.val % 8) (n + 1)))).sum else m.sums[z])
      luma := m.luma + ((List.range 8).map (fun column => ((List.range 79).map (sampleLuma pixels m.odd column)).sum)).sum } := by
  have hsums : ∀ column, column < 8 → sumTerms m.noise (zoneSamples m.odd (lumas pixels) column) =
      ((List.range 79).map (fun n => pairTerm m.noise (sampleLuma pixels m.odd column n) (sampleLuma pixels m.odd column (n + 1)))).sum :=
    fun column hc => by rw [zoneSamples_lumas hlen _ hc, sumTerms_range]
  have hluma : (List.range 8).map (fun c => sumFirsts (zoneSamples m.odd (lumas pixels) c)) =
      (List.range 8).map (fun column => ((List.range 79).map (sampleLuma pixels m.odd column)).sum) :=
    List.map_congr_left fun c hc => by rw [zoneSamples_lumas hlen _ (List.mem_range.1 hc), sumFirsts_range]
  unfold Measure.addLine
  simp only [if_pos h, hluma, hsums _ (Nat.mod_lt _ (by decide : 8 > 0))]

/-! ## The figures of a group (R75, R77, R78, R81, R90) -/

theorem Profile.verdict_iff {p : Profile} (h : p.dark < p.glare) (m : Nat) :
    (p.verdict m = .dark ↔ m < p.dark) ∧ (p.verdict m = .glare ↔ p.glare < m) ∧
    (p.verdict m = .judged ↔ p.dark ≤ m ∧ m ≤ p.glare) ∧ p.verdict m ≠ .incomplete := by
  unfold Profile.verdict
  split_ifs <;> simp <;> omega

theorem clarityOf_eq (energy baseline : Nat) : clarityOf energy baseline =
    if baseline = 0 then 0 else if 250 < energy * 100 / baseline then 250 else energy * 100 / baseline := by
  unfold clarityOf
  split_ifs <;> omega

theorem Profile.candidate_iff {p : Profile} (h12 : p.h1 < p.h2) (h23 : p.h2 < p.h3) (share : Nat) :
    (p.candidate share = .clean ↔ share < p.h1) ∧ (p.candidate share = .haze ↔ p.h1 ≤ share ∧ share < p.h2) ∧
    (p.candidate share = .smear ↔ p.h2 ≤ share ∧ share < p.h3) ∧ (p.candidate share = .blocked ↔ p.h3 ≤ share) := by
  unfold Profile.candidate
  split_ifs <;> simp <;> omega

theorem driftBaseline_of_le {baseline energy : Nat} (h : baseline ≤ energy) (shift : Nat) :
    driftBaseline shift baseline energy = baseline + (energy - baseline) / 2 ^ shift := if_pos h

theorem driftBaseline_of_lt {baseline energy : Nat} (h : energy < baseline) (shift : Nat) :
    driftBaseline shift baseline energy = max 64 (baseline - (baseline - energy) / 2 ^ shift) := if_neg (by omega)

/-- A judgeable zone stays judgeable as its baseline drifts (R81). -/
theorem le_driftBaseline {baseline : Nat} (h : 64 ≤ baseline) (shift energy : Nat) : 64 ≤ driftBaseline shift baseline energy := by
  rcases Nat.lt_or_ge energy baseline with hlt | hle
  · rw [driftBaseline_of_lt hlt]
    exact Nat.le_max_left ..
  · rw [driftBaseline_of_le hle]
    exact h.trans (Nat.le_add_right ..)

@[simp] theorem formBaselines_get (sums : Zones) (n : Nat) (z : Fin 48) :
    (formBaselines sums n)[z] = if sums[z] / n < 64 then 0 else sums[z] / n := by
  simp [formBaselines]

/-- Settles O27: the figures by their cases, the line by the 80 samples that each zone column has. -/
theorem lensFiguresFollowTheRules : Obligations.LensFiguresFollowTheRules := by
  refine ⟨pairTerm_eq, fun p m h => Profile.verdict_iff h m, clarityOf_eq, fun p share h12 h23 => Profile.candidate_iff h12 h23 share,
    fun shift baseline energy h => ⟨le_driftBaseline h shift energy, fun hle => driftBaseline_of_le hle shift,
      fun hlt => driftBaseline_of_lt hlt shift⟩, formBaselines_get, fun m y pixels hlen => ⟨fun hrow => ?_, fun hrow => ?_⟩⟩
  · exact Measure.addLine_of_not_sampled (mt (sampledRow_iff m.odd y).1 hrow) pixels
  · rw [Measure.addLine_of_sampled ((sampledRow_iff m.odd y).2 hrow) hlen]
    refine ⟨fun z => ?_, rfl⟩
    simp only [Fin.getElem_fin, Vector.getElem_ofFn]
    split <;> rfl

/-! ## The persistence step (R79) -/

/-- How many groups in a row a change to a candidate takes (R79). -/
def Lens.runLimit (p : Profile) (c : Grade) (l : Lens) : Nat := if c.worse l.stated then p.kWorse else p.kBetter

/-- The run of a candidate that the present group makes (R79). -/
def Lens.runWith (c : Grade) (l : Lens) : Nat := if l.pending = some c then l.run + 1 else 1

theorem Lens.persist_settles {l : Lens} {c : Grade} (h : c = l.stated) (p : Profile) :
    l.persist p c = { l with pending := none, run := 0 } := if_pos h

theorem Lens.persist_changes {p : Profile} {l : Lens} {c : Grade} (h : c ≠ l.stated) (hrun : l.runLimit p c ≤ l.runWith c) :
    l.persist p c = { l with stated := c, pending := none, run := 0 } := (if_neg h).trans (if_pos hrun)

theorem Lens.persist_waits {p : Profile} {l : Lens} {c : Grade} (h : c ≠ l.stated) (hrun : l.runWith c < l.runLimit p c) :
    l.persist p c = { l with pending := some c, run := l.runWith c } := (if_neg h).trans (if_neg hrun.not_ge)

/-- Settles O28: the run that the group makes, against the limit of its side. -/
theorem persistenceStepFollowsTheRule : Obligations.PersistenceStepFollowsTheRule := by
  intro p c l rank limit
  have hrank : ∀ g, rank g = g.code := fun g => by cases g <;> rfl
  have hlimit : l.runLimit p c = limit := by
    simp only [limit, hrank, Lens.runLimit, Grade.worse, decide_eq_true_eq]
  refine ⟨fun hc => Lens.persist_settles hc p, fun hc hp hlt => ?_, fun hc hp hle => ?_, fun hc hp hlt => ?_, fun hc hp hle => ?_⟩
  · have hrun : l.runWith c = l.run + 1 := if_pos hp
    rw [Lens.persist_waits hc (by omega), hrun, ← hp]
  · have hrun : l.runWith c = l.run + 1 := if_pos hp
    exact Lens.persist_changes hc (by omega)
  · have hrun : l.runWith c = 1 := if_neg hp
    rw [Lens.persist_waits hc (by omega), hrun]
  · have hrun : l.runWith c = 1 := if_neg hp
    exact Lens.persist_changes hc (by omega)

end Sys2Proof.Machine

/-! # Proofs: groups at a lens record, and LEARN (R71, R72, R75 to R81, R86, R88 to R92) -/

namespace Sys2Proof.Machine

/-! ## The end of a frame (R71, R72) -/

theorem zipWith_add_eq (a b : Zones) : Vector.zipWith (· + ·) a b = Vector.ofFn (fun z : Fin 48 => a[z] + b[z]) := by
  ext z hz
  simp

theorem Lens.frameEnd_whole {l : Lens} {m : Measure} (hm : l.measure = some m) (hv : m.void = false) (p : Profile) :
    l.frameEnd p true = { l with measure := none }.completeFrame p m.sums m.luma := by
  unfold Lens.frameEnd
  simp [hm, hv]

theorem Lens.completeFrame_single {p : Profile} (h : p.pair = false) (energies : Zones) (luma : Nat) (l : Lens) :
    l.completeFrame p energies luma = l.group p energies (luma / 113760) := by
  unfold Lens.completeFrame
  simp [h]

theorem Lens.completeFrame_first {p : Profile} {l : Lens} (h : p.pair = true) (hh : l.half = none) (energies : Zones) (luma : Nat) :
    l.completeFrame p energies luma = ({ l with half := some ⟨energies, luma⟩ }, none) := by
  unfold Lens.completeFrame
  simp [h, hh]

theorem Lens.completeFrame_second {p : Profile} {l : Lens} {half : HalfPair} (h : p.pair = true) (hh : l.half = some half)
    (energies : Zones) (luma : Nat) : l.completeFrame p energies luma =
      { l with half := none }.group p (Vector.ofFn (fun z : Fin 48 => half.energies[z] + energies[z])) ((half.luma + luma) / 227520) := by
  unfold Lens.completeFrame
  simp [h, hh, zipWith_add_eq]

/-- Any other end discards the measure and the half pair with verdict INCOMPLETE (R71, R72). -/
theorem Lens.frameEnd_broken {l : Lens} {complete : Bool}
    (h : complete = false ∨ l.measure = none ∨ ∃ m, l.measure = some m ∧ m.void = true) (p : Profile) :
    l.frameEnd p complete = { l with measure := none, half := none }.notJudged .incomplete := by
  rcases h with rfl | hm | ⟨m, hm, hv⟩
  · exact Lens.frameEnd_incomplete p l
  · unfold Lens.frameEnd
    split
    · next m hm' => cases hm.symm.trans hm'
    · rw [← hm]
  · unfold Lens.frameEnd
    simp [hm, hv]

/-! ## A group that is not JUDGED (R76, R88, R89) -/

theorem Lens.notJudged_of_not_learning {l : Lens} (h : l.state ≠ .learning) (v : Verdict) :
    l.notJudged v = ({ l with verdict := some v }, none) := if_neg h

theorem Lens.notJudged_goes_on {l : Lens} (h : l.state = .learning) (hn : l.nonJudged < 254) (v : Verdict) :
    l.notJudged v = ({ l with verdict := some v, nonJudged := l.nonJudged + 1 }, none) := by
  have hbump : bumpError l.nonJudged = l.nonJudged + 1 := Nat.min_eq_left (show l.nonJudged + 1 ≤ 255 by omega)
  unfold Lens.notJudged
  dsimp only
  rw [if_pos h, hbump, if_neg (by omega)]

theorem Lens.notJudged_ends {l : Lens} (h : l.state = .learning) (hn : 254 ≤ l.nonJudged) (v : Verdict) :
    l.notJudged v = ({ l with verdict := some v, nonJudged := 255 }.unlearn, some .tooDark) := by
  have hbump : bumpError l.nonJudged = 255 := Nat.min_eq_right (show 255 ≤ l.nonJudged + 1 by omega)
  unfold Lens.notJudged
  dsimp only
  rw [if_pos h, hbump, if_pos rfl]

/-! ## A JUDGED group of a LEARNING record (R88, R90, R91) -/

/-- A LEARNING record with a group gathered (R88). -/
def Lens.gathered (energies : Zones) (l : Lens) : Lens :=
  { l with sums := Vector.ofFn (fun z : Fin 48 => l.sums[z] + energies[z]), count := l.count + 1, nonJudged := 0
           verdict := some .judged }

theorem Lens.gather_eq (energies : Zones) (l : Lens) : l.gather energies =
    if l.count + 1 = l.target then
      if 12 ≤ judgeable (formBaselines (l.gathered energies).sums l.target) then
        ((l.gathered energies).restore (formBaselines (l.gathered energies).sums l.target),
          some (.learned (judgeable (formBaselines (l.gathered energies).sums l.target))))
      else ((l.gathered energies).unlearn, some (.noTexture (judgeable (formBaselines (l.gathered energies).sums l.target))))
    else (l.gathered energies, none) := by
  unfold Lens.gather
  rw [zipWith_add_eq]
  rfl

/-! ## A JUDGED group of an ASSESSING record (R77 to R79, R81) -/

theorem judgeable_eq (baselines : Zones) : judgeable baselines = ((List.finRange 48).filter (fun z => baselines[z] ≠ 0)).length := rfl

theorem dullZones_eq (threshold : Nat) (baselines clarity : Zones) : dullZones threshold baselines clarity =
    ((List.finRange 48).filter (fun z => baselines[z] ≠ 0 ∧ clarity[z] < threshold)).length := by
  simp only [dullZones, countZones, Bool.decide_and]

theorem Lens.driftBy_still {p : Profile} {c : Grade} {l : Lens} (h : p.drift = 0 ∨ l.stated ≠ .clean ∨ c ≠ .clean) (energies : Zones) :
    l.driftBy p c energies = l := by
  unfold Lens.driftBy
  rw [if_neg]
  simp only [Bool.and_eq_true, decide_eq_true_eq]
  tauto

theorem Lens.driftBy_moves {p : Profile} {c : Grade} {l : Lens} (hd : p.drift ≠ 0) (hs : l.stated = .clean) (hc : c = .clean)
    (energies : Zones) : l.driftBy p c energies = { l with baselines := Vector.ofFn (fun z : Fin 48 =>
      if l.baselines[z] ≠ 0 ∧ p.threshold ≤ l.clarity[z] then driftBaseline p.drift l.baselines[z] energies[z] else l.baselines[z]) } := by
  unfold Lens.driftBy
  rw [if_pos (by simp [hd, hs, hc])]
  simp only [Bool.and_eq_true, decide_eq_true_eq]

/-- The persistence step leaves the lens state and the figures (R79). -/
theorem Lens.persist_frame (p : Profile) (c : Grade) (l : Lens) :
    (l.persist p c).state = l.state ∧ (l.persist p c).baselines = l.baselines ∧ (l.persist p c).clarity = l.clarity := by
  unfold Lens.persist
  dsimp only
  (repeat' split) <;> exact ⟨rfl, rfl, rfl⟩

/-- An ASSESSING record with the figures of a group taken (R77, R78). -/
def Lens.assessed (p : Profile) (energies : Zones) (l : Lens) : Lens :=
  let clarity : Zones := Vector.ofFn (fun z : Fin 48 => clarityOf energies[z] l.baselines[z])
  { l with clarity := clarity, share := dullZones p.threshold l.baselines clarity * 100 / judgeable l.baselines
           lastJ := judgeable l.baselines, verdict := some .judged }

@[simp] theorem Lens.assessed_state (p : Profile) (energies : Zones) (l : Lens) : (l.assessed p energies).state = l.state := by
  simp only [Lens.assessed]

@[simp] theorem Lens.assessed_baselines (p : Profile) (energies : Zones) (l : Lens) : (l.assessed p energies).baselines = l.baselines := by
  simp only [Lens.assessed]

theorem Lens.assess_eq (p : Profile) (energies : Zones) (l : Lens) : l.assess p energies =
    ((l.assessed p energies).persist p (p.candidate (l.assessed p energies).share)).driftBy p (p.candidate (l.assessed p energies).share)
      energies := rfl

/-! ## A group by its verdict and by lens state (R75, R76) -/

theorem Lens.group_dark {p : Profile} {m : Nat} (h : m < p.dark) (energies : Zones) (l : Lens) :
    l.group p energies m = l.notJudged .dark := by
  have hv : p.verdict m = .dark := if_pos h
  rw [Lens.group, hv]

theorem Lens.group_glare {p : Profile} {m : Nat} (hd : p.dark ≤ m) (h : p.glare < m) (energies : Zones) (l : Lens) :
    l.group p energies m = l.notJudged .glare := by
  have hv : p.verdict m = .glare := (if_neg hd.not_gt).trans (if_pos h)
  rw [Lens.group, hv]

theorem Lens.group_judged {p : Profile} {m : Nat} (hd : p.dark ≤ m) (h : m ≤ p.glare) (energies : Zones) (l : Lens) :
    l.group p energies m = l.judged p energies := by
  have hv : p.verdict m = .judged := (if_neg hd.not_gt).trans (if_neg h.not_gt)
  rw [Lens.group, hv]

theorem Lens.judged_unlearned {l : Lens} (h : l.state = .unlearned) (p : Profile) (energies : Zones) :
    l.judged p energies = ({ l with verdict := some .judged }, none) := by
  rw [Lens.judged, h]

theorem Lens.judged_learning {l : Lens} (h : l.state = .learning) (p : Profile) (energies : Zones) :
    l.judged p energies = l.gather energies := by
  rw [Lens.judged, h]

theorem Lens.judged_assessing {l : Lens} (h : l.state = .assessing) (p : Profile) (energies : Zones) :
    l.judged p energies = (l.assess p energies, none) := by
  rw [Lens.judged, h]

/-! ## LEARN (R86) -/

theorem learnEffect_refused {b : Byte} (h : 8 ≤ b.toNat) (s : State) : learnEffect [b] s = (s, .refused .badField) := by
  have hport : instanceOf 8 (byteAt [b] 0) = none := instanceOf_eq_none h
  rw [learnEffect, hport]

theorem learnEffect_accepted {b : Byte} {p : Fin 8} (h : p.val = b.toNat) (s : State) :
    learnEffect [b] s = (s.lensEvent p (fun l => (l.startLearning (s.profileOf p), none)), .done false) := by
  have hport : instanceOf 8 (byteAt [b] 0) = some p := instanceOf_eq_some h
  rw [learnEffect, hport]

theorem State.Executes.exec_learn {s : State} {i : Fin 2} {o : HeldOrder} {b : Byte} (h : s.Executes i o 14 [b]) {r : State × Answer}
    (hr : learnEffect [b] s = r) : exec .learn s = .next (r.1.replied i o r.2) := by
  subst hr
  rw [exec_of_running h.running]
  exact congrArg _ (h.runOrder (by decide) rfl learnEffect)

/-! ## The statement -/

/-- The order unit after a change of a lens record to `new`: a GRADE notice where the grade changed (R80). -/
def State.gradeTold (s : State) (i : Fin 8) (new : Lens) : OrderUnit :=
  if (s.lens i).stated = new.stated then s.orders
  else s.orders.offer (.grade i (s.lens i).stated new.stated
    (if (s.lens i).state = .assessing ∧ new.state = .assessing then new.share else 0))

/-- An event at a lens record tells the changed grade, then how a learning ended (R80, R92). -/
theorem State.lensEvent_told (s : State) (i : Fin 8) (f : Lens → Lens × Option LearnEnd) :
    ((f (s.lens i)).2 = none → (s.lensEvent i f).orders = s.gradeTold i (f (s.lens i)).1) ∧
    (∀ e, (f (s.lens i)).2 = some e → (s.lensEvent i f).orders = (s.gradeTold i (f (s.lens i)).1).offer (.learnEnd i e)) := by
  have hgraded : (if (s.lens i).stated ≠ (f (s.lens i)).1.stated then
        s.orders.offer (.grade i (s.lens i).stated (f (s.lens i)).1.stated (gradeShare (s.lens i) (f (s.lens i)).1))
      else s.orders) = s.gradeTold i (f (s.lens i)).1 := by
    unfold State.gradeTold gradeShare
    simp only [Bool.and_eq_true, decide_eq_true_eq, ne_eq, ite_not]
  rw [State.lensEvent_orders, hgraded]
  exact ⟨fun h => by rw [h], fun e h => by rw [h]⟩

/-- A JUDGED group of an ASSESSING record, by whether its drift moves the baselines (R77 to R79, R81). -/
theorem Lens.assess_drifts (p : Profile) (energies : Zones) (l : Lens) (c : Grade) (hc : p.candidate (l.assessed p energies).share = c) :
    ((p.drift = 0 ∨ ((l.assessed p energies).persist p c).stated ≠ .clean ∨ c ≠ .clean) →
      l.assess p energies = (l.assessed p energies).persist p c) ∧
    (p.drift ≠ 0 → ((l.assessed p energies).persist p c).stated = .clean → c = .clean →
      l.assess p energies = { (l.assessed p energies).persist p c with
        baselines := Vector.ofFn (fun z : Fin 48 =>
          if l.baselines[z] ≠ 0 ∧ p.threshold ≤ (l.assessed p energies).clarity[z] then driftBaseline p.drift l.baselines[z] energies[z]
          else l.baselines[z]) }) := by
  obtain ⟨-, hbaselines, hclarity⟩ := Lens.persist_frame p c (l.assessed p energies)
  rw [Lens.assess_eq, hc]
  refine ⟨fun h => Lens.driftBy_still h energies, fun hd hs hclean => ?_⟩
  simp only [Lens.driftBy_moves hd hs hclean, hbaselines, hclarity, Lens.assessed_baselines]

/-- Settles O29: LEARN is one event at the lens record; the frame's end, the verdicts and the groups follow their equations above. -/
theorem learnStartsALearning : Obligations.LearnStartsALearning := by
  refine ⟨fun s i o b h => ⟨fun hb => ?_, fun p hp => ?_⟩, fun p l => ⟨fun m hm hv => ⟨fun hpair => ?_, fun hpair hhalf => ?_,
    fun half hpair hhalf => ?_⟩, fun complete hbroken => Lens.frameEnd_broken hbroken p⟩, fun v l => ⟨fun hs => ?_, fun hs hn => ?_,
    fun hs hn => ?_⟩, fun p e m l => ⟨fun hdark => ?_, fun hdark hglare => ?_, fun hdark hglare => ⟨fun hs => ?_, fun hs => ?_,
    fun hs => ?_⟩⟩, fun s i f => ?_⟩
  · exact h.exec_learn (learnEffect_refused hb s)
  · obtain ⟨hcams, htrunks, hstreams, hchannels, hprofiles, hselector, hscreens, hviews, hloader, hflash, -⟩ :=
      s.lensEvent_frame p (fun l => (l.startLearning (s.profileOf p), none))
    have htold := (s.lensEvent_told p (fun l => (l.startLearning (s.profileOf p), none))).1 rfl
    refine ⟨_, h.exec_learn (learnEffect_accepted hp s), s.lens_lensEvent_self p _, fun q hq => s.lens_lensEvent_of_ne _ hq, fun hu => ?_,
      fun hu => ?_, fun hf => (hf.lensEvent p _).replied i o _, hcams, htrunks, hstreams, hchannels, hprofiles, hselector, hscreens,
      hviews, hloader, hflash⟩
    · exact State.replied_orders_congr (htold.trans (if_pos hu)) i o _
    · refine State.replied_orders_congr (htold.trans ((if_neg hu).trans ?_)) i o _
      rw [if_neg fun hboth => LensState.noConfusion hboth.2]
      rfl
  · rw [Lens.frameEnd_whole hm hv, Lens.completeFrame_single hpair]
  · rw [Lens.frameEnd_whole hm hv, Lens.completeFrame_first (l := { l with measure := none }) hpair hhalf]
  · rw [Lens.frameEnd_whole hm hv, Lens.completeFrame_second (l := { l with measure := none }) hpair hhalf]
  · exact Lens.notJudged_of_not_learning hs v
  · exact Lens.notJudged_goes_on hs hn v
  · exact Lens.notJudged_ends hs hn v
  · exact Lens.group_dark hdark e l
  · exact Lens.group_glare hdark hglare e l
  · rw [Lens.group_judged hdark hglare, Lens.judged_unlearned hs]
  · rw [Lens.group_judged hdark hglare, Lens.judged_learning hs, Lens.gather_eq]
    exact ⟨fun hc => if_neg hc, fun hc hj => (if_pos hc).trans (if_pos hj), fun hc hj => (if_pos hc).trans (if_neg hj.not_ge)⟩
  · intro clarity j dull candidate stepped
    have hassessed : { l with clarity := clarity, share := dull * 100 / j, lastJ := j, verdict := some .judged } = l.assessed p e := by
      simp only [dull, j, ← dullZones_eq]
      rfl
    have hstepped : stepped = (l.assessed p e).persist p candidate := congrArg (Lens.persist p candidate) hassessed
    have hshare : p.candidate (l.assessed p e).share = candidate := by rw [← hassessed]
    have hclarity : (l.assessed p e).clarity = clarity := rfl
    obtain ⟨hstill, hmoves⟩ := Lens.assess_drifts p e l candidate hshare
    rw [Lens.group_judged hdark hglare, Lens.judged_assessing hs, hstepped]
    exact ⟨fun h => by rw [hstill h], fun hd hc hclean => by rw [hmoves hd hc hclean, hclarity]⟩
  · obtain ⟨hcams, htrunks, hstreams, hchannels, hprofiles, hselector, hscreens, hviews, hloader, hflash, -⟩ := s.lensEvent_frame i f
    obtain ⟨hnone, hsome⟩ := s.lensEvent_told i f
    exact ⟨s.lens_lensEvent_self i f, fun j hj => s.lens_lensEvent_of_ne f hj, hnone, hsome, fun hf => hf.lensEvent i f, hcams, htrunks,
      hstreams, hchannels, hprofiles, hselector, hscreens, hviews, hloader, hflash⟩

end Sys2Proof.Machine

/-! # Proofs: lens records and profiles that are consistent, and every step that keeps them (R65, R74, R86, R89 to R91, R93, R94, R177)

What a lens record must keep is kept by each of its events, and the hub changes a lens record by such events alone. -/

namespace Sys2Proof.Machine

/-! ## Zones -/

theorem countZones_mono {f g : Fin 48 → Bool} (h : ∀ z, f z = true → g z = true) : countZones f ≤ countZones g := by
  unfold countZones
  rw [← List.countP_eq_length_filter, ← List.countP_eq_length_filter]
  exact List.countP_mono_left fun z _ => h z

theorem judgeable_le (baselines : Zones) : judgeable baselines ≤ 48 := by
  rw [judgeable_eq]
  exact (List.length_filter_le _ _).trans_eq List.length_finRange

theorem judgeable_congr {a b : Zones} (h : ∀ z : Fin 48, a[z] = 0 ↔ b[z] = 0) : judgeable a = judgeable b := by
  simp only [judgeable_eq, ne_eq, h]

/-- A share is a part of the judgeable zones (R78). -/
theorem dullShare_le (threshold : Nat) (baselines clarity : Zones) :
    dullZones threshold baselines clarity * 100 / judgeable baselines ≤ 100 :=
  Nat.div_le_of_le_mul (Nat.mul_le_mul_right 100 (countZones_mono fun z hz => by
    rw [Bool.and_eq_true] at hz
    exact hz.1))

theorem clarityOf_le (energy baseline : Nat) : clarityOf energy baseline ≤ 250 := by
  rw [clarityOf_eq]
  split_ifs <;> omega

theorem Profile.candidate_ne_unjudged (p : Profile) (share : Nat) : p.candidate share ≠ .unjudged := by
  unfold Profile.candidate
  (repeat' split) <;> decide

/-! ## One lens record -/

/-- The figures of a lens record are in their ranges, whatever its state (R65, R77, R78, R86). -/
def Lens.InRange (l : Lens) : Prop :=
  (l.target = 4 ∨ l.target = 8 ∨ l.target = 16) ∧ l.pending ≠ some .unjudged ∧ (∀ z : Fin 48, l.clarity[z] ≤ 250) ∧ l.share ≤ 100 ∧
  l.lastJ ≤ 48

theorem Lens.Consistent.inRange {l : Lens} (h : l.Consistent) : l.InRange := h.2.2.2

/-- A record that is UNLEARNED has no grade and no baselines. -/
theorem Lens.InRange.unlearn {l : Lens} (h : l.InRange) (hs : l.stated = .unjudged) : l.unlearn.Consistent :=
  ⟨nofun, fun _ => ⟨hs, rfl⟩, nofun, h⟩

/-- A record that starts to assess from these baselines (R91, R177). -/
theorem Lens.InRange.restore {l : Lens} (h : l.InRange) {baselines : Zones} (hj : 12 ≤ judgeable baselines)
    (hz : ∀ z : Fin 48, baselines[z] = 0 ∨ 64 ≤ baselines[z]) : (l.restore baselines).Consistent := by
  obtain ⟨htarget, -⟩ := h
  have hclarity : ∀ z : Fin 48, (Zones.zero)[z] ≤ 250 := fun z => by simp [Zones.zero]
  exact ⟨fun _ => ⟨nofun, hj, hz⟩, fun hne => absurd rfl hne, nofun, htarget, nofun, hclarity, Nat.zero_le _, judgeable_le _⟩

/-- A record that starts to learn (R86). -/
theorem Lens.InRange.startLearning {l : Lens} (h : l.InRange) {p : Profile} (hp : p.learn = 4 ∨ p.learn = 8 ∨ p.learn = 16) :
    (l.startLearning p).Consistent := by
  obtain ⟨-, -, hrest⟩ := h
  exact ⟨nofun, fun _ => ⟨rfl, rfl⟩, fun _ => ⟨show 0 < p.learn by omega, show 0 < 255 by decide⟩, hp, nofun, hrest⟩

/-- An event at a lens record that keeps it consistent. -/
def Lens.KeepsConsistent (f : Lens → Lens × Option LearnEnd) : Prop := ∀ l : Lens, l.Consistent → (f l).1.Consistent

namespace Lens.Consistent

variable {l : Lens}

theorem unjudged (h : l.Consistent) (hs : l.state ≠ .assessing) : l.stated = .unjudged := (h.2.1 hs).1

theorem learning (h : l.Consistent) (hs : l.state = .learning) : l.count < l.target ∧ l.nonJudged < 255 := h.2.2.1 hs

/-- A learning that ends without baselines (R89, R91, R95, R98). -/
theorem unlearn (h : l.Consistent) (hs : l.state = .learning) : l.unlearn.Consistent :=
  h.inRange.unlearn (h.unjudged (by rw [hs]; decide))

/-- The pending run is discarded (R79, R96). -/
theorem settled (h : l.Consistent) : { l with pending := none, run := 0 }.Consistent := by
  obtain ⟨hassessing, hother, hlearning, htarget, -, hrest⟩ := h
  exact ⟨hassessing, hother, hlearning, htarget, nofun, hrest⟩

theorem notJudged (h : l.Consistent) (v : Verdict) : (l.notJudged v).1.Consistent := by
  by_cases hs : l.state = .learning
  · rcases Nat.lt_or_ge l.nonJudged 254 with hn | hn
    · obtain ⟨hassessing, hother, hlearning, hrest⟩ := h
      rw [Lens.notJudged_goes_on hs hn]
      exact ⟨hassessing, hother, fun hl => ⟨(hlearning hl).1, Nat.succ_lt_succ hn⟩, hrest⟩
    · rw [Lens.notJudged_ends hs hn]
      exact Lens.InRange.unlearn (l := { l with verdict := some v, nonJudged := 255 }) h.inRange (h.unjudged (by rw [hs]; decide))
  · rw [Lens.notJudged_of_not_learning hs]
    exact h

/-- A LEARNING record that gathers a group, and its end by the group that reaches the target (R88, R90, R91). -/
theorem gather (h : l.Consistent) (hs : l.state = .learning) (energies : Zones) : (l.gather energies).1.Consistent := by
  have hgathered : (l.gathered energies).InRange := h.inRange
  have hstated : (l.gathered energies).stated = .unjudged := h.unjudged (by rw [hs]; decide)
  obtain ⟨hcount, -⟩ := h.learning hs
  rw [Lens.gather_eq]
  split_ifs with hc hj
  · refine hgathered.restore hj fun z => ?_
    rw [formBaselines_get]
    split_ifs <;> omega
  · exact hgathered.unlearn hstated
  · obtain ⟨hassessing, hother, -, hrest⟩ := h
    exact ⟨hassessing, hother, fun _ => ⟨Nat.lt_of_le_of_ne hcount hc, show 0 < 255 by decide⟩, hrest⟩

/-- The figures of a group (R77, R78). -/
theorem assessed (h : l.Consistent) (p : Profile) (energies : Zones) : (l.assessed p energies).Consistent := by
  obtain ⟨hassessing, hother, hlearning, htarget, hpending, -⟩ := h
  unfold Lens.assessed
  dsimp only
  refine ⟨hassessing, hother, hlearning, htarget, hpending, fun z => ?_, dullShare_le .., judgeable_le _⟩
  simp only [Fin.getElem_fin, Vector.getElem_ofFn]
  exact clarityOf_le _ _

/-- The persistence step of an ASSESSING record towards a grade (R79). -/
theorem persist (h : l.Consistent) (hs : l.state = .assessing) (p : Profile) {c : Grade} (hc : c ≠ .unjudged) :
    (l.persist p c).Consistent := by
  by_cases hsame : c = l.stated
  · rw [Lens.persist_settles hsame]
    exact h.settled
  obtain ⟨hassessing, hother, hlearning, htarget, -, hrest⟩ := h
  rcases Nat.lt_or_ge (l.runWith c) (l.runLimit p c) with hrun | hrun
  · rw [Lens.persist_waits hsame hrun]
    exact ⟨hassessing, hother, hlearning, htarget, fun he => hc (Option.some.inj he), hrest⟩
  · rw [Lens.persist_changes hsame hrun]
    exact ⟨fun _ => ⟨hc, (hassessing hs).2⟩, fun hne => absurd hs hne, hlearning, htarget, nofun, hrest⟩

/-- Baselines that drift keep which zones are judgeable (R81). -/
theorem driftBy (h : l.Consistent) (hs : l.state = .assessing) (p : Profile) (c : Grade) (energies : Zones) :
    (l.driftBy p c energies).Consistent := by
  by_cases hd : p.drift = 0 ∨ l.stated ≠ .clean ∨ c ≠ .clean
  · rw [Lens.driftBy_still hd]
    exact h
  · simp only [not_or, not_not] at hd
    obtain ⟨hdrift, hstated, hclean⟩ := hd
    obtain ⟨hassessing, hother, hlearning, hrest⟩ := h
    obtain ⟨hgrade, hj, hz⟩ := hassessing hs
    have hzone : ∀ z : Fin 48, (l.driftBy p c energies).baselines[z] = l.baselines[z] ∨
        64 ≤ l.baselines[z] ∧ 64 ≤ (l.driftBy p c energies).baselines[z] := fun z => by
      rw [Lens.driftBy_moves hdrift hstated hclean]
      simp only [Fin.getElem_fin, Vector.getElem_ofFn]
      split_ifs with hm
      · have hmin := (hz z).resolve_left hm.1
        exact .inr ⟨hmin, le_driftBaseline hmin _ _⟩
      · exact .inl rfl
    have hsame : judgeable (l.driftBy p c energies).baselines = judgeable l.baselines := judgeable_congr fun z => by
      have := hzone z
      omega
    rw [Lens.driftBy_moves hdrift hstated hclean] at hzone hsame ⊢
    refine ⟨fun _ => ⟨hgrade, hsame.symm ▸ hj, fun z => ?_⟩, fun hne => absurd hs hne, hlearning, hrest⟩
    rcases hzone z with hkept | ⟨-, hmin⟩
    · rw [hkept]
      exact hz z
    · exact .inr hmin

/-- A JUDGED group of an ASSESSING record (R77 to R79, R81). -/
theorem assess (h : l.Consistent) (hs : l.state = .assessing) (p : Profile) (energies : Zones) : (l.assess p energies).Consistent := by
  have hassessed := (Lens.assessed_state p energies l).trans hs
  have hpersisted := fun c => (Lens.persist_frame p c (l.assessed p energies)).1.trans hassessed
  rw [Lens.assess_eq]
  exact ((h.assessed p energies).persist hassessed p (p.candidate_ne_unjudged _)).driftBy (hpersisted _) p _ energies

theorem group (h : l.Consistent) (p : Profile) (energies : Zones) (m : Nat) : (l.group p energies m).1.Consistent := by
  rcases Nat.lt_or_ge m p.dark with hdark | hdark
  · rw [Lens.group_dark hdark]
    exact h.notJudged _
  rcases Nat.lt_or_ge p.glare m with hglare | hglare
  · rw [Lens.group_glare hdark hglare]
    exact h.notJudged _
  rw [Lens.group_judged hdark hglare]
  cases hs : l.state with
  | unlearned =>
    rw [Lens.judged_unlearned hs]
    exact h
  | learning =>
    rw [Lens.judged_learning hs]
    exact h.gather hs energies
  | assessing =>
    rw [Lens.judged_assessing hs]
    exact h.assess hs p energies

end Lens.Consistent

theorem Lens.keepsConsistent_frameEnd (p : Profile) (complete : Bool) : Lens.KeepsConsistent (Lens.frameEnd p complete) := by
  intro l h
  unfold Lens.frameEnd Lens.completeFrame
  (repeat' split)
  · exact h
  · exact Lens.Consistent.group (l := { l with measure := none, half := none }) h ..
  · exact Lens.Consistent.group (l := { l with measure := none }) h ..
  · exact Lens.Consistent.notJudged (l := { l with measure := none, half := none }) h _
  · exact Lens.Consistent.notJudged (l := { l with half := none }) h _

theorem Lens.keepsConsistent_scaleChanged : Lens.KeepsConsistent Lens.scaleChanged := by
  intro l h
  unfold Lens.scaleChanged
  dsimp only
  split
  · exact h
  · next hs =>
    exact Lens.InRange.unlearn (l := { l with half := none, measure := _ }) h.inRange (h.unjudged (by rw [hs]; decide))
  · obtain ⟨htarget, -, hrest⟩ := h.inRange
    exact ⟨nofun, fun _ => ⟨rfl, rfl⟩, nofun, htarget, nofun, hrest⟩

theorem Lens.keepsConsistent_settingsChanged : Lens.KeepsConsistent (fun l => (l.settingsChanged, none)) := by
  intro l h
  unfold Lens.settingsChanged
  dsimp only
  split
  · exact h.settled
  · exact h

theorem Lens.keepsConsistent_portStopped : Lens.KeepsConsistent Lens.portStopped := by
  intro l h
  unfold Lens.portStopped
  split
  · next hs => exact h.unlearn hs
  · exact h

theorem Lens.keepsConsistent_forget : Lens.KeepsConsistent (fun l => (l.forget, none)) := by
  intro l h
  unfold Lens.forget
  dsimp only
  split
  · obtain ⟨htarget, hpending, hclarity, hshare, -⟩ := h.inRange
    exact ⟨nofun, fun _ => ⟨rfl, rfl⟩, nofun, htarget, hpending, hclarity, hshare, Nat.zero_le _⟩
  · exact h

theorem Lens.keepsConsistent_startLearning {p : Profile} (h : p.Consistent) :
    Lens.KeepsConsistent (fun l => (l.startLearning p, none)) := fun l hl => by
  obtain ⟨-, -, -, -, -, -, -, -, -, -, -, -, -, hlearn, -⟩ := h
  exact Lens.InRange.startLearning hl.inRange hlearn

theorem Lens.keepsConsistent_restore {baselines : Zones} (hj : 12 ≤ judgeable baselines)
    (hz : ∀ z : Fin 48, baselines[z] = 0 ∨ 64 ≤ baselines[z]) : Lens.KeepsConsistent (fun l => (l.restore baselines, none)) :=
  fun _ h => h.inRange.restore hj hz

/-- The conditions of R177 under which a BASELINES entry is accepted, as far as the lens record keeps them. -/
theorem BaselinesEntry.accepted_spec {e : BaselinesEntry} {p : Profile} (h : e.accepted p = true) :
    12 ≤ judgeable e.baselines ∧ ∀ z : Fin 48, e.baselines[z] = 0 ∨ 64 ≤ e.baselines[z] := by
  simp only [BaselinesEntry.accepted, Bool.and_eq_true, Bool.or_eq_true, decide_eq_true_eq, Vector.all_eq_true] at h
  obtain ⟨⟨-, hz⟩, hj⟩ := h
  exact ⟨hj, fun z => (hz z.val z.isLt).imp_right And.left⟩

/-! ## One profile (R93, R94) -/

theorem clampDrift_range (n : Nat) : (clampDrift n).value = 0 ∨ 4 ≤ (clampDrift n).value ∧ (clampDrift n).value ≤ 8 := by
  obtain ⟨hvalue, -⟩ := clamp_spec (by decide : 4 ≤ 8) n
  unfold clampDrift
  split_ifs
  · exact .inl rfl
  · rw [hvalue]
    omega

/-- A profile that LOAD-PROFILE stores keeps the ranges of R93 and the checks of R94. -/
theorem readLoadProfile_consistent {ps : List Byte} {lp : Fin 4} {p : Profile} {clamped : Bool}
    (h : readLoadProfile ps = some (lp, p, clamped)) : p.Consistent := by
  have hclamp : ∀ {low high : Nat} (n : Nat), low ≤ high → low ≤ (clamp low high n).value ∧ (clamp low high n).value ≤ high :=
    fun n hle => by
      rw [(clamp_spec hle n).1]
      omega
  simp only [readLoadProfile, Option.bind_eq_bind, Option.bind_eq_some_iff] at h
  obtain ⟨port, -, pair, -, h⟩ := h
  split at h
  · cases h
  next hlearn =>
  split at h
  next hrelations =>
    cases h
    simp only [Bool.and_eq_true, decide_eq_true_eq] at hrelations
    obtain ⟨⟨h12, h23⟩, hdark⟩ := hrelations
    simp only [Bool.not_eq_true', Bool.not_eq_false, Bool.or_eq_true, decide_eq_true_eq] at hlearn
    obtain ⟨-, hnoise⟩ := hclamp (byteAt ps 1) (by decide : 0 ≤ 63)
    obtain ⟨htlow, hthigh⟩ := hclamp (byteAt ps 2) (by decide : 10 ≤ 95)
    obtain ⟨h1low, -⟩ := hclamp (byteAt ps 3) (by decide : 1 ≤ 100)
    obtain ⟨-, h3high⟩ := hclamp (byteAt ps 5) (by decide : 1 ≤ 100)
    obtain ⟨hwlow, hwhigh⟩ := hclamp (byteAt ps 6) (by decide : 1 ≤ 15)
    obtain ⟨hblow, hbhigh⟩ := hclamp (byteAt ps 7) (by decide : 1 ≤ 63)
    have hglare : byteAt ps 9 ≤ 255 := Nat.le_of_lt_succ (ps.getD 9 0).isLt
    exact ⟨hnoise, htlow, hthigh, h1low, h12, h23, h3high, hwlow, hwhigh, hblow, hbhigh, hdark, hglare, or_assoc.1 hlearn,
      clampDrift_range _⟩
  · cases h

/-! ## The lens records and the profiles of the hub -/

namespace State.LensesConsistent

variable {s : State}

theorem congr {t : State} (h : s.LensesConsistent) (hl : t.lenses = s.lenses) (hp : t.profiles = s.profiles) : t.LensesConsistent :=
  ⟨fun i => State.lens_congr hl i ▸ h.1 i, hp ▸ h.2⟩

/-- Whichever of two states a condition chooses is consistent when both are. -/
theorem ite {b : Prop} [Decidable b] {x y : State} (hx : x.LensesConsistent) (hy : y.LensesConsistent) :
    (if b then x else y).LensesConsistent := by
  split
  · exact hx
  · exact hy

theorem profileOf (h : s.LensesConsistent) (i : Fin 8) : (s.profileOf i).Consistent := h.2 _

theorem updLens (h : s.LensesConsistent) (i : Fin 8) {f : Lens → Lens} (hf : ∀ l : Lens, l.Consistent → (f l).Consistent) :
    (s.updLens i f).LensesConsistent := by
  refine ⟨fun j => ?_, h.2⟩
  by_cases hj : j = i
  · rw [hj, State.lens_updLens_self]
    exact hf _ (h.1 i)
  · rw [State.lens_updLens_of_ne _ _ hj]
    exact h.1 j

theorem lensEvent (h : s.LensesConsistent) (i : Fin 8) {f : Lens → Lens × Option LearnEnd} (hf : Lens.KeepsConsistent f) :
    (s.lensEvent i f).LensesConsistent :=
  (h.updLens i hf).congr (State.lensEvent_lenses s i f) (State.lensEvent_frame ..).2.2.2.2.1

theorem lensEventsOfProfile (h : s.LensesConsistent) (lp : Fin 4) {f : Lens → Lens × Option LearnEnd} (hf : Lens.KeepsConsistent f) :
    (s.lensEventsOfProfile lp f).LensesConsistent := by
  refine ⟨fun j => ?_, by simpa using h.2⟩
  rw [State.lens_lensEventsOfProfile]
  split
  · exact hf _ (h.1 j)
  · exact h.1 j

/-! ## Camera frames and ports (R12, R66, R70, R73, R98) -/

theorem endOpenFrame (h : s.LensesConsistent) (i : Fin 8) (complete : Bool) : (s.endOpenFrame i complete).LensesConsistent := by
  unfold State.endOpenFrame
  split
  · exact h
  · exact lensEvent (s := s.updCam i _) h i (Lens.keepsConsistent_frameEnd _ _)

theorem openCameraFrame (h : s.LensesConsistent) (i : Fin 8) (frame : Nat) : (s.openCameraFrame i frame).LensesConsistent :=
  updLens (s := (s.endOpenFrame i false).updCam i _) (h.endOpenFrame i false) i fun _ hl => hl

theorem cameraLine (h : s.LensesConsistent) (i : Fin 8) (frame line : Nat) (pixels : List Byte) :
    (s.cameraLine i frame line pixels).LensesConsistent := by
  unfold State.cameraLine
  (repeat' split)
  · exact h
  · exact updLens (s := s.updCam i _) h i fun _ hl => hl
  · exact h

theorem closeCameraFrame (h : s.LensesConsistent) (i : Fin 8) (frame : Nat) (status : CloseStatus) :
    (s.closeCameraFrame i frame status).LensesConsistent := by
  unfold State.closeCameraFrame
  (repeat' split)
  · exact h
  · exact h.endOpenFrame i _
  · exact h

theorem loseCameraFrame (h : s.LensesConsistent) (i : Fin 8) : (s.loseCameraFrame i).LensesConsistent :=
  (h.endOpenFrame i false).updLens i fun _ hl => hl

theorem countReceived (h : s.LensesConsistent) (p : Port) : (s.countReceived p).LensesConsistent := h.congr (by simp) (by simp)

theorem handFrameOpen (h : s.LensesConsistent) (p : Port) (k : Fin 256) (frame : Nat) (grade : Grade) (home : Nat) :
    (s.handFrameOpen p k frame grade home).LensesConsistent := by
  unfold State.handFrameOpen
  cases p with
  | cam i => exact ((h.countReceived (.cam i)).openCameraFrame i frame).congr (by simp) (by simp)
  | trunk t => exact h.congr (by simp) (by simp)

theorem handFrameClose (h : s.LensesConsistent) (p : Port) (k : Fin 256) (frame : Nat) (status : CloseStatus) :
    (s.handFrameClose p k frame status).LensesConsistent := by
  unfold State.handFrameClose
  cases p with
  | cam i => exact ((h.countReceived (.cam i)).closeCameraFrame i frame status).congr (by simp) (by simp)
  | trunk t => exact h.congr (by simp) (by simp)

theorem handLine (h : s.LensesConsistent) (p : Port) (frame line : Nat) (pixels bytes : List Byte) :
    (s.handLine p frame line pixels bytes).LensesConsistent := by
  unfold State.handLine
  cases p with
  | cam i => exact ((h.countReceived (.cam i)).cameraLine i frame line pixels).congr (by simp) (by simp)
  | trunk t => exact h.congr (by simp) (by simp)

theorem handOn (h : s.LensesConsistent) (p : Port) (packet : Packet) (bytes : List Byte) :
    (s.handOn p packet bytes).LensesConsistent := by
  unfold State.handOn
  split
  · exact h.handFrameOpen p _ _ _ _
  · exact h.handFrameClose p _ _ _
  · exact h.handLine p _ _ _ bytes
  · exact h.congr (by simp) (by simp)
  · exact h.congr (by simp) (by simp)
  · exact h
  · exact h

theorem judgeArrival (h : s.LensesConsistent) (p : Port) (bytes : List Byte) : (s.judgeArrival p bytes).LensesConsistent := by
  unfold State.judgeArrival
  split
  · exact h.congr (by simp) (by simp)
  · exact h.handOn p _ bytes

theorem packetEnd (h : s.LensesConsistent) (p : Port) (bytes : List Byte) : (s.packetEnd p bytes).LensesConsistent := by
  unfold State.packetEnd
  (repeat' split)
  · exact h.congr (by simp) (by simp)
  · exact h.congr (by simp) (by simp)
  · exact judgeArrival (h.congr (by simp) (by simp)) p bytes
  · exact judgeArrival (h.congr (by simp) (by simp)) p bytes

/-- A packet that is over keeps the lens records when what the port does with it does. -/
theorem packetOver (h : s.LensesConsistent) (p : Port) (bytes : List Byte) (goesOn : Bool) {f : State → State}
    (hf : ∀ x : State, x.LensesConsistent → (f x).LensesConsistent) : (s.packetOver p bytes goesOn f).LensesConsistent := by
  unfold State.packetOver
  split
  · exact hf _ (h.congr (by simp) (by simp))
  · exact h.congr (by simp) (by simp)

theorem originLoss (h : s.LensesConsistent) (p : Port) : (s.originLoss p).LensesConsistent := h.congr (by simp) (by simp)

theorem portLost (h : s.LensesConsistent) (p : Port) : (s.portLost p).LensesConsistent := by
  unfold State.portLost
  cases p with
  | cam i => exact (h.loseCameraFrame i).congr (by simp) (by simp)
  | trunk t => exact h.congr (by simp) (by simp)

theorem linkDown (h : s.LensesConsistent) (p : Port) (arrived : Option (List Byte)) : (s.linkDown p arrived).LensesConsistent := by
  unfold State.linkDown
  dsimp only
  (repeat' split)
  · exact portLost (h.congr (by simp) (by simp)) p
  · exact portLost (h.congr (by simp) (by simp)) p
  · exact h

theorem stopLens (h : s.LensesConsistent) (i : Fin 8) : (s.stopLens i).LensesConsistent :=
  h.lensEvent i Lens.keepsConsistent_portStopped

theorem disablePort (h : s.LensesConsistent) (i : Fin 8) : (s.disablePort i).LensesConsistent := by
  have habandoned : (s.abandonArrival (.cam i)).LensesConsistent := h.congr (by simp) (by simp)
  exact ((habandoned.stopLens i).loseCameraFrame i).congr (by simp [State.disablePort]) (by simp [State.disablePort])

theorem restartPort (h : s.LensesConsistent) (p : Port) : (s.restartPort p).LensesConsistent := by
  unfold State.restartPort
  dsimp only
  split
  · exact (stopLens (h.congr (by simp) (by simp)) _).portLost _
  · exact portLost (h.congr (by simp) (by simp)) _

end State.LensesConsistent

/-! ## Orders -/

/-- The effect of an order keeps the lens records and the profiles consistent. -/
def KeepsLenses (effect : State → State × Answer) : Prop := ∀ s : State, s.LensesConsistent → (effect s).1.LensesConsistent

/-- An effect that leaves the lens records and the profiles. -/
theorem KeepsLenses.of_frame {effect : State → State × Answer}
    (h : ∀ s, (effect s).1.lenses = s.lenses ∧ (effect s).1.profiles = s.profiles) : KeepsLenses effect := fun s hs => by
  obtain ⟨hl, hp⟩ := h s
  exact hs.congr hl hp

theorem keepsLenses_setPort (ps : List Byte) : KeepsLenses (setPortEffect ps) := by
  intro s hs
  unfold setPortEffect
  split
  · exact hs
  next o _ =>
  dsimp only
  split
  · exact hs
  have hstored : (s.updCam o.port (fun c => { c with
      enable := o.enable, stream := o.stream, profile := o.profile })).LensesConsistent := hs
  have henabled := fun b c [Decidable b] [Decidable c] =>
    State.LensesConsistent.ite (b := b) (hstored.disablePort o.port)
      (State.LensesConsistent.ite (b := c) (hstored.originLoss (.cam o.port)) hstored)
  exact .ite ((henabled _ _).lensEvent o.port Lens.keepsConsistent_scaleChanged) (henabled _ _)

theorem keepsLenses_restartPort (ps : List Byte) : KeepsLenses (restartPortEffect ps) := by
  intro s hs
  unfold restartPortEffect
  split
  · exact hs
  · next p _ =>
    dsimp only
    exact hs.restartPort p

theorem keepsLenses_loadStream (ps : List Byte) : KeepsLenses (loadStreamEffect ps) := .of_frame fun s => by
  unfold loadStreamEffect
  dsimp only
  (repeat' split) <;> simp

theorem keepsLenses_setChannel (ps : List Byte) : KeepsLenses (setChannelEffect ps) := .of_frame fun s => by
  unfold setChannelEffect
  dsimp only
  (repeat' split) <;> simp

theorem keepsLenses_loadView (ps : List Byte) : KeepsLenses (loadViewEffect ps) := .of_frame fun s => by
  unfold loadViewEffect
  split <;> simp

theorem keepsLenses_setScreen (ps : List Byte) : KeepsLenses (setScreenEffect ps) := .of_frame fun s => by
  unfold setScreenEffect
  dsimp only
  (repeat' split) <;> simp

theorem keepsLenses_loadTrigger (ps : List Byte) : KeepsLenses (loadTriggerEffect ps) := .of_frame fun s => by
  unfold loadTriggerEffect
  split <;> simp

theorem keepsLenses_setLines (ps : List Byte) : KeepsLenses (setLinesEffect ps) := .of_frame fun s => by simp [setLinesEffect]

theorem keepsLenses_pinView (ps : List Byte) : KeepsLenses (pinViewEffect ps) := .of_frame fun s => by
  unfold pinViewEffect
  split <;> simp

theorem keepsLenses_releaseView (ps : List Byte) : KeepsLenses (releaseViewEffect ps) := .of_frame fun s => by
  unfold releaseViewEffect
  split <;> simp

/-- A stored profile is in its ranges, and the lens records that it reaches keep theirs (R94 to R96). -/
theorem keepsLenses_loadProfile (ps : List Byte) : KeepsLenses (loadProfileEffect ps) := by
  intro s hs
  unfold loadProfileEffect
  split
  · exact hs
  next lp p clamped hread =>
  have hstored : { s with profiles := Tab.upd s.profiles lp (fun _ => p) }.LensesConsistent := by
    refine ⟨hs.1, fun q => ?_⟩
    rw [Tab.get_upd]
    split
    · exact readLoadProfile_consistent hread
    · exact hs.2 q
  dsimp only
  (repeat' split)
  · exact hstored.lensEventsOfProfile lp Lens.keepsConsistent_scaleChanged
  · exact hstored.lensEventsOfProfile lp Lens.keepsConsistent_settingsChanged
  · exact hstored

theorem keepsLenses_learn (ps : List Byte) : KeepsLenses (learnEffect ps) := by
  intro s hs
  unfold learnEffect
  split
  · exact hs
  · exact hs.lensEvent _ (Lens.keepsConsistent_startLearning (hs.profileOf _))

theorem keepsLenses_setAlert (ps : List Byte) : KeepsLenses (setAlertEffect ps) := .of_frame fun s => by
  unfold setAlertEffect
  split <;> simp

theorem keepsLenses_query (ps : List Byte) : KeepsLenses (queryEffect ps) := .of_frame fun s => by
  unfold queryEffect
  dsimp only
  (repeat' split) <;> simp

theorem keepsLenses_queryZones (ps : List Byte) : KeepsLenses (queryZonesEffect ps) := .of_frame fun s => by
  unfold queryZonesEffect
  split <;> simp

theorem keepsLenses_clearCounts (ps : List Byte) : KeepsLenses (clearCountsEffect ps) := .of_frame fun s => by
  unfold clearCountsEffect
  split
  · exact ⟨rfl, rfl⟩
  · next p _ => cases p <;> exact ⟨rfl, rfl⟩
  · exact ⟨rfl, rfl⟩
  · exact ⟨rfl, rfl⟩

/-- A BASELINES entry restores an ASSESSING record whose baselines can be judged, or takes them away (R177). -/
theorem keepsLenses_baselines (ps : List Byte) : KeepsLenses (baselinesEffect ps) := by
  intro s hs
  unfold baselinesEffect
  (repeat' split)
  · exact hs
  · exact hs.lensEvent _ Lens.keepsConsistent_forget
  · next haccepted =>
    obtain ⟨hj, hz⟩ := BaselinesEntry.accepted_spec haccepted
    exact hs.lensEvent _ (Lens.keepsConsistent_restore hj hz)
  · exact hs

theorem EntryKind.keepsLenses_effect (k : EntryKind) (ps : List Byte) : KeepsLenses (k.effect ps) := by
  cases k with
  | hub => exact .of_frame fun _ => ⟨rfl, rfl⟩
  | port => exact keepsLenses_setPort ps
  | profile => exact keepsLenses_loadProfile ps
  | baselines => exact keepsLenses_baselines ps
  | stream => exact keepsLenses_loadStream ps
  | channel => exact keepsLenses_setChannel ps
  | view => exact keepsLenses_loadView ps
  | trigger => exact keepsLenses_loadTrigger ps
  | filterTimes => exact keepsLenses_setLines _
  | screen => exact keepsLenses_setScreen ps
  | alert => exact keepsLenses_setAlert ps

namespace State.LensesConsistent

variable {s : State}

theorem onOrder (h : s.LensesConsistent) (codes : Byte → Bool) {run : Fin 2 → HeldOrder → State → State}
    (hr : ∀ i o, (run i o s).LensesConsistent) : (s.onOrder codes run).LensesConsistent := by
  unfold State.onOrder
  (repeat' split)
  · exact hr _ _
  · exact h
  · exact h

theorem carryOut (h : s.LensesConsistent) (lengthOk : Bool) {effect : State → State × Answer} (he : KeepsLenses effect) :
    (s.carryOut lengthOk effect).1.LensesConsistent := by
  unfold State.carryOut
  (repeat' split)
  · exact h
  · exact h
  · exact he s h

theorem answer (h : s.LensesConsistent) (i : Fin 2) (o : HeldOrder) (a : Answer) : (s.answer i o a).LensesConsistent := h

theorem runOrder (h : s.LensesConsistent) (code : Byte) (length : Nat) {effect : List Byte → State → State × Answer}
    (he : ∀ ps, KeepsLenses (effect ps)) : (s.runOrder code length effect).LensesConsistent :=
  h.onOrder _ fun i o => (h.carryOut _ (he o.params)).answer i o _

/-! ## The load, the SAVE job and the resets -/

theorem applyNext (h : s.LensesConsistent) : s.applyNext.LensesConsistent := by
  have happlied : ∀ e, (s.applyEntry e).LensesConsistent := fun e => by
    unfold State.applyEntry
    dsimp only
    split
    · exact h
    · exact e.kind.keepsLenses_effect _ s h
  unfold State.applyNext
  split
  · next e todo _ => exact (happlied e).congr (by simp) (by simp)
  · exact h
  · exact h
  · exact h

/-- The flash, the job and the result of the image are no part of a lens record. -/
theorem loaderEvents (h : s.LensesConsistent) : s.eraseDone.LensesConsistent ∧ s.eraseTimeout.LensesConsistent ∧
    s.pageDone.LensesConsistent ∧ s.pageTimeout.LensesConsistent ∧ ∀ answers, (s.judgeLoad answers).LensesConsistent := by
  refine ⟨?_, ?_, ?_, ?_, fun answers => ?_⟩
  · unfold State.eraseDone
    (repeat' split) <;> exact h.congr (by simp) (by simp)
  · unfold State.eraseTimeout
    (repeat' split) <;> exact h.congr (by simp) (by simp)
  · unfold State.pageDone
    dsimp only
    (repeat' split) <;> exact h.congr (by simp) (by simp)
  · unfold State.pageTimeout
    (repeat' split) <;> exact h.congr (by simp) (by simp)
  · unfold State.judgeLoad
    split <;> exact h.congr (by simp) (by simp)

/-- After a reset every lens record and every profile has its reset values (R84, R93, R99). -/
theorem takeReset (s : State) (cause : ResetCause) (tag : Option Byte) (held : Bool) (straps : BitVec 4) :
    (s.takeReset cause tag held straps).LensesConsistent := by
  refine ⟨fun i => ?_, fun p => ?_⟩
  · rw [State.takeReset, State.lens_resetWith]
    exact Lens.reset_consistent
  · rw [State.takeReset, State.resetWith, Tab.get_replicate]
    exact Profile.reset_consistent

theorem saveSettings (h : s.LensesConsistent) (i : Fin 2) (o : HeldOrder) : (s.saveSettings i o).LensesConsistent := by
  unfold State.saveSettings
  (repeat' split) <;> exact h

theorem resetHub (h : s.LensesConsistent) (i : Fin 2) (o : HeldOrder) : (s.resetHub i o).LensesConsistent := by
  unfold State.resetHub
  (repeat' split)
  · exact h
  · exact h
  · exact takeReset _ _ _ _ _

/-! ## One step -/

theorem onCommand (h : s.LensesConsistent) (c : Instr) : (s.onCommand c).LensesConsistent := by
  obtain ⟨heraseDone, heraseTimeout, hpageDone, hpageTimeout, hjudge⟩ := h.loaderEvents
  cases c with
  | powerOn straps => exact takeReset _ _ _ _ _
  | resetLineAsserted => exact takeReset _ _ _ _ _
  | resetLineReleased straps => exact h
  | framingFault p cause bytes =>
    exact h.packetOver p bytes _ (f := fun s => s.framingFault p cause bytes) fun x hx => hx.congr (by simp) (by simp)
  | lineHeader p stream frame line =>
    simp only [State.onCommand]
    split <;> exact h.congr (by simp) (by simp)
  | packetEnd p bytes => exact h.packetOver p bytes _ fun x hx => hx.packetEnd p bytes
  | poisonedArrival p bytes =>
    exact h.packetOver p bytes _ (f := fun s => s.poisonedArrival p bytes) fun x hx => hx.congr (by simp) (by simp)
  | linkUp p => exact h.congr (t := s.linkUp p) (by simp) (by simp)
  | linkDown p arrived => exact h.linkDown p arrived
  | restartHoldEnd p => exact h.congr (t := s.updRx p (fun x => { x with hold := none })) (by simp) (by simp)
  | transmissionStart u =>
    simp only [State.onCommand]
    split <;> exact h
  | transmissionEnd u => exact h.congr (t := s.transmissionEnd u) (by simp) (by simp)
  | frameAgeStale c => exact h.congr (t := s.channelEvent c Channel.ageStale) (by simp) (by simp)
  | frameAgeLost c => exact h.congr (t := s.channelEvent c Channel.ageLost) (by simp) (by simp)
  | doorLineChange d level => exact h.congr (t := s.doorChange d level) (by simp) (by simp)
  | filterWaitExpiry d => exact h.congr (t := s.filterExpiry d) (by simp) (by simp)
  | lingerExpiry n => exact h.congr (t := s.lingerExpiry n) (by simp) (by simp)
  | silenceExpiry => exact h.congr (t := s.silenceExpiry) (by simp) (by simp)
  | outputFrameStart sc => exact h.congr (t := s.frameStart sc) (by simp) (by simp)
  | pulseBoundary a => exact h
  | noticeMove => exact h.congr (t := s.moveNotice) (by simp) (by simp)
  | presence => exact h.runOrder 1 0 (effect := fun _ s => (s, .done false)) fun _ => .of_frame fun _ => ⟨rfl, rfl⟩
  | setHub => exact h.runOrder 2 2 fun _ => .of_frame fun _ => ⟨rfl, rfl⟩
  | setPort => exact h.runOrder 3 4 keepsLenses_setPort
  | restartPort => exact h.runOrder 4 1 keepsLenses_restartPort
  | loadStream => exact h.runOrder 5 8 keepsLenses_loadStream
  | setChannel => exact h.runOrder 6 6 keepsLenses_setChannel
  | loadView => exact h.onOrder _ fun i o => (h.carryOut _ (keepsLenses_loadView _)).answer i o _
  | setScreen => exact h.runOrder 8 3 keepsLenses_setScreen
  | loadTrigger => exact h.runOrder 9 10 keepsLenses_loadTrigger
  | setLines => exact h.runOrder 10 11 keepsLenses_setLines
  | pinView => exact h.runOrder 11 3 keepsLenses_pinView
  | releaseView => exact h.runOrder 12 1 keepsLenses_releaseView
  | loadProfile => exact h.runOrder 13 13 keepsLenses_loadProfile
  | learn => exact h.runOrder 14 1 keepsLenses_learn
  | setAlert => exact h.runOrder 15 9 keepsLenses_setAlert
  | query => exact h.runOrder 16 3 keepsLenses_query
  | queryZones => exact h.runOrder 17 1 keepsLenses_queryZones
  | clearCounts => exact h.runOrder 18 2 keepsLenses_clearCounts
  | saveSettings => exact h.onOrder _ fun i o => h.saveSettings i o
  | resetHub => exact h.onOrder _ fun i o => h.resetHub i o
  | badCode =>
    have he : KeepsLenses (fun s => (s, .refused .badCode)) := .of_frame fun _ => ⟨rfl, rfl⟩
    exact h.onOrder _ fun i o => (h.carryOut _ he).answer i o _
  | eraseDone => exact heraseDone
  | eraseTimeout => exact heraseTimeout
  | pageDone => exact hpageDone
  | pageTimeout => exact hpageTimeout
  | imageJudged answers => exact hjudge answers
  | imageEntryApply => exact h.applyNext

theorem onCommandHeld (h : s.LensesConsistent) (c : Instr) : (s.onCommandHeld c).LensesConsistent := by
  unfold State.onCommandHeld
  split
  · exact takeReset _ _ _ _ _
  · exact h
  · exact h
  · exact h

end State.LensesConsistent

/-- Settles O57: the hub changes a lens record by the events above alone, and a profile by LOAD-PROFILE. -/
theorem everyStepKeepsLensesConsistent : Obligations.EveryStepKeepsLensesConsistent := fun _ _ h e =>
  step_keeps (P := State.LensesConsistent) (fun _ _ hs => hs) (fun _ c _ hs => hs.onCommand c) (fun _ c _ hs => hs.onCommandHeld c)
    (fun _ hs => hs) h e

end Sys2Proof.Machine

/-! # Proofs: LOAD-PROFILE (R74, R80, R93 to R96, R145, entry 46) -/

namespace Sys2Proof.Machine

/-! ## The fields (R93, R94) -/

/-- The mark of a clamped field says that its value is another than the one given. -/
theorem clamp_flag {low high : Nat} (h : low ≤ high) (n : Nat) : (clamp low high n).flag = decide ((clamp low high n).value ≠ n) := by
  obtain ⟨hvalue, hflag⟩ := clamp_spec h n
  rw [hflag, hvalue, decide_eq_decide]
  omega

theorem clampDrift_spec (n : Nat) : (clampDrift n).value = (if n = 0 then 0 else min 8 (max 4 n)) ∧
    (clampDrift n).flag = decide ((clampDrift n).value ≠ n) := by
  unfold clampDrift
  split_ifs with h
  · simp [h]
  · exact ⟨(clamp_spec (by decide) n).1, clamp_flag (by decide) n⟩

/-- The profile that the fields of a LOAD-PROFILE give, clamped (R93, R94). -/
def givenProfile (f t h1 h2 h3 kw kb ld lg n d pm : Byte) : Profile where
  noise := min 63 f.toNat
  threshold := min 95 (max 10 t.toNat)
  h1 := min 100 (max 1 h1.toNat)
  h2 := min 100 (max 1 h2.toNat)
  h3 := min 100 (max 1 h3.toNat)
  kWorse := min 15 (max 1 kw.toNat)
  kBetter := min 63 (max 1 kb.toNat)
  dark := ld.toNat
  glare := lg.toNat
  learn := n.toNat
  drift := if d = 0 then 0 else min 8 (max 4 d.toNat)
  pair := decide (pm = 1)

/-- The relations that the fields keep after clamping, and the figures that a learning can have (R94). -/
abbrev Profile.Accepted (p : Profile) : Prop :=
  (p.learn = 4 ∨ p.learn = 8 ∨ p.learn = 16) ∧ (p.h1 < p.h2 ∧ p.h2 < p.h3) ∧ p.dark < p.glare

/-- Whether a field of a profile is another than the one given (spec 00 section 1.4.5). -/
def Profile.clamped (p : Profile) (f t h1 h2 h3 kw kb d : Byte) : Bool := decide
  (p.noise ≠ f.toNat ∨ p.threshold ≠ t.toNat ∨ p.h1 ≠ h1.toNat ∨ p.h2 ≠ h2.toNat ∨ p.h3 ≠ h3.toNat ∨ p.kWorse ≠ kw.toNat ∨
    p.kBetter ≠ kb.toNat ∨ p.drift ≠ d.toNat)

theorem flagOf_some {x : Byte} (h : x = 0 ∨ x = 1) : flagOf x.toNat = some (decide (x = 1)) := by
  rcases h with rfl | rfl <;> rfl

section
variable {b f t h1 h2 h3 kw kb ld lg n d pm : Byte}

theorem readLoadProfile_refused_flag (h : ¬(pm = 0 ∨ pm = 1)) :
    readLoadProfile [b, f, t, h1, h2, h3, kw, kb, ld, lg, n, d, pm] = none := by
  have hflag : flagOf (byteAt [b, f, t, h1, h2, h3, kw, kb, ld, lg, n, d, pm] 12) = none :=
    flagOf_none (fun hzero => h (.inl (BitVec.eq_of_toNat_eq hzero))) (fun hone => h (.inr (BitVec.eq_of_toNat_eq hone)))
  rw [readLoadProfile, hflag]
  cases instanceOf 4 (byteAt [b, f, t, h1, h2, h3, kw, kb, ld, lg, n, d, pm] 0) <;> rfl

theorem readLoadProfile_refused_profile (h : 4 ≤ b.toNat) :
    readLoadProfile [b, f, t, h1, h2, h3, kw, kb, ld, lg, n, d, pm] = none := by
  have hprofile : instanceOf 4 (byteAt [b, f, t, h1, h2, h3, kw, kb, ld, lg, n, d, pm] 0) = none := instanceOf_eq_none h
  rw [readLoadProfile, hprofile]
  rfl

/-- The fields of a LOAD-PROFILE that names a profile and a pair mode (R94). -/
theorem readLoadProfile_eq {lp : Fin 4} (hb : lp.val = b.toNat) (hpm : pm = 0 ∨ pm = 1) :
    readLoadProfile [b, f, t, h1, h2, h3, kw, kb, ld, lg, n, d, pm] =
      if (givenProfile f t h1 h2 h3 kw kb ld lg n d pm).Accepted then
        some (lp, givenProfile f t h1 h2 h3 kw kb ld lg n d pm,
          (givenProfile f t h1 h2 h3 kw kb ld lg n d pm).clamped f t h1 h2 h3 kw kb d)
      else none := by
  have hprofile : instanceOf 4 b.toNat = some lp := instanceOf_eq_some hb
  have hvalue : ∀ {low high : Nat} (k : Nat), low ≤ high → (clamp low high k).value = min high (max low k) := fun k h =>
    (clamp_spec h k).1
  have hnoise : (clamp 0 63 f.toNat).value = min 63 f.toNat := by rw [hvalue _ (by decide), Nat.zero_max]
  have hdrift : (clampDrift d.toNat).value = if d = 0 then 0 else min 8 (max 4 d.toNat) := by
    rw [(clampDrift_spec _).1]
    simp only [← BitVec.toNat_inj]
    rfl
  unfold readLoadProfile
  simp only [byteAt, List.getD_cons_zero, List.getD_cons_succ, hprofile, flagOf_some hpm, Option.bind_eq_bind, Option.bind_some,
    clamp_flag (by decide : 0 ≤ 63), clamp_flag (by decide : 10 ≤ 95), clamp_flag (by decide : 1 ≤ 100), clamp_flag (by decide : 1 ≤ 15),
    clamp_flag (by decide : 1 ≤ 63), (clampDrift_spec d.toNat).2, hnoise, hvalue _ (by decide : 10 ≤ 95), hvalue _ (by decide : 1 ≤ 100),
    hvalue _ (by decide : 1 ≤ 15), hvalue _ (by decide : 1 ≤ 63), hdrift]
  by_cases ha : (givenProfile f t h1 h2 h3 kw kb ld lg n d pm).Accepted
  · obtain ⟨hlearn, ⟨h12, h23⟩, hdark⟩ := id ha
    rw [if_pos ha, if_neg, if_pos]
    · simp only [Profile.clamped, ← Bool.decide_or, or_assoc]
      rfl
    · simp only [Bool.and_eq_true, decide_eq_true_eq]
      exact ⟨⟨h12, h23⟩, hdark⟩
    · simp only [Bool.not_eq_true', Bool.not_eq_false, Bool.or_eq_true, decide_eq_true_eq, or_assoc]
      exact hlearn
  · rw [if_neg ha]
    split_ifs with hlearn hrelations
    · rfl
    · simp only [Bool.not_eq_true', Bool.not_eq_false, Bool.or_eq_true, decide_eq_true_eq, or_assoc] at hlearn
      simp only [Bool.and_eq_true, decide_eq_true_eq] at hrelations
      exact absurd ⟨hlearn, hrelations⟩ ha
    · rfl

end

/-! ## An event at every port that names a profile (R95, R96, entry 46) -/

/-- What the events make of a part of the hub, where each makes of it what the lens record as it stood calls for. -/
theorem State.lensEventsOfProfile_fold {α : Type} (s : State) (lp : Fin 4) (f : Lens → Lens × Option LearnEnd) (g : State → α)
    (told : α → Fin 8 → α)
    (h : ∀ (x : State) (i : Fin 8), (Tab.get s.cams i).profile = lp → x.lens i = s.lens i → g (x.lensEvent i f) = told (g x) i) :
    g (s.lensEventsOfProfile lp f) =
      (List.finRange 8).foldl (fun a i => if (Tab.get s.cams i).profile = lp then told a i else a) (g s) := by
  have hfold : ∀ (l : List (Fin 8)) (x : State), l.Nodup → x.cams = s.cams → (∀ i ∈ l, x.lens i = s.lens i) →
      g (l.foldl (fun s i => if (Tab.get s.cams i).profile = lp then s.lensEvent i f else s) x) =
        l.foldl (fun a i => if (Tab.get s.cams i).profile = lp then told a i else a) (g x) := by
    intro l
    induction l with
    | nil => exact fun _ _ _ _ => rfl
    | cons i rest ih =>
      intro x hn hc hl
      obtain ⟨hi, hrest⟩ := List.nodup_cons.1 hn
      rw [List.foldl_cons, List.foldl_cons, hc]
      split
      · next hlp =>
        rw [ih _ hrest (by simp [hc]) fun j hj => ?_, h x i hlp (hl i List.mem_cons_self)]
        rw [State.lens_lensEvent_of_ne x f (ne_of_mem_of_not_mem hj hi)]
        exact hl j (List.mem_cons_of_mem i hj)
      · exact ih x hrest hc fun j hj => hl j (List.mem_cons_of_mem i hj)
  exact hfold _ s (List.nodup_finRange 8) rfl fun _ _ => rfl

theorem State.AlertsFollowMembers.lensEventsOfProfile {s : State} (h : s.AlertsFollowMembers) (lp : Fin 4)
    (f : Lens → Lens × Option LearnEnd) : (s.lensEventsOfProfile lp f).AlertsFollowMembers := by
  unfold State.lensEventsOfProfile
  refine List.foldlRecOn _ _ h fun x hx i _ => ?_
  split
  · exact hx.lensEvent i f
  · exact hx

/-- Events that leave every stated grade are seen by no alert entry (R145). -/
theorem State.alerts_lensEventsOfProfile {s : State} {lp : Fin 4} {f : Lens → Lens × Option LearnEnd}
    (h : ∀ i, ((s.lensEventsOfProfile lp f).lens i).stated = (s.lens i).stated) : (s.lensEventsOfProfile lp f).alerts = s.alerts := by
  rw [s.lensEventsOfProfile_fold lp f State.alerts (fun a _ => a) fun x i hlp hi => ?_]
  · exact List.foldl_fixed' (fun _ => ite_self _) _
  · have hstated := h i
    rw [State.lens_lensEventsOfProfile, if_pos hlp, ← hi] at hstated
    exact State.alerts_lensEvent hstated

/-! ## The profile stored, and the lens records that it reaches (R74, R95, R96) -/

/-- A changed noise floor or pair mode voids an open measure, discards the half pair, and takes the grade of an ASSESSING record (R74,
R95). -/
theorem Lens.scaleChanged_fields (l : Lens) : (∀ m, l.measure = some m → l.scaleChanged.1.measure = some { m with void := true }) ∧
    (l.state = .assessing → l.scaleChanged.1.pending = none ∧ l.scaleChanged.1.run = 0) := by
  unfold Lens.scaleChanged
  cases l.state <;> exact ⟨fun m hm => by simp [Lens.unlearn, hm], by simp⟩

theorem Lens.settingsChanged_stated (l : Lens) : l.settingsChanged.stated = l.stated := by
  unfold Lens.settingsChanged
  split <;> rfl

/-- The hub with a profile stored and the lens records told of it. -/
def State.profileLoaded (s : State) (lp : Fin 4) (p : Profile) : State :=
  let stored := { s with profiles := Tab.upd s.profiles lp (fun _ => p) }
  if (Tab.get s.profiles lp).noise ≠ p.noise ∨ (Tab.get s.profiles lp).pair ≠ p.pair then
    stored.lensEventsOfProfile lp Lens.scaleChanged
  else if Tab.get s.profiles lp ≠ p then stored.lensEventsOfProfile lp (fun l => (l.settingsChanged, none))
  else stored

theorem loadProfileEffect_refused {ps : List Byte} (h : readLoadProfile ps = none) (s : State) :
    loadProfileEffect ps s = (s, .refused .badField) := by
  rw [loadProfileEffect, h]

theorem loadProfileEffect_accepted {ps : List Byte} {lp : Fin 4} {p : Profile} {clamped : Bool}
    (h : readLoadProfile ps = some (lp, p, clamped)) (s : State) : loadProfileEffect ps s = (s.profileLoaded lp p, .done clamped) := by
  rw [loadProfileEffect, h]
  unfold State.profileLoaded
  simp only [Bool.or_eq_true, decide_eq_true_eq]

theorem State.Executes.exec_loadProfile {s : State} {i : Fin 2} {o : HeldOrder} {ps : List Byte} (h : s.Executes i o 13 ps)
    (hlen : ps.length = 13) {r : State × Answer} (hr : loadProfileEffect ps s = r) :
    exec .loadProfile s = .next (r.1.replied i o r.2) := by
  subst hr
  rw [exec_of_running h.running]
  exact congrArg _ (h.runOrder (by decide) hlen loadProfileEffect)

section
variable (s : State) (lp : Fin 4) (p : Profile)

theorem State.profileLoaded_frame :
    (s.profileLoaded lp p).cams = s.cams ∧ (s.profileLoaded lp p).trunks = s.trunks ∧ (s.profileLoaded lp p).streams = s.streams ∧
    (s.profileLoaded lp p).channels = s.channels ∧ (s.profileLoaded lp p).selector = s.selector ∧
    (s.profileLoaded lp p).screens = s.screens ∧ (s.profileLoaded lp p).views = s.views ∧ (s.profileLoaded lp p).loader = s.loader ∧
    (s.profileLoaded lp p).flash = s.flash ∧ (s.profileLoaded lp p).profiles = Tab.upd s.profiles lp (fun _ => p) := by
  unfold State.profileLoaded
  dsimp only
  (repeat' split) <;> simp

/-- A lens record after a LOAD-PROFILE. -/
theorem State.lens_profileLoaded (j : Fin 8) : (s.profileLoaded lp p).lens j =
    if (Tab.get s.cams j).profile = lp then
      if (Tab.get s.profiles lp).noise ≠ p.noise ∨ (Tab.get s.profiles lp).pair ≠ p.pair then (s.lens j).scaleChanged.1
      else if Tab.get s.profiles lp ≠ p then (s.lens j).settingsChanged else s.lens j
    else s.lens j := by
  unfold State.profileLoaded
  dsimp only
  split
  · exact State.lens_lensEventsOfProfile _ lp _ j
  split
  · exact State.lens_lensEventsOfProfile _ lp _ j
  · exact (ite_self _).symm

/-- What a changed scale tells of one lens record (R80, R92, R95). -/
def State.scaleTold (s : State) (w : OrderUnit) (j : Fin 8) : OrderUnit :=
  match (s.lens j).state with
  | .assessing => if (s.lens j).stated = .unjudged then w else w.offer (.grade j (s.lens j).stated .unjudged 0)
  | .learning => w.offer (.learnEnd j .profileChanged)
  | .unlearned => w

theorem State.scaleTold_eq {x : State} {j : Fin 8} (h : x.lens j = s.lens j) :
    (x.lensEvent j Lens.scaleChanged).orders = s.scaleTold x.orders j := by
  rw [State.orders_scaleChanged, h, State.scaleTold]
  cases (s.lens j).state <;> simp [ite_not]

/-- What a LOAD-PROFILE tells before its REPLY: of each port that names the profile, where its scale has changed (entry 46). -/
theorem State.orders_profileLoaded : (s.profileLoaded lp p).orders = (List.finRange 8).foldl (fun w j =>
    if (Tab.get s.cams j).profile = lp ∧ ((Tab.get s.profiles lp).noise ≠ p.noise ∨ (Tab.get s.profiles lp).pair ≠ p.pair) then
      s.scaleTold w j
    else w) s.orders := by
  unfold State.profileLoaded
  dsimp only
  split
  · next hscale =>
    simp only [hscale, and_true]
    exact State.lensEventsOfProfile_fold _ lp _ State.orders _ fun x j _ hj => s.scaleTold_eq hj
  next hscale =>
  have hstill : ∀ w : OrderUnit, (List.finRange 8).foldl (fun w j =>
      if (Tab.get s.cams j).profile = lp ∧ ((Tab.get s.profiles lp).noise ≠ p.noise ∨ (Tab.get s.profiles lp).pair ≠ p.pair) then
        s.scaleTold w j
      else w) w = w := fun w => List.foldl_fixed' (fun j => if_neg fun h => hscale h.2) _
  rw [hstill]
  split
  · rw [State.lensEventsOfProfile_fold _ lp _ State.orders (fun w _ => w) fun x j _ _ => ?_]
    · exact List.foldl_fixed' (fun _ => ite_self _) _
    · exact State.orders_lensEvent (x.lens j).settingsChanged_stated
  · rfl

/-- The alert entries see the grades that a LOAD-PROFILE takes, and nothing else of it (R145). -/
theorem State.alerts_profileLoaded (h : ∀ j, ((s.profileLoaded lp p).lens j).stated = (s.lens j).stated) :
    (s.profileLoaded lp p).alerts = s.alerts := by
  unfold State.profileLoaded at h ⊢
  dsimp only at h ⊢
  (repeat' split)
  · next hscale =>
    rw [if_pos hscale] at h
    exact State.alerts_lensEventsOfProfile h
  · next hscale hother =>
    rw [if_neg hscale, if_pos hother] at h
    exact State.alerts_lensEventsOfProfile h
  · rfl

theorem State.AlertsFollowMembers.profileLoaded {s : State} (h : s.AlertsFollowMembers) : (s.profileLoaded lp p).AlertsFollowMembers := by
  have hstored : { s with profiles := Tab.upd s.profiles lp (fun _ => p) }.AlertsFollowMembers :=
    h.congr rfl (fun _ => ⟨rfl, rfl⟩) fun _ => rfl
  unfold State.profileLoaded
  dsimp only
  (repeat' split)
  · exact hstored.lensEventsOfProfile lp _
  · exact hstored.lensEventsOfProfile lp _
  · exact hstored

end

/-! ## The statement -/

/-- Settles O30: the fields by `readLoadProfile_eq`, the lens records one by one, the notices port by port in the order of entry 46. -/
theorem loadProfileStoresFields : Obligations.LoadProfileStoresFields := by
  intro s i o b f t h1 h2 h3 kw kb ld lg n d pm h c1 drift bad new told
  have hnew : new = givenProfile f t h1 h2 h3 kw kb ld lg n d pm := rfl
  have hlearn : (n = 4 ∨ n = 8 ∨ n = 16) ↔ (new.learn = 4 ∨ new.learn = 8 ∨ new.learn = 16) := by
    simp only [← BitVec.toNat_inj]
    rfl
  refine ⟨fun hbad => ?_, fun hgood p hp => ?_⟩
  · refine h.exec_loadProfile rfl (r := (s, .refused .badField)) (loadProfileEffect_refused ?_ s)
    by_cases hb : 4 ≤ b.toNat
    · exact readLoadProfile_refused_profile hb
    by_cases hpm : pm = 0 ∨ pm = 1
    · have hlp : (⟨b.toNat, Nat.lt_of_not_ge hb⟩ : Fin 4).val = b.toNat := rfl
      rw [readLoadProfile_eq hlp hpm, if_neg]
      rintro ⟨hl, hrelations, hdark⟩
      rcases hbad with hbad | hbad | hbad | hbad | hbad
      · exact hb hbad
      · exact hbad (hlearn.2 hl)
      · exact hbad hpm
      · exact hbad hrelations
      · exact hbad hdark
    · exact readLoadProfile_refused_flag hpm
  · obtain ⟨hb, hn, hpm, hrelations, hdark⟩ : b.toNat < 4 ∧ (n = 4 ∨ n = 8 ∨ n = 16) ∧ (pm = 0 ∨ pm = 1) ∧
        (c1 h1 < c1 h2 ∧ c1 h2 < c1 h3) ∧ ld.toNat < lg.toNat :=
      ⟨not_le.1 fun hx => hgood (.inl hx), not_not.1 fun hx => hgood (.inr (.inl hx)), not_not.1 fun hx => hgood (.inr (.inr (.inl hx))),
        not_not.1 fun hx => hgood (.inr (.inr (.inr (.inl hx)))), not_not.1 fun hx => hgood (.inr (.inr (.inr (.inr hx))))⟩
    have hread := readLoadProfile_eq (f := f) (t := t) (h1 := h1) (h2 := h2) (h3 := h3) (kw := kw) (kb := kb) (ld := ld) (lg := lg) (n := n)
      (d := d) hp hpm
    rw [if_pos ⟨hlearn.1 hn, hrelations, hdark⟩, ← hnew] at hread
    have hexec := h.exec_loadProfile rfl (loadProfileEffect_accepted hread s)
    obtain ⟨hcams, htrunks, hstreams, hchannels, hselector, hscreens, hviews, hloader, hflash, hprofiles⟩ := s.profileLoaded_frame p new
    have hlens := s.lens_profileLoaded p new
    refine ⟨_, hexec, ?_, fun q hq => ?_, fun j hj hscale => ?_, fun j hj hnoise hpair hother => ?_, fun j hj => ?_,
      State.replied_orders_congr (s.orders_profileLoaded p new) i o _, s.alerts_profileLoaded p new,
      fun hf => (hf.profileLoaded p new).replied i o _, hcams, htrunks, hstreams, hchannels, hselector, hscreens, hviews, hloader, hflash⟩
    · exact (congrArg (Tab.get · p) hprofiles).trans (Tab.get_upd_self ..)
    · exact (congrArg (Tab.get · q) hprofiles).trans (Tab.get_upd_of_ne _ _ hq)
    · obtain ⟨hstate, hhalf, hassessing, -⟩ := (s.lens j).scaleChanged_spec
      obtain ⟨hmeasure, hsettled⟩ := (s.lens j).scaleChanged_fields
      have hscaled : (s.profileLoaded p new).lens j = (s.lens j).scaleChanged.1 := (hlens j).trans ((if_pos hj).trans (if_pos hscale))
      simp only [State.lens_congr (State.replied_frame ..).2.2.2.2.1, hscaled]
      exact ⟨hstate, hhalf, hmeasure, fun ha => ⟨(hassessing ha).1, (hassessing ha).2, hsettled ha⟩⟩
    · have hscale : ¬((Tab.get s.profiles p).noise ≠ new.noise ∨ (Tab.get s.profiles p).pair ≠ new.pair) :=
        not_or.2 ⟨not_not.2 hnoise, not_not.2 hpair⟩
      exact (hlens j).trans ((if_pos hj).trans ((if_neg hscale).trans (if_pos hother)))
    · refine (hlens j).trans ?_
      rcases hj with hj | hsame
      · exact if_neg hj
      · rw [hsame]
        simp

end Sys2Proof.Machine

/-! # Proofs: every step keeps the view selector current (R100, R101, R104, R106, R112, R116, R171)

While the hub runs, every change of a door line, an entry, a pin or a default view is followed by the move of the entries and the
recomputation that its rule asks for. While the hub is held in reset, every block stands at its reset values, and so does the selector. -/

namespace Sys2Proof.Machine

/-! ## The reset values (R116, R171) -/

section
variable {s : State} {cause : ResetCause}

theorem State.resetWith_atReset (cause : ResetCause) (tag : Option Byte) (held : Bool) (straps : BitVec 4) (raw : Vector Bool 8)
    (flash : Flash) (n : Nat) (l : List Instr) : (State.resetWith cause tag held straps raw flash n l).AtReset cause where
  cameras _ := Tab.get_replicate ..
  trunks t := by cases t <;> rfl
  streams := State.streamRec_resetWith cause tag held straps raw flash n l
  channels := State.channel_resetWith cause tag held straps raw flash n l
  lenses := State.lens_resetWith cause tag held straps raw flash n l
  profiles _ := Tab.get_replicate ..
  doors d := by
    rw [State.door_resetWith]
    exact ⟨rfl, rfl, rfl, rfl⟩
  virtualLines := rfl
  triggers := State.trigger_resetWith cause tag held straps raw flash n l
  pins _ := Tab.get_replicate ..
  chosen _ := Tab.get_replicate ..
  screens := State.screen_resetWith cause tag held straps raw flash n l
  views _ := Tab.get_replicate ..
  alerts _ := Tab.get_replicate ..
  slots _ := Tab.get_replicate ..
  queue := rfl
  side := rfl
  silence := ⟨rfl, rfl, rfl⟩
  counts := ⟨rfl, rfl⟩
  cause := rfl
  number := rfl
  image := ⟨rfl, rfl⟩
  loader := ⟨rfl, rfl⟩

theorem State.takeReset_atReset (s : State) (cause : ResetCause) (tag : Option Byte) (held : Bool) (straps : BitVec 4) :
    (s.takeReset cause tag held straps).AtReset cause := State.resetWith_atReset ..

/-- At the end of a line reset every block is still at its reset values, with the strap levels just read (R171, R172). -/
theorem State.AtReset.exitReset (h : s.AtReset cause) (straps : BitVec 4) : (s.exitReset straps).AtReset cause :=
  { h with
    doors := fun d => by
      have hd : (s.exitReset straps).door d = .reset (Tab.get (s.selector.doors.map DoorLine.raw) d) := Tab.get_map ..
      rw [hd]
      exact ⟨rfl, rfl, rfl, rfl⟩
    virtualLines := rfl
    triggers := fun _ => Tab.get_replicate ..
    pins := fun _ => Tab.get_replicate ..
    chosen := fun _ => Tab.get_replicate ..
    number := rfl }

/-- A door line of a held hub moves with its pin (R116, entry 37). -/
theorem State.AtReset.doorFollows (h : s.AtReset cause) (d : Fin 8) (level : Bool) :
    (s.updDoor d (fun l => { l with raw := level, filtered := level })).AtReset cause :=
  { h with
    doors := fun e => by
      by_cases he : e = d
      · obtain ⟨-, hrest⟩ := h.doors d
        rw [he, State.door_updDoor_self]
        exact ⟨rfl, hrest⟩
      · rw [State.door_updDoor_of_ne _ _ he]
        exact h.doors e }

/-- At reset no timer runs, so that a millisecond changes nothing. -/
theorem State.AtReset.tick (h : s.AtReset cause) : s.tick.AtReset cause :=
  { h with
    cameras := fun i => (Tab.get_map ..).trans (by rw [h.cameras]; rfl)
    trunks := fun t => by
      have ht : s.tick.trunks.get t = (s.trunks.get t).tick := by cases t <;> rfl
      rw [ht, h.trunks]
      rfl
    channels := fun c => (Tab.get_map ..).trans (by rw [← State.channel, h.channels]; rfl)
    doors := fun d => by
      obtain ⟨hlevel, htime, hwait, hstop⟩ := h.doors d
      have hd : s.tick.door d = { s.door d with wait := (s.door d).wait.map (· + 1) } := Tab.get_map ..
      rw [hd, hwait]
      exact ⟨hlevel, htime, rfl, hstop⟩
    triggers := fun t => (Tab.get_map ..).trans (by rw [← State.trigger, h.triggers]; rfl)
    screens := fun sc => (Tab.get_ofFn ..).trans (by rw [State.tickScreen, h.screens]; rfl)
    alerts := fun a => (Tab.get_map ..).trans (by rw [h.alerts]; rfl)
    silence := by
      obtain ⟨htime, htimer, hstopped⟩ := h.silence
      exact ⟨htime, congrArg (Option.map (· - 1)) htimer, hstopped⟩
    loader := by
      obtain ⟨hphase, hjob⟩ := h.loader
      exact ⟨hphase, congrArg (Option.map _) hjob⟩ }

theorem State.AtReset.triggersFollowVector (h : s.AtReset cause) : s.TriggersFollowVector := fun t => by
  rw [h.triggers]
  exact ⟨nofun, fun _ => rfl⟩

theorem State.AtReset.chosenViewsCurrent (h : s.AtReset cause) : s.ChosenViewsCurrent := fun sc => by
  have ht : s.selector.triggers = Vector.replicate 16 .reset :=
    Tab.ext_get fun t => (h.triggers t).trans (Tab.get_replicate ..).symm
  rw [ht, h.pins, h.screens, h.chosen, chooseView_reset]

theorem State.AtReset.filterWaitsRun (h : s.AtReset cause) : s.FilterWaitsRun := fun d => by
  obtain ⟨hlevel, -, hwait, -⟩ := h.doors d
  rw [hwait, hlevel]
  exact ⟨nofun, fun hne => absurd rfl hne⟩

end

/-! ## One door line, one entry, one screen -/

/-- The filter wait of a line runs exactly while its levels differ (R100, R101). -/
def DoorLine.WaitRuns (l : DoorLine) : Prop := l.wait.isSome = true ↔ l.raw ≠ l.filtered

theorem State.filterWaitsRun_iff (s : State) : s.FilterWaitsRun ↔ ∀ d, (s.door d).WaitRuns := Iff.rfl

theorem DoorLine.waitRuns_of_stopped {l : DoorLine} (hw : l.wait = none) (hl : l.raw = l.filtered) : l.WaitRuns := by
  simp [DoorLine.WaitRuns, hw, hl]

theorem DoorLine.rawChange_waitRuns (level : Bool) (l : DoorLine) : (l.rawChange level).WaitRuns := by
  unfold DoorLine.rawChange
  split
  · next hne => simp [DoorLine.WaitRuns, hne]
  · next heq => exact DoorLine.waitRuns_of_stopped rfl (not_not.1 heq)

theorem DoorLine.rawChange_filtered (level : Bool) (l : DoorLine) : (l.rawChange level).filtered = l.filtered := by
  unfold DoorLine.rawChange
  split <;> rfl

/-- The line vector stands while the filtered levels do (R103). -/
theorem State.lineVector_updDoor (s : State) {d : Fin 8} {f : DoorLine → DoorLine} (hf : (f (s.door d)).filtered = (s.door d).filtered) :
    (s.updDoor d f).selector.lineVector = s.selector.lineVector :=
  Selector.lineVector_congr rfl fun e => by
    change ((s.updDoor d f).door e).filtered = (s.door e).filtered
    by_cases he : e = d
    · rw [he, State.door_updDoor_self, hf]
    · rw [State.door_updDoor_of_ne _ _ he]

/-- A change of a line that is none. -/
theorem State.updDoor_id (s : State) (d : Fin 8) : s.updDoor d (fun l => l) = s := by
  rw [State.updDoor, Tab.upd_same _ _ _ rfl]

/-- An entry stands as a line vector has it (R104, R106). -/
def Trigger.Follows (t : Trigger) (vector : BitVec 16) : Prop :=
  (t.enable = true → (t.state = .active ↔ t.holds vector = true)) ∧ (t.enable = false → t.state = .idle)

theorem State.triggersFollowVector_iff (s : State) : s.TriggersFollowVector ↔ ∀ n, (s.trigger n).Follows s.selector.lineVector := Iff.rfl

theorem State.trigger_updTrigger (s : State) (n m : Fin 16) (f : Trigger → Trigger) :
    (s.updTrigger n f).trigger m = if m = n then f (s.trigger n) else s.trigger m := Tab.get_upd ..

/-- An entry that was IDLE before its evaluation stands as the vector has it after it (R105). -/
theorem Trigger.evaluate_follows {t : Trigger} (h : t.enable = false → t.state = .idle) (v : BitVec 16) : (t.evaluate v).Follows v := by
  obtain ⟨hsettings, hdisabled, henabled, -⟩ := t.evaluate_spec v
  have hen : (t.evaluate v).enable = t.enable := by rw [hsettings]
  have hholds : (t.evaluate v).holds v = t.holds v := by rw [hsettings]; rfl
  rw [Trigger.Follows, hen, hholds]
  exact ⟨henabled, fun he => by rw [hdisabled he]; exact h he⟩

/-- An entry whose linger goes on stands as it did (R107). -/
theorem Trigger.Follows.lingers {t : Trigger} {v : BitVec 16} (h : t.Follows v) : { t with state := t.state.tick }.Follows v := by
  obtain ⟨henabled, hdisabled⟩ := h
  refine ⟨fun he => Iff.trans ?_ (henabled he), fun he => by rw [hdisabled he]; rfl⟩
  cases t.state <;> simp [TriggerState.tick]

/-- An entry in LINGER that becomes IDLE stands as the vector has it (R107). -/
theorem Trigger.Follows.lingerOver {t : Trigger} {v : BitVec 16} {ms : Nat} (h : t.Follows v) (hms : t.state = .linger ms) :
    { t with state := .idle }.Follows v := by
  obtain ⟨henabled, -⟩ := h
  refine ⟨fun he => Iff.trans ?_ (henabled he), fun _ => rfl⟩
  rw [hms]
  exact ⟨nofun, nofun⟩

/-- Which entries claim a screen does not change while their lingers go on (R112). -/
theorem chooseView_lingers (triggers : Vector Trigger 16) (sc : Fin 2) (pin : Option Pin) (v : Fin 32) :
    chooseView (triggers.map (fun t => { t with state := t.state.tick })) sc pin v = chooseView triggers sc pin v := by
  have hclaims : ∀ t : Trigger, ({ t with state := t.state.tick } : Trigger).claims sc = t.claims sc := fun t => by
    cases h : t.state <;> simp [Trigger.claims, TriggerState.tick, h]
  have hbest : bestEntry (triggers.map (fun t => { t with state := t.state.tick })) sc = bestEntry triggers sc := by
    unfold bestEntry betterEntry
    simp only [Tab.get_map, hclaims]
  unfold chooseView
  rw [hbest]
  simp only [Tab.get_map]

/-- The chosen view record of one screen is what R112 gives. -/
def State.ChosenCurrent (s : State) (sc : Fin 2) : Prop :=
  Tab.get s.selector.chosen sc = chooseView s.selector.triggers sc (Tab.get s.selector.pins sc) (s.screen sc).defaultView

theorem State.chosenViewsCurrent_iff (s : State) : s.ChosenViewsCurrent ↔ ∀ sc, s.ChosenCurrent sc := Iff.rfl

/-- A recomputation makes its screen's record current, and leaves the other's (R112). -/
theorem State.recompute_chosenViewsCurrent {s : State} (sc : Fin 2) (hother : ∀ sd, sd ≠ sc → s.ChosenCurrent sd) :
    (s.recompute sc).ChosenViewsCurrent := fun sd => by
  have hscreen : (s.recompute sc).screen sd = s.screen sd := State.screen_congr (by simp) sd
  rw [hscreen, State.recompute_selector]
  dsimp only
  rw [Tab.get_upd]
  split
  · next hd => rw [hd]
  · next hd => exact hother sd hd

theorem State.defaultView_disableScreen (s : State) (sc sd : Fin 2) :
    ((s.disableScreen sc).screen sd).defaultView = (s.screen sd).defaultView := by
  rw [State.disableScreen_eq]
  by_cases hd : sd = sc
  · rw [hd, State.screen_updScreen_self, State.screen_slotsMoved]
  · rw [State.screen_updScreen_of_ne _ _ hd, State.screen_slotsMoved_of_ne _ _ _ _ _ hd]

/-! ## The silence timer (R111) -/

/-- The hub with its silence timer expired and both pins absent, before the recomputation (R111). -/
def State.silenced (s : State) : State :=
  { s.updHub (fun h => { h with silenceTimer := none, silenceStopped := 0 }) with
    selector := { s.selector with pins := Vector.replicate 2 none } }

theorem State.silenceExpiry_stopped {s : State} (h : s.orders.hub.silenceTimer = none) : s.silenceExpiry = s := by
  rw [State.silenceExpiry, h]

theorem State.silenceExpiry_running {s : State} (h : s.orders.hub.silenceTimer.isSome = true) :
    s.silenceExpiry = s.silenced.recomputeBoth.offer (.silence s.selector.pinnedScreens) := by
  obtain ⟨ms, hms⟩ := Option.isSome_iff_exists.1 h
  rw [State.silenceExpiry, hms]
  rfl

/-! ## The selector of a hub that runs -/

/-- The hub runs, and its selector is current. -/
structure State.SelectorRuns (s : State) : Prop where
  running : s.held = false
  triggers : s.TriggersFollowVector
  chosen : s.ChosenViewsCurrent
  waits : s.FilterWaitsRun

theorem State.AtReset.selectorRuns {s : State} {cause : ResetCause} (h : s.AtReset cause) (hrun : s.held = false) : s.SelectorRuns :=
  ⟨hrun, h.triggersFollowVector, h.chosenViewsCurrent, h.filterWaitsRun⟩

namespace State.SelectorRuns

variable {s t : State}

theorem follows (h : s.SelectorRuns) (n : Fin 16) : (s.trigger n).Follows s.selector.lineVector := h.triggers n

/-- What the selector and the default views decide. -/
theorem of_defaultViews (h : s.SelectorRuns) (hs : t.selector = s.selector)
    (hx : ∀ sc, (t.screen sc).defaultView = (s.screen sc).defaultView) (hh : t.held = s.held) : t.SelectorRuns where
  running := hh.trans h.running
  triggers := h.triggers.congr (fun n => by rw [State.trigger, hs, ← State.trigger]) (by rw [hs])
  chosen := h.chosen.congr hs hx
  waits := fun d => by
    rw [State.door, hs, ← State.door]
    exact h.waits d

theorem of_frame (h : s.SelectorRuns) (hs : t.selector = s.selector) (hx : t.screens = s.screens) (hh : t.held = s.held) :
    t.SelectorRuns := h.of_defaultViews hs (fun sc => by rw [State.screen_congr hx]) hh

/-- A door line changed in all but its filtered level. -/
theorem updDoor (h : s.SelectorRuns) {d : Fin 8} {f : DoorLine → DoorLine} (hf : (f (s.door d)).filtered = (s.door d).filtered)
    (hw : (f (s.door d)).WaitRuns) : (s.updDoor d f).SelectorRuns where
  running := h.running
  triggers := h.triggers.congr (fun _ => rfl) (s.lineVector_updDoor hf)
  chosen := fun sc => h.chosen sc
  waits := (State.filterWaitsRun_iff _).2 fun e => by
    by_cases he : e = d
    · rw [he, State.door_updDoor_self]
      exact hw
    · rw [State.door_updDoor_of_ne _ _ he]
      exact h.waits e

/-- A door line whose raw level and wait have changed takes the raw level as its filtered level (R100, R101, R106, R112). -/
theorem setFiltered (h : s.SelectorRuns) {d : Fin 8} {f : DoorLine → DoorLine} (hf : (f (s.door d)).filtered = (s.door d).filtered)
    {level : Bool} (hraw : (f (s.door d)).raw = level) (stop : Nat) : ((s.updDoor d f).setFiltered d level stop).SelectorRuns := by
  obtain ⟨hself, hother, -, -, hfollow, hchosen, -⟩ := (s.updDoor d f).setFiltered_spec d level stop
  refine ⟨by simp [h.running], hfollow (h.triggers.congr (fun _ => rfl) (s.lineVector_updDoor hf)), hchosen fun sc => h.chosen sc,
    (State.filterWaitsRun_iff _).2 fun e => ?_⟩
  by_cases he : e = d
  · rw [he, hself, State.door_updDoor_self]
    exact DoorLine.waitRuns_of_stopped rfl hraw
  · rw [hother e he, State.door_updDoor_of_ne _ _ he]
    exact h.waits e

theorem doorChange (h : s.SelectorRuns) (d : Fin 8) (level : Bool) : (s.doorChange d level).SelectorRuns := by
  unfold State.doorChange
  dsimp only
  split
  · exact h
  split
  · exact h.setFiltered rfl rfl _
  · exact h.updDoor (DoorLine.rawChange_filtered level _) (DoorLine.rawChange_waitRuns level _)

theorem filterExpiry (h : s.SelectorRuns) (d : Fin 8) : (s.filterExpiry d).SelectorRuns := by
  unfold State.filterExpiry
  split
  · have hset := h.setFiltered (d := d) (f := fun l => l) rfl rfl (max ‹Nat› (s.door d).filterTime)
    rwa [State.updDoor_id] at hset
  · exact h

theorem setFilterTime (h : s.SelectorRuns) (d : Fin 8) (time : Nat) : (s.setFilterTime d time).SelectorRuns := by
  have htime : (s.updDoor d (fun l => { l with filterTime := time })).SelectorRuns := h.updDoor rfl (h.waits d)
  unfold State.setFilterTime
  dsimp only
  (repeat' split)
  · exact h.setFiltered rfl (by rw [State.door_updDoor_self]) _
  · exact htime
  · exact htime

/-- The virtual lines change, and the entries and the chosen views follow (R103, R106, R112). -/
theorem virtualChanged (h : s.SelectorRuns) (v : BitVec 8) :
    { s with selector := { s.selector with virtual := v } }.vectorChanged.SelectorRuns := by
  obtain ⟨hdoors, -, -, -, hchosen⟩ := { s with selector := { s.selector with virtual := v } }.vectorChanged_spec
  refine ⟨by simp [h.running], State.vectorChanged_follows _ fun t => (h.triggers t).2, hchosen fun sc => h.chosen sc, fun d => ?_⟩
  rw [State.door, hdoors]
  exact h.waits d

theorem setLines (h : s.SelectorRuns) (o : SetLines) : (s.setLines o).SelectorRuns := by
  have htimes : ∀ x : State, x.SelectorRuns → (x.setFilterTimes o.filterMask o.times).SelectorRuns := fun x hx =>
    List.foldlRecOn _ _ hx fun y hy d _ => by
      split
      · exact hy.setFilterTime d _
      · exact hy
  unfold State.setLines
  dsimp only
  split
  · exact htimes _ (h.virtualChanged _)
  · exact htimes _ h

/-- A recomputation of both views is all that the chosen views ask for (R112). -/
theorem of_recomputeBoth (hrun : s.held = false) (ht : s.TriggersFollowVector) (hw : s.FilterWaitsRun) :
    s.recomputeBoth.SelectorRuns := by
  obtain ⟨hdoors, hvirtual, htriggers, -, hchosen⟩ := s.recomputeBoth_spec
  refine ⟨by simp [hrun], ht.congr (fun n => by rw [State.trigger, htriggers, ← State.trigger])
    (Selector.lineVector_congr hvirtual fun d => by rw [hdoors]), hchosen, fun d => ?_⟩
  rw [State.door, hdoors]
  exact hw d

/-- A recomputation of one view, where the other is current (R112). -/
theorem of_recompute {sc : Fin 2} (hrun : s.held = false) (ht : s.TriggersFollowVector) (hw : s.FilterWaitsRun)
    (hother : ∀ sd, sd ≠ sc → s.ChosenCurrent sd) : (s.recompute sc).SelectorRuns := by
  have hselector := s.recompute_selector sc
  refine ⟨by simp [hrun], ht.congr (fun n => by rw [State.trigger, hselector, ← State.trigger])
    (Selector.lineVector_congr (by rw [hselector]) fun d => by rw [hselector]), State.recompute_chosenViewsCurrent sc hother, fun d => ?_⟩
  rw [State.door, hselector]
  exact hw d

/-- An entry changed to one that stands as the vector has it, with the recomputation of both views (R104, R112). -/
theorem updTrigger (h : s.SelectorRuns) (n : Fin 16) {f : Trigger → Trigger} (hf : (f (s.trigger n)).Follows s.selector.lineVector) :
    (s.updTrigger n f).recomputeBoth.SelectorRuns := by
  refine of_recomputeBoth h.running ((State.triggersFollowVector_iff _).2 fun m => ?_) h.waits
  rw [State.trigger_updTrigger]
  split
  · exact hf
  · exact h.triggers m

theorem lingerExpiry (h : s.SelectorRuns) (n : Fin 16) : (s.lingerExpiry n).SelectorRuns := by
  unfold State.lingerExpiry
  split
  · next hms => exact h.updTrigger n ((h.follows n).lingerOver hms)
  · exact h
  · exact h

theorem setPin (h : s.SelectorRuns) (sc : Fin 2) (pin : Option Pin) : (s.setPin sc pin).SelectorRuns := by
  unfold State.setPin
  refine of_recompute h.running h.triggers h.waits fun sd hd => ?_
  rw [State.ChosenCurrent, Tab.get_upd_of_ne _ _ hd]
  exact h.chosen sd

theorem silenceExpiry (h : s.SelectorRuns) : s.silenceExpiry.SelectorRuns := by
  cases ht : s.orders.hub.silenceTimer with
  | none => rwa [State.silenceExpiry_stopped ht]
  | some ms =>
    have hsilenced : s.silenced.recomputeBoth.SelectorRuns := of_recomputeBoth h.running h.triggers h.waits
    rw [State.silenceExpiry_running (by rw [ht]; rfl)]
    exact hsilenced.of_frame (State.offer_selector ..) (State.offer_screens ..) (State.offer_held ..)

/-! ## Screens (R118 to R120) -/

theorem disableScreen (h : s.SelectorRuns) (sc : Fin 2) : (s.disableScreen sc).SelectorRuns :=
  h.of_defaultViews (by simp) (s.defaultView_disableScreen sc) (by simp)

theorem beginFrame (h : s.SelectorRuns) (sc : Fin 2) : (s.updScreen sc Screen.beginFrame).SelectorRuns :=
  h.of_defaultViews rfl (fun sd => by
    by_cases hd : sd = sc
    · rw [hd, State.screen_updScreen_self]
      rfl
    · rw [State.screen_updScreen_of_ne _ _ hd]) rfl

theorem frameStart (h : s.SelectorRuns) (sc : Fin 2) : (s.frameStart sc).SelectorRuns := by
  unfold State.frameStart
  dsimp only
  split
  · exact h.beginFrame sc
  · refine (h.beginFrame sc).of_defaultViews (by simp) (fun sd => ?_) (by simp)
    by_cases hd : sd = sc
    · rw [hd, State.screen_composeFrame]
    · rw [State.screen_composeFrame_of_ne _ hd]

/-- A stored default view is a recomputation of the chosen view where it changed (R112, R119). -/
theorem screenStored (h : s.SelectorRuns) (sc : Fin 2) (enable : Bool) (w : Fin 32) : (s.screenStored sc enable w).SelectorRuns := by
  unfold State.screenStored
  dsimp only
  split
  · refine of_recompute h.running h.triggers h.waits fun sd hd => ?_
    rw [State.ChosenCurrent, State.screen_updScreen_of_ne _ _ hd]
    exact h.chosen sd
  · next hsame =>
    refine h.of_defaultViews rfl (fun sd => ?_) rfl
    by_cases hd : sd = sc
    · rw [hd, State.screen_updScreen_self]
      exact (not_not.1 hsame).symm
    · rw [State.screen_updScreen_of_ne _ _ hd]

theorem screenSet (h : s.SelectorRuns) (sc : Fin 2) (enable : Bool) (w : Fin 32) : (s.screenSet sc enable w).SelectorRuns := by
  unfold State.screenSet
  split
  · exact (h.screenStored sc enable w).disableScreen sc
  · exact h.screenStored sc enable w

/-- A millisecond moves the waits and the lingers on, and starts or ends none (R100, R107). -/
theorem tick (h : s.SelectorRuns) : s.tick.SelectorRuns := by
  have htrigger : ∀ n, s.tick.trigger n = { s.trigger n with state := (s.trigger n).state.tick } := fun n => Tab.get_map ..
  have hdoor : ∀ d, s.tick.door d = { s.door d with wait := (s.door d).wait.map (· + 1) } := fun d => Tab.get_map ..
  have hvector : s.tick.selector.lineVector = s.selector.lineVector :=
    Selector.lineVector_congr rfl fun d => (congrArg DoorLine.filtered (hdoor d) :)
  have hscreen : ∀ sc, (s.tick.screen sc).defaultView = (s.screen sc).defaultView := fun sc =>
    (congrArg Screen.defaultView (Tab.get_ofFn _ sc) :)
  refine ⟨h.running, (State.triggersFollowVector_iff _).2 fun n => ?_, fun sc => ?_, fun d => ?_⟩
  · rw [htrigger, hvector]
    exact (h.follows n).lingers
  · rw [hscreen]
    exact (h.chosen sc).trans (chooseView_lingers ..).symm
  · rw [hdoor, Option.isSome_map]
    exact h.waits d

/-! ## Orders -/

theorem answer (h : s.SelectorRuns) (i : Fin 2) (o : HeldOrder) (a : Answer) : (s.answer i o a).SelectorRuns := h.of_frame rfl rfl rfl

theorem onOrder (h : s.SelectorRuns) (codes : Byte → Bool) {run : Fin 2 → HeldOrder → State → State}
    (hr : ∀ i o, (run i o s).SelectorRuns) : (s.onOrder codes run).SelectorRuns := by
  unfold State.onOrder
  (repeat' split)
  · exact hr _ _
  · exact h
  · exact h

end State.SelectorRuns

/-- The effect of an order keeps the selector of a running hub current. -/
def KeepsSelector (effect : State → State × Answer) : Prop := ∀ s : State, s.SelectorRuns → (effect s).1.SelectorRuns

/-- An effect that leaves the selector and the screens. -/
theorem KeepsSelector.of_frame {effect : State → State × Answer} (h : ∀ s, (effect s).1.selector = s.selector ∧
    (effect s).1.screens = s.screens ∧ (effect s).1.held = s.held) : KeepsSelector effect := fun s hs => by
  obtain ⟨hv, hx, hh⟩ := h s
  exact hs.of_frame hv hx hh

theorem keepsSelector_setPort (ps : List Byte) : KeepsSelector (setPortEffect ps) := .of_frame fun s => by
  unfold setPortEffect
  dsimp only
  (repeat' split) <;> simp

theorem keepsSelector_restartPort (ps : List Byte) : KeepsSelector (restartPortEffect ps) := .of_frame fun s => by
  unfold restartPortEffect
  split <;> simp

theorem keepsSelector_loadStream (ps : List Byte) : KeepsSelector (loadStreamEffect ps) := .of_frame fun s => by
  unfold loadStreamEffect
  dsimp only
  (repeat' split) <;> simp

theorem keepsSelector_setChannel (ps : List Byte) : KeepsSelector (setChannelEffect ps) := .of_frame fun s => by
  unfold setChannelEffect
  dsimp only
  (repeat' split) <;> simp

theorem keepsSelector_loadView (ps : List Byte) : KeepsSelector (loadViewEffect ps) := .of_frame fun s => by
  unfold loadViewEffect
  split <;> exact ⟨rfl, rfl, rfl⟩

theorem keepsSelector_setScreen (ps : List Byte) : KeepsSelector (setScreenEffect ps) := fun s hs => by
  cases hread : readSetScreen ps with
  | none => rwa [setScreenEffect, hread]
  | some o =>
    obtain ⟨sc, enable, w⟩ := o
    rw [setScreenEffect_some hread]
    exact hs.screenSet sc enable w

theorem keepsSelector_clearCounts (ps : List Byte) : KeepsSelector (clearCountsEffect ps) := .of_frame fun s => by
  unfold clearCountsEffect
  split
  · exact ⟨rfl, rfl, rfl⟩
  · next p _ => cases p <;> exact ⟨rfl, rfl, rfl⟩
  · exact ⟨rfl, rfl, rfl⟩
  · exact ⟨rfl, rfl, rfl⟩

/-- An entry that LOAD-TRIGGER writes is IDLE before it is evaluated (R105). -/
theorem readLoadTrigger_idle {ps : List Byte} {n : Fin 16} {t : Trigger} {clamped : Bool}
    (h : readLoadTrigger ps = some (n, t, clamped)) : t.state = .idle := by
  simp only [readLoadTrigger, Option.bind_eq_bind, Option.bind_eq_some_iff] at h
  obtain ⟨_, -, _, -, _, -, h⟩ := h
  split at h
  · cases h
  · cases h
    rfl

theorem keepsSelector_loadTrigger (ps : List Byte) : KeepsSelector (loadTriggerEffect ps) := fun s hs => by
  unfold loadTriggerEffect
  split
  · exact hs
  · next hread => exact hs.updTrigger _ (Trigger.evaluate_follows (fun _ => readLoadTrigger_idle hread) _)

theorem keepsSelector_setLines (ps : List Byte) : KeepsSelector (setLinesEffect ps) := fun _ hs => hs.setLines _

theorem keepsSelector_pinView (ps : List Byte) : KeepsSelector (pinViewEffect ps) := fun s hs => by
  unfold pinViewEffect
  split
  · exact hs
  · exact hs.setPin _ _

theorem keepsSelector_releaseView (ps : List Byte) : KeepsSelector (releaseViewEffect ps) := fun s hs => by
  unfold releaseViewEffect
  split
  · exact hs
  · exact hs.setPin _ _

theorem keepsSelector_loadProfile (ps : List Byte) : KeepsSelector (loadProfileEffect ps) := .of_frame fun s => by
  unfold loadProfileEffect
  dsimp only
  (repeat' split) <;> simp

theorem keepsSelector_learn (ps : List Byte) : KeepsSelector (learnEffect ps) := .of_frame fun s => by
  unfold learnEffect
  split <;> simp

theorem keepsSelector_setAlert (ps : List Byte) : KeepsSelector (setAlertEffect ps) := .of_frame fun s => by
  unfold setAlertEffect
  split <;> simp

theorem keepsSelector_query (ps : List Byte) : KeepsSelector (queryEffect ps) := .of_frame fun s => by
  unfold queryEffect
  dsimp only
  (repeat' split) <;> simp

theorem keepsSelector_queryZones (ps : List Byte) : KeepsSelector (queryZonesEffect ps) := .of_frame fun s => by
  unfold queryZonesEffect
  split <;> simp

theorem keepsSelector_baselines (ps : List Byte) : KeepsSelector (baselinesEffect ps) := .of_frame fun s => by
  unfold baselinesEffect
  (repeat' split) <;> simp

theorem EntryKind.keepsSelector_effect (k : EntryKind) (ps : List Byte) : KeepsSelector (k.effect ps) := by
  cases k with
  | hub => exact .of_frame fun _ => ⟨rfl, rfl, rfl⟩
  | port => exact keepsSelector_setPort ps
  | profile => exact keepsSelector_loadProfile ps
  | baselines => exact keepsSelector_baselines ps
  | stream => exact keepsSelector_loadStream ps
  | channel => exact keepsSelector_setChannel ps
  | view => exact keepsSelector_loadView ps
  | trigger => exact keepsSelector_loadTrigger ps
  | filterTimes => exact keepsSelector_setLines _
  | screen => exact keepsSelector_setScreen ps
  | alert => exact keepsSelector_setAlert ps

namespace State.SelectorRuns

variable {s : State}

theorem carryOut (h : s.SelectorRuns) (lengthOk : Bool) {effect : State → State × Answer} (he : KeepsSelector effect) :
    (s.carryOut lengthOk effect).1.SelectorRuns := by
  unfold State.carryOut
  (repeat' split)
  · exact h
  · exact h
  · exact he s h

theorem runOrder (h : s.SelectorRuns) (code : Byte) (length : Nat) {effect : List Byte → State → State × Answer}
    (he : ∀ ps, KeepsSelector (effect ps)) : (s.runOrder code length effect).SelectorRuns :=
  h.onOrder _ fun i o => (h.carryOut _ (he o.params)).answer i o _

/-! ## The load, the SAVE job and the resets -/

theorem applyNext (h : s.SelectorRuns) : s.applyNext.SelectorRuns := by
  have happlied : ∀ e, (s.applyEntry e).SelectorRuns := fun e => by
    unfold State.applyEntry
    dsimp only
    split
    · exact h.of_frame rfl rfl rfl
    · exact e.kind.keepsSelector_effect _ s h
  unfold State.applyNext
  split
  · next e todo _ => exact (happlied e).of_frame (by simp) (by simp) (by simp)
  · exact h
  · exact h
  · exact h

/-- The flash, the job and the result of the image are no part of the selector. -/
theorem loaderEvents (h : s.SelectorRuns) : s.eraseDone.SelectorRuns ∧ s.eraseTimeout.SelectorRuns ∧ s.pageDone.SelectorRuns ∧
    s.pageTimeout.SelectorRuns ∧ ∀ answers, (s.judgeLoad answers).SelectorRuns := by
  refine ⟨?_, ?_, ?_, ?_, fun answers => ?_⟩
  · unfold State.eraseDone
    (repeat' split) <;> exact h.of_frame (by simp) (by simp) (by simp)
  · unfold State.eraseTimeout
    (repeat' split) <;> exact h.of_frame (by simp) (by simp) (by simp)
  · unfold State.pageDone
    dsimp only
    (repeat' split) <;> exact h.of_frame (by simp) (by simp) (by simp)
  · unfold State.pageTimeout
    (repeat' split) <;> exact h.of_frame (by simp) (by simp) (by simp)
  · unfold State.judgeLoad
    split <;> exact h.of_frame (by simp) (by simp) (by simp)

/-- A reset that ends at once (R171). -/
theorem takeReset (s : State) (cause : ResetCause) (tag : Option Byte) (straps : BitVec 4) :
    (s.takeReset cause tag false straps).SelectorRuns := (s.takeReset_atReset cause tag false straps).selectorRuns rfl

theorem saveSettings (h : s.SelectorRuns) (i : Fin 2) (o : HeldOrder) : (s.saveSettings i o).SelectorRuns := by
  unfold State.saveSettings
  (repeat' split) <;> exact h.of_frame rfl rfl rfl

theorem resetHub (h : s.SelectorRuns) (i : Fin 2) (o : HeldOrder) : (s.resetHub i o).SelectorRuns := by
  unfold State.resetHub
  (repeat' split)
  · exact h.answer i o _
  · exact h.answer i o _
  · exact takeReset _ _ _ _

/-! ## One step -/

/-- A packet that is over, where the port that deals with it leaves the selector and the screens. -/
theorem packetOver (h : s.SelectorRuns) (p : Port) (bytes : List Byte) (goesOn : Bool) {f : State → State}
    (hf : ∀ x : State, (f x).selector = x.selector ∧ (f x).screens = x.screens ∧ (f x).held = x.held) :
    (s.packetOver p bytes goesOn f).SelectorRuns := by
  have hclear : (s.clearUnformed p).SelectorRuns := h.of_frame (by simp) (by simp) (by simp)
  unfold State.packetOver
  split
  · obtain ⟨hv, hx, hh⟩ := hf (s.clearUnformed p)
    exact hclear.of_frame hv hx hh
  · exact hclear.of_frame (by simp) (by simp) (by simp)

/-- Every command but the assertion of the reset line leaves the hub running, with its selector current. -/
theorem onCommand (h : s.SelectorRuns) (c : Instr) (hc : c ≠ .resetLineAsserted) : (s.onCommand c).SelectorRuns := by
  obtain ⟨heraseDone, heraseTimeout, hpageDone, hpageTimeout, hjudge⟩ := h.loaderEvents
  cases c with
  | powerOn straps => exact takeReset _ _ _ _
  | resetLineAsserted => exact absurd rfl hc
  | resetLineReleased straps => exact h
  | framingFault p cause bytes => exact h.packetOver p bytes _ (f := fun s => s.framingFault p cause bytes) fun x => by simp
  | lineHeader p stream frame line =>
    simp only [State.onCommand]
    split <;> exact h.of_frame (by simp) (by simp) (by simp)
  | packetEnd p bytes => exact h.packetOver p bytes _ (f := fun s => s.packetEnd p bytes) fun x => by simp
  | poisonedArrival p bytes => exact h.packetOver p bytes _ (f := fun s => s.poisonedArrival p bytes) fun x => by simp
  | linkUp p => exact h.of_frame (t := s.linkUp p) (by simp) (by simp) (by simp)
  | linkDown p arrived => exact h.of_frame (t := s.linkDown p arrived) (by simp) (by simp) (by simp)
  | restartHoldEnd p => exact h.of_frame (t := s.updRx p (fun x => { x with hold := none })) (by simp) (by simp) (by simp)
  | transmissionStart u =>
    simp only [State.onCommand]
    split
    · exact h.of_frame rfl rfl rfl
    · exact h
  | transmissionEnd u => exact h.of_frame (t := s.transmissionEnd u) (by simp) (by simp) (by simp)
  | frameAgeStale c => exact h.of_frame (t := s.channelEvent c Channel.ageStale) (by simp) (by simp) (by simp)
  | frameAgeLost c => exact h.of_frame (t := s.channelEvent c Channel.ageLost) (by simp) (by simp) (by simp)
  | doorLineChange d level => exact h.doorChange d level
  | filterWaitExpiry d => exact h.filterExpiry d
  | lingerExpiry n => exact h.lingerExpiry n
  | silenceExpiry => exact h.silenceExpiry
  | outputFrameStart sc => exact h.frameStart sc
  | pulseBoundary a => exact h.of_frame rfl rfl rfl
  | noticeMove => exact h.of_frame (t := s.moveNotice) (by simp) (by simp) (by simp)
  | presence =>
    have he : KeepsSelector (fun s => (s, .done false)) := .of_frame fun _ => ⟨rfl, rfl, rfl⟩
    exact h.runOrder 1 0 fun _ => he
  | setHub => exact h.runOrder 2 2 fun _ => .of_frame fun _ => ⟨rfl, rfl, rfl⟩
  | setPort => exact h.runOrder 3 4 keepsSelector_setPort
  | restartPort => exact h.runOrder 4 1 keepsSelector_restartPort
  | loadStream => exact h.runOrder 5 8 keepsSelector_loadStream
  | setChannel => exact h.runOrder 6 6 keepsSelector_setChannel
  | loadView =>
    simp only [State.onCommand]
    exact h.onOrder _ fun i o => (h.carryOut _ (keepsSelector_loadView _)).answer i o _
  | setScreen => exact h.runOrder 8 3 keepsSelector_setScreen
  | loadTrigger => exact h.runOrder 9 10 keepsSelector_loadTrigger
  | setLines => exact h.runOrder 10 11 keepsSelector_setLines
  | pinView => exact h.runOrder 11 3 keepsSelector_pinView
  | releaseView => exact h.runOrder 12 1 keepsSelector_releaseView
  | loadProfile => exact h.runOrder 13 13 keepsSelector_loadProfile
  | learn => exact h.runOrder 14 1 keepsSelector_learn
  | setAlert => exact h.runOrder 15 9 keepsSelector_setAlert
  | query => exact h.runOrder 16 3 keepsSelector_query
  | queryZones => exact h.runOrder 17 1 keepsSelector_queryZones
  | clearCounts => exact h.runOrder 18 2 keepsSelector_clearCounts
  | saveSettings =>
    simp only [State.onCommand]
    exact h.onOrder _ fun i o => h.saveSettings i o
  | resetHub =>
    simp only [State.onCommand]
    exact h.onOrder _ fun i o => h.resetHub i o
  | badCode =>
    have he : KeepsSelector (fun s => (s, .refused .badCode)) := .of_frame fun _ => ⟨rfl, rfl, rfl⟩
    simp only [State.onCommand]
    exact h.onOrder _ fun i o => (h.carryOut _ he).answer i o _
  | eraseDone => exact heraseDone
  | eraseTimeout => exact heraseTimeout
  | pageDone => exact hpageDone
  | pageTimeout => exact hpageTimeout
  | imageJudged answers => exact hjudge answers
  | imageEntryApply => exact h.applyNext

end State.SelectorRuns

/-- The hub runs with its selector current, or is held in reset with every block at its reset values. -/
def State.SelectorStands (s : State) : Prop := s.SelectorRuns ∨ (s.held = true ∧ s.AtReset .line)

theorem State.selectorStands_iff (s : State) :
    s.SelectorStands ↔ s.HeldAtReset ∧ s.TriggersFollowVector ∧ s.ChosenViewsCurrent ∧ s.FilterWaitsRun := by
  constructor
  · rintro (h | ⟨-, h⟩)
    · exact ⟨fun hh => absurd h.running (by rw [hh]; nofun), h.triggers, h.chosen, h.waits⟩
    · exact ⟨fun _ => h, h.triggersFollowVector, h.chosenViewsCurrent, h.filterWaitsRun⟩
  · rintro ⟨hreset, htriggers, hchosen, hwaits⟩
    cases hh : s.held
    · exact .inl ⟨hh, htriggers, hchosen, hwaits⟩
    · exact .inr ⟨hh, hreset hh⟩

namespace State.SelectorStands

variable {s : State}

theorem onCommand (h : s.SelectorStands) (hrun : s.held = false) (c : Instr) : (s.onCommand c).SelectorStands := by
  rcases h with h | ⟨hh, -⟩
  · by_cases hc : c = .resetLineAsserted
    · subst hc
      exact .inr ⟨rfl, s.takeReset_atReset .line none true s.straps⟩
    · exact .inl (h.onCommand c hc)
  · rw [hrun] at hh
    cases hh

/-- A held hub moves its door lines alone, until its reset ends (R171, entry 37). -/
theorem onCommandHeld (h : s.SelectorStands) (hheld : s.held = true) (c : Instr) : (s.onCommandHeld c).SelectorStands := by
  have hreset : s.AtReset .line := (s.selectorStands_iff.1 h).1 hheld
  unfold State.onCommandHeld
  split
  · exact .inl (.takeReset _ _ _ _)
  · exact .inl ((hreset.exitReset _).selectorRuns rfl)
  · exact .inr ⟨hheld, hreset.doorFollows _ _⟩
  · exact h

theorem tick (h : s.SelectorStands) : s.tick.SelectorStands := by
  rcases h with h | ⟨hheld, h⟩
  · exact .inl h.tick
  · exact .inr ⟨hheld, h.tick⟩

theorem withPending (h : s.SelectorStands) (l : List Instr) : { s with pending := l }.SelectorStands := by
  rcases h with h | ⟨hheld, h⟩
  · exact .inl (h.of_frame rfl rfl rfl)
  · exact .inr ⟨hheld, { h with }⟩

end State.SelectorStands

/-- Settles O58: a running hub follows every change at the selector with the move and the recomputation that it calls for, and a held one
stands at its reset values. -/
theorem everyStepKeepsSelectorCurrent : Obligations.EveryStepKeepsSelectorCurrent := fun s t hheld htriggers hchosen hwaits e =>
  t.selectorStands_iff.1 (step_keeps (P := State.SelectorStands) (fun _ l h => h.withPending l) (fun _ c hrun h => h.onCommand hrun c)
    (fun _ c hh h => h.onCommandHeld hh c) (fun _ h => h.tick) (s.selectorStands_iff.2 ⟨hheld, htriggers, hchosen, hwaits⟩) e)

end Sys2Proof.Machine

/-! # Proofs: door lines, lingers and the silence timer (R100, R101, R103, R106, R107, R111 to R113, entries 2, 13, 14, 39) -/

namespace Sys2Proof.Machine

/-! ## The line vector (R103) -/

/-- A set of the members for which `f` holds has those members. -/
theorem hasMember_setOf {n : Nat} (f : Fin n → Bool) (i : Fin n) : hasMember (setOf n f) i.val = f i := by
  have hfold : ∀ (l : List (Fin n)) (set : BitVec n),
      hasMember (l.foldl (fun set i => if f i then addMember set i.val else set) set) i.val =
        (hasMember set i.val || (decide (i ∈ l) && f i)) := fun l => by
    induction l with
    | nil => simp
    | cons j rest ih =>
      intro set
      rw [List.foldl_cons, ih]
      by_cases hj : i = j
      · subst hj
        cases f i <;> simp
      · cases f j <;> simp [hj]
  rw [setOf, hfold]
  simp [hasMember]

/-- The positions of the line vector: the filtered levels first, then the virtual lines. -/
theorem Selector.lineVector_positions (v : Selector) (n : Fin 8) :
    v.lineVector.getLsbD n.val = (Tab.get v.doors n).filtered ∧ v.lineVector.getLsbD (8 + n.val) = v.virtual.getLsbD n.val := by
  unfold Selector.lineVector
  rw [BitVec.getLsbD_append, BitVec.getLsbD_append, if_pos n.isLt, if_neg (by omega), Nat.add_sub_cancel_left]
  exact ⟨hasMember_setOf _ n, rfl⟩

/-! ## Moments of the line vector (R103, R106) -/

/-- The move of the entries is told from the state before the lines changed. -/
theorem State.VectorMoves.of_lines {s t : State} {doors : Vector DoorLine 8} {virtual : BitVec 8}
    (h : { s with selector := { s.selector with doors := doors, virtual := virtual } }.VectorMoves t) : s.VectorMoves t :=
  ⟨h.triggers, fun hc => h.chosen fun sc => hc sc, h.unmoved, h.notices, h.pins, h.rest⟩

section
variable {s : State} {d : Fin 8} {f : DoorLine → DoorLine}

/-- A door line changed in all but its filtered level moves nothing. -/
theorem State.updDoor_moves (h : s.TriggersFollowVector) (hf : (f (s.door d)).filtered = (s.door d).filtered) :
    (s.updDoor d f).TriggersFollowVector ∧ s.VectorMoves (s.updDoor d f) :=
  ⟨h.congr (fun _ => rfl) (s.lineVector_updDoor hf), .of_same h (fun _ => rfl) (s.lineVector_updDoor hf) rfl rfl rfl (fun hc sc => hc sc)
    (by simp)⟩

/-- A door line that has changed in all but its filtered level takes a filtered level: a moment of the line vector. -/
theorem State.setFiltered_moment (h : s.TriggersFollowVector) (hf : (f (s.door d)).filtered = (s.door d).filtered) (level : Bool)
    (stop : Nat) :
    let t := (s.updDoor d f).setFiltered d level stop
    t.door d = { f (s.door d) with filtered := level, wait := none, stoppedAt := stop } ∧ (∀ e, e ≠ d → t.door e = s.door e) ∧
      t.selector.virtual = s.selector.virtual ∧ t.TriggersFollowVector ∧ s.VectorMoves t := by
  obtain ⟨hfollows, -⟩ := State.updDoor_moves h hf
  obtain ⟨hself, hother, hvirtual, -, hkept, -⟩ := (s.updDoor d f).setFiltered_spec d level stop
  refine ⟨?_, fun e he => ?_, hvirtual, hkept hfollows, .of_lines ((s.updDoor d f).setFiltered_moves d level stop hfollows)⟩
  · rw [hself, State.door_updDoor_self]
  · rw [hother e he, State.door_updDoor_of_ne _ _ he]

end

/-! ## DOOR_LINE_CHANGE and FILTER_WAIT_EXPIRY (R100, R101) -/

section
variable {s : State} {d : Fin 8} {level : Bool}

theorem State.doorChange_same (h : level = (s.door d).raw) : s.doorChange d level = s := if_pos h

theorem State.doorChange_filtered (h : level ≠ (s.door d).raw) (ht : (s.door d).filterTime ≠ 0) :
    s.doorChange d level = s.updDoor d (DoorLine.rawChange level) := by
  unfold State.doorChange
  rw [if_neg h, if_neg ht]

theorem State.doorChange_unfiltered (h : level ≠ (s.door d).raw) (ht : (s.door d).filterTime = 0) :
    s.doorChange d level = (s.updDoor d (fun l => { l with raw := level })).setFiltered d level (s.door d).stoppedAt := by
  unfold State.doorChange
  rw [if_neg h, if_pos ht]

theorem DoorLine.rawChange_eq (level : Bool) (l : DoorLine) : l.rawChange level =
    { l with raw := level, wait := if level = l.filtered then none else some 0
             stoppedAt := if level = l.filtered then 0 else l.stoppedAt } := by
  unfold DoorLine.rawChange
  by_cases h : level = l.filtered <;> simp [h]

theorem State.filterExpiry_stopped (h : (s.door d).wait = none) : s.filterExpiry d = s := by
  rw [State.filterExpiry, h]

theorem State.filterExpiry_running {elapsed : Nat} (h : (s.door d).wait = some elapsed) :
    s.filterExpiry d = s.setFiltered d (s.door d).raw (max elapsed (s.door d).filterTime) := by
  rw [State.filterExpiry, h]

end

/-- Settles O31: where the filtered level moves, `State.setFiltered_moment` says what follows. -/
theorem doorLinesAreFiltered : Obligations.DoorLinesAreFiltered := by
  refine ⟨Selector.lineVector_positions, fun d level s hrun hf => ⟨fun hsame => ?_, fun hne ht => ?_, fun hne ht => ?_, fun hw => ?_,
    fun elapsed hw => ?_⟩⟩
  all_goals rw [exec_of_running hrun]; dsimp only [State.onCommand]
  · rw [State.doorChange_same hsame]
  · rw [State.doorChange_filtered hne ht]
    rw [funext (DoorLine.rawChange_eq level)]
  · rw [State.doorChange_unfiltered hne ht]
    exact ⟨_, rfl, State.setFiltered_moment hf rfl level _⟩
  · rw [State.filterExpiry_stopped hw]
  · have hmoment := State.setFiltered_moment (d := d) (f := fun l => l) hf rfl (s.door d).raw (max elapsed (s.door d).filterTime)
    rw [State.updDoor_id] at hmoment
    rw [State.filterExpiry_running hw]
    exact ⟨_, rfl, hmoment⟩

/-! ## LINGER_EXPIRY and SILENCE_EXPIRY (R107, R111) -/

theorem State.lingerExpiry_still {s : State} {n : Fin 16} (h : ∀ ms, (s.trigger n).state ≠ .linger ms) : s.lingerExpiry n = s := by
  unfold State.lingerExpiry
  split
  · next hms => exact absurd hms (h _)
  · rfl
  · rfl

theorem State.lingerExpiry_over {s : State} {n : Fin 16} {ms : Nat} (h : (s.trigger n).state = .linger ms) :
    s.lingerExpiry n = (s.updTrigger n (fun e => { e with state := .idle })).recomputeBoth := by
  rw [State.lingerExpiry, h]

/-- Settles O32: both are a change of the selector with a recomputation of both views. -/
theorem selectorTimersExpire : Obligations.SelectorTimersExpire := by
  refine fun s hrun => ⟨fun n hn => ?_, fun n ms hms => ?_, fun h => ?_, fun h => ?_⟩
  all_goals rw [exec_of_running hrun]; dsimp only [State.onCommand]
  · rw [State.lingerExpiry_still hn]
  · obtain ⟨hdoors, hvirtual, htriggers, hpins, hchosen⟩ := (s.updTrigger n (fun e => { e with state := .idle })).recomputeBoth_spec
    have htrigger : ∀ m, (s.lingerExpiry n).trigger m = if m = n then { s.trigger n with state := .idle } else s.trigger m := fun m => by
      rw [State.lingerExpiry_over hms, State.trigger, htriggers]
      exact s.trigger_updTrigger n m _
    have hself := htrigger n
    rw [if_pos rfl] at hself
    have hother : ∀ m, m ≠ n → (s.lingerExpiry n).trigger m = s.trigger m := fun m hm => (htrigger m).trans (if_neg hm)
    rw [State.lingerExpiry_over hms] at hself hother ⊢
    exact ⟨_, rfl, hself, hother, hchosen, State.recomputeBoth_orders _, hdoors, hvirtual, hpins, by simp⟩
  · rw [State.silenceExpiry_stopped h]
  · obtain ⟨hdoors, hvirtual, htriggers, hpins, hchosen⟩ := s.silenced.recomputeBoth_spec
    have htold := s.silenced.recomputeBoth_orders
    obtain ⟨hcams, htrunks, -, hchannels, -, -, hscreens, -, halerts, -⟩ := s.silenced.recomputeBoth_frame
    rw [State.silenceExpiry_running h]
    generalize s.silenced.recomputeBoth = u at hdoors hvirtual htriggers hpins hchosen htold hcams htrunks hchannels hscreens halerts
    exact ⟨_, rfl, fun sc => (congrArg (Tab.get · sc) hpins).trans (Tab.get_replicate ..), fun sc => hchosen sc,
      congrArg (OrderUnit.offer · (.silence s.selector.pinnedScreens)) htold, hdoors, hvirtual, htriggers, hcams, htrunks, hchannels,
      hscreens, halerts⟩

end Sys2Proof.Machine

/-! # Proofs: the chosen view (R112) -/

namespace Sys2Proof.Machine

section
variable (triggers : Vector Trigger 16) (sc : Fin 2)

/-- Whether an entry goes before another for its screen: the higher priority, or the lower index among equals (R112 step 1). -/
def EntryBefore (t u : Fin 16) : Prop :=
  (Tab.get triggers u).priority < (Tab.get triggers t).priority ∨
    ((Tab.get triggers u).priority = (Tab.get triggers t).priority ∧ t.val ≤ u.val)

/-- What has been found of the entries seen: none that claims the screen, or the best of those that do (R112 step 1). -/
def BestOf (seen : Fin 16 → Prop) : Option (Fin 16) → Prop
  | none => ∀ u, seen u → (Tab.get triggers u).claims sc = false
  | some b => (Tab.get triggers b).claims sc = true ∧ ∀ u, seen u → (Tab.get triggers u).claims sc = true → EntryBefore triggers b u

variable {triggers sc}

theorem EntryBefore.refl (t : Fin 16) : EntryBefore triggers t t := .inr ⟨rfl, le_rfl⟩

theorem EntryBefore.trans {t u v : Fin 16} (h : EntryBefore triggers t u) (k : EntryBefore triggers u v) : EntryBefore triggers t v := by
  unfold EntryBefore at *
  omega

theorem EntryBefore.antisymm {t u : Fin 16} (h : EntryBefore triggers t u) (k : EntryBefore triggers u t) : t = u := by
  unfold EntryBefore at *
  omega

/-- The next entry in order is compared with the best so far, which has the lower index. -/
theorem BestOf.next {seen : Fin 16 → Prop} {best : Option (Fin 16)} (h : BestOf triggers sc seen best) {t : Fin 16}
    (ht : ∀ b, best = some b → b < t) : BestOf triggers sc (fun u => seen u ∨ u = t) (betterEntry triggers sc best t) := by
  unfold betterEntry
  cases hc : (Tab.get triggers t).claims sc
  · rw [if_neg (by simp)]
    cases best with
    | none =>
      rintro u (hu | rfl)
      · exact h u hu
      · exact hc
    | some b =>
      refine ⟨h.1, ?_⟩
      rintro u (hu | rfl) hclaims
      · exact h.2 u hu hclaims
      · rw [hc] at hclaims
        cases hclaims
  · rw [if_pos rfl]
    cases best with
    | none =>
      refine ⟨hc, ?_⟩
      rintro u (hu | rfl) hclaims
      · rw [h u hu] at hclaims
        cases hclaims
      · exact .refl u
    | some b =>
      obtain ⟨hb, hbest⟩ := h
      dsimp only
      split
      · next hlower =>
        refine ⟨hc, ?_⟩
        rintro u (hu | rfl) hclaims
        · exact .trans (.inl hlower) (hbest u hu hclaims)
        · exact .refl u
      · next hlower =>
        refine ⟨hb, ?_⟩
        rintro u (hu | rfl) hclaims
        · exact hbest u hu hclaims
        · exact (Nat.lt_or_eq_of_le (not_lt.1 hlower)).imp id fun he => ⟨he, (ht b rfl).le⟩

/-- The best so far is one of the entries compared. -/
theorem betterEntry_mem {best : Option (Fin 16)} {t b : Fin 16} (h : betterEntry triggers sc best t = some b) :
    best = some b ∨ b = t := by
  unfold betterEntry at h
  split at h
  · split at h
    · exact .inr (Option.some.inj h).symm
    · split at h
      · exact .inr (Option.some.inj h).symm
      · exact .inl h
  · exact .inl h

/-- The entries compared one after another in rising order. -/
theorem BestOf.foldl {l : List (Fin 16)} (hl : l.Pairwise (· < ·)) {seen : Fin 16 → Prop} {best : Option (Fin 16)}
    (h : BestOf triggers sc seen best) (hlow : ∀ b, best = some b → ∀ t ∈ l, b < t) :
    BestOf triggers sc (fun u => seen u ∨ u ∈ l) (l.foldl (betterEntry triggers sc) best) := by
  induction l generalizing seen best with
  | nil => simpa using h
  | cons t rest ih =>
    obtain ⟨hfirst, hrest⟩ := List.pairwise_cons.1 hl
    have hnext := ih hrest (h.next fun b hb => hlow b hb t (List.mem_cons_self ..)) fun b hb u hu => by
      rcases betterEntry_mem hb with hold | rfl
      · exact hlow b hold u (List.mem_cons_of_mem _ hu)
      · exact hfirst u hu
    simpa only [List.foldl_cons, List.mem_cons, or_assoc] using hnext

/-- The best entry of a screen is the best of all that claim it (R112 step 1). -/
theorem bestEntry_spec (triggers : Vector Trigger 16) (sc : Fin 2) : BestOf triggers sc (fun _ => True) (bestEntry triggers sc) := by
  have hnone : BestOf triggers sc (fun _ => False) none := nofun
  have hfold := hnone.foldl (List.pairwise_lt_finRange 16) nofun
  simp only [List.mem_finRange, or_true] at hfold
  exact hfold

theorem bestEntry_none (h : ∀ t, (Tab.get triggers t).claims sc = false) : bestEntry triggers sc = none := by
  have hspec := bestEntry_spec triggers sc
  cases hb : bestEntry triggers sc with
  | none => rfl
  | some b =>
    rw [hb] at hspec
    exact absurd hspec.1 (by rw [h b]; nofun)

theorem bestEntry_some {t : Fin 16} (hclaims : (Tab.get triggers t).claims sc = true)
    (hbest : ∀ u, (Tab.get triggers u).claims sc = true → EntryBefore triggers t u) : bestEntry triggers sc = some t := by
  have hspec := bestEntry_spec triggers sc
  cases hb : bestEntry triggers sc with
  | none =>
    rw [hb] at hspec
    exact absurd hclaims (by rw [hspec t trivial]; nofun)
  | some b =>
    rw [hb] at hspec
    rw [(hspec.2 t trivial hclaims).antisymm (hbest b hspec.1)]

theorem Trigger.claims_iff (t : Trigger) (sc : Fin 2) : t.claims sc = true ↔ t.state ≠ .idle ∧ hasMember t.screens sc.val = true := by
  simp [Trigger.claims]

end

/-- Settles O36: the fold over the entries finds the best of them. -/
theorem chosenViewFollowsTheTable : Obligations.ChosenViewFollowsTheTable := by
  intro triggers sc pin default claims best
  have hclaims : ∀ t, claims t ↔ (Tab.get triggers t).claims sc = true := fun t => (Trigger.claims_iff _ sc).symm
  have hnone : (∀ t, ¬claims t) → bestEntry triggers sc = none := fun h =>
    bestEntry_none fun t => Bool.eq_false_iff.2 fun ht => h t ((hclaims t).2 ht)
  have hsome : ∀ t, best t → bestEntry triggers sc = some t := fun t ⟨ht, hbest⟩ =>
    bestEntry_some ((hclaims t).1 ht) fun u hu => hbest u ((hclaims u).2 hu)
  refine ⟨fun h hp => ?_, fun h p hp => ?_, fun t h hp => ?_, fun t p h hp hlower => ?_, fun t p h hp hle => ?_, ?_⟩
  · rw [chooseView.eq_def, hnone h, hp]
  · rw [chooseView.eq_def, hnone h, hp]
  · rw [chooseView.eq_def, hsome t h, hp]
  · rw [chooseView.eq_def, hsome t h, hp]
    exact if_pos hlower
  · rw [chooseView.eq_def, hsome t h, hp]
    exact if_neg (not_lt.2 hle)
  · have hspec := bestEntry_spec triggers sc
    cases hb : bestEntry triggers sc with
    | none =>
      rw [hb] at hspec
      exact .inl fun t ht => absurd ((hclaims t).1 ht) (by rw [hspec t trivial]; nofun)
    | some b =>
      rw [hb] at hspec
      exact .inr ⟨b, (hclaims b).2 hspec.1, fun u hu => hspec.2 u trivial ((hclaims u).1 hu)⟩

end Sys2Proof.Machine

/-! # Proofs: PIN-VIEW, RELEASE-VIEW and the plain orders (R108 to R110, R112, R113, R157, R162, R163) -/

namespace Sys2Proof.Machine

/-- A command that carries out the order whose code and parameter length it has, when that order can execute (R156, R157). -/
theorem State.Executes.exec_order {s : State} {i : Fin 2} {o : HeldOrder} {code : Byte} {params : List Byte}
    (h : s.Executes i o code params) {c : Instr} {n : Nat} {effect : List Byte → State → State × Answer}
    (hc : s.onCommand c = s.runOrder code n effect) (h20 : code ≠ resetHubCode) (hn : params.length = n) {r : State × Answer}
    (hr : effect params s = r) : exec c s = .next (r.1.replied i o r.2) := by
  subst hr
  rw [exec_of_running h.running, hc, h.runOrder h20 hn]

/-! ## Pins (R108, R109) -/

/-- A pin set or cleared, with the recomputation of its screen's view and the notice of a change (R112, R113). -/
theorem State.setPin_eq (s : State) (sc : Fin 2) (pin : Option Pin) :
    let old := Tab.get s.selector.chosen sc
    let new := chooseView s.selector.triggers sc pin (s.screen sc).defaultView
    let base := { s with selector := { s.selector with
      pins := s.selector.pins.set sc.val pin, chosen := s.selector.chosen.set sc.val new } }
    s.setPin sc pin = if old.view = new.view then base else base.offer (.view sc old.view new.view new.source) := by
  unfold State.setPin State.recompute State.offerIf
  dsimp only
  rw [Tab.get_upd_self]
  simp only [decide_eq_true_eq, ne_eq, ite_not]
  rfl

theorem toNat_number {n : Nat} (h : n ≤ 256) (k : Fin n) : (BitVec.ofNat 8 k.val).toNat = k.val := toNat_byte1 (k.isLt.trans_le h)

theorem readPinView_some (sc : Fin 2) (view : Fin 32) (pr : Byte) :
    readPinView [BitVec.ofNat 8 sc.val, BitVec.ofNat 8 view.val, pr] =
      some (sc, { view := view, priority := min 15 (max 1 pr.toNat) }, decide (pr.toNat < 1 ∨ 15 < pr.toNat)) := by
  obtain ⟨hvalue, hflag⟩ := clamp_spec (by decide : 1 ≤ 15) pr.toNat
  simp only [readPinView, byteAt_cons_succ, byteAt_cons_zero, hvalue, hflag,
    instanceOf_eq_some (toNat_number (by decide) sc).symm, instanceOf_eq_some (toNat_number (by decide) view).symm]
  rfl

theorem readPinView_none {a b : Byte} (c : Byte) (h : 2 ≤ a.toNat ∨ 32 ≤ b.toNat) : readPinView [a, b, c] = none := by
  rw [readPinView, byteAt_cons_zero, byteAt_cons_succ, byteAt_cons_zero]
  rcases h with h | h
  · rw [instanceOf_eq_none h]
    rfl
  · rw [instanceOf_eq_none h]
    cases instanceOf 2 a.toNat <;> rfl

/-- Settles O35: both orders set the pin and recompute, which `State.setPin_eq` writes out. -/
theorem pinsAreSetAndReleased : Obligations.PinsAreSetAndReleased := by
  refine fun s i o sc => ⟨fun view pr h => ?_, fun h => ?_, fun a b c hbad h => ?_, fun a hbad h => ?_⟩
  · have hexec := h.exec_order (c := .pinView) rfl (by decide) rfl (r := (s.setPin sc _, .done _))
      (by rw [pinViewEffect, readPinView_some])
    rw [State.setPin_eq] at hexec
    exact hexec
  · have hscreen : instanceOf 2 (byteAt [BitVec.ofNat 8 sc.val] 0) = some sc := instanceOf_eq_some (toNat_number (by decide) sc).symm
    have hexec := h.exec_order (c := .releaseView) rfl (by decide) rfl (r := (s.setPin sc none, .done false))
      (by rw [releaseViewEffect, hscreen])
    rw [State.setPin_eq] at hexec
    exact hexec
  · exact h.exec_order (c := .pinView) rfl (by decide) rfl (r := (s, .refused .badField)) (by rw [pinViewEffect, readPinView_none c hbad])
  · have hscreen : instanceOf 2 (byteAt [a] 0) = none := instanceOf_eq_none hbad
    exact h.exec_order (c := .releaseView) rfl (by decide) rfl (r := (s, .refused .badField)) (by rw [releaseViewEffect, hscreen])

/-! ## SET-HUB (R110, R163) -/

/-- The hub record after a SET-HUB. -/
theorem HubRecord.restartSilence_eq (h : HubRecord) (time : Nat) :
    { h with silenceTime := min 255 time }.restartSilence =
      { h with
        silenceTime := min 255 time, silenceTimer := if time = 0 then none else some (1000 * min 255 time)
        silenceStopped := if time = 0 then h.silenceTimer.getD h.silenceStopped else h.silenceStopped } := by
  unfold HubRecord.restartSilence HubRecord.stopSilence
  by_cases ht : time = 0
  · simp [ht]
  · simp only [ht, if_false, Nat.mul_comm 1000]
    rw [if_neg (by omega)]

theorem setHubEffect_eq {a b : Byte} {time : Nat} (h : time = 256 * a.toNat + b.toNat) (s : State) :
    setHubEffect [a, b] s = ({ s with orders := { s.orders with hub := { s.orders.hub with
      silenceTime := min 255 time, silenceTimer := if time = 0 then none else some (1000 * min 255 time)
      silenceStopped := if time = 0 then s.orders.hub.silenceTimer.getD s.orders.hub.silenceStopped
        else s.orders.hub.silenceStopped } } }, .done (decide (255 < time))) := by
  have hword : wordAt [a, b] 0 = time := by simp [wordAt, h, Nat.mul_comm]
  obtain ⟨hvalue, hflag⟩ := clamp_spec (by decide : 0 ≤ 255) time
  have hread : (readSetHub [a, b]).value = min 255 time ∧ (readSetHub [a, b]).flag = decide (255 < time) := by
    simp [readSetHub, hword, hvalue, hflag]
  unfold setHubEffect
  dsimp only
  simp only [hread, HubRecord.restartSilence_eq]
  rfl

/-! ## CLEAR-COUNTS (R162) -/

theorem readSubject_pair (k n : Byte) : readSubject [k, n] = readSubject [k, n, 0] := rfl

theorem portCode_lt (p : Port) : portCode p < 10 := by
  cases p with
  | cam i => exact i.isLt.trans (by decide)
  | trunk u => cases u <;> decide

/-- The subjects that have counters to clear, by the bytes that name them (R162, R163). -/
theorem readSubject_counted {k n : Byte} {x : Subject} (h : readSubject [k, n] = some x) :
    (x = .hub → k = 0 ∧ n = 0) ∧ (∀ p, x = .port p → k = 1 ∧ n.toNat < 10) ∧ (∀ c, x = .channel c → k = 3 ∧ n.toNat < 12) := by
  have hbyte : ∀ {a : Byte} {m : Nat}, m < 256 → a.toNat = m → a = BitVec.ofNat 8 m := fun hm ha =>
    BitVec.eq_of_toNat_eq (ha.trans (toNat_byte1 hm).symm)
  unfold readSubject at h
  dsimp only at h
  split at h
  · next hk =>
    split at h <;> cases h
    next hn => exact ⟨fun _ => ⟨hbyte (by decide) hk, hbyte (by decide) hn⟩, nofun, nofun⟩
  · next hk =>
    obtain ⟨p, hp, rfl⟩ := Option.map_eq_some_iff.1 h
    refine ⟨nofun, fun q _ => ⟨hbyte (by decide) hk, ?_⟩, nofun⟩
    have hn : portCode p = n.toNat := portCode_of_portOf hp
    exact hn ▸ portCode_lt p
  · cases h
    exact ⟨nofun, nofun, nofun⟩
  · next hk =>
    obtain ⟨c, hc, rfl⟩ := Option.map_eq_some_iff.1 h
    refine ⟨nofun, nofun, fun _ _ => ⟨hbyte (by decide) hk, ?_⟩⟩
    by_contra hn
    have hnone : instanceOf 12 (byteAt [k, n] 1) = none := instanceOf_eq_none (not_lt.1 hn)
    rw [hnone] at hc
    cases hc
  · obtain ⟨p, -, rfl⟩ := Option.map_eq_some_iff.1 h
    exact ⟨nofun, nofun, nofun⟩
  · split at h <;> cases h
    exact ⟨nofun, nofun, nofun⟩
  iterate 4
    · obtain ⟨p, -, rfl⟩ := Option.map_eq_some_iff.1 h
      exact ⟨nofun, nofun, nofun⟩
  · cases h

/-- A CLEAR-COUNTS that names nothing with counters is refused (R162). -/
theorem clearCountsEffect_refused {k n : Byte}
    (h : (k ≠ 0 ∧ k ≠ 1 ∧ k ≠ 3) ∨ (k = 0 ∧ n ≠ 0) ∨ (k = 1 ∧ 10 ≤ n.toNat) ∨ (k = 3 ∧ 12 ≤ n.toNat)) (s : State) :
    clearCountsEffect [k, n] s = (s, .refused .badField) := by
  unfold clearCountsEffect
  split
  · next hread =>
    obtain ⟨hhub, -⟩ := readSubject_counted hread
    obtain ⟨rfl, rfl⟩ := hhub rfl
    simp at h
  · next p hread =>
    obtain ⟨-, hport, -⟩ := readSubject_counted hread
    obtain ⟨rfl, hn⟩ := hport p rfl
    simp [Nat.not_le.2 hn] at h
  · next c hread =>
    obtain ⟨-, -, hchannel⟩ := readSubject_counted hread
    obtain ⟨rfl, hn⟩ := hchannel c rfl
    simp [Nat.not_le.2 hn] at h
  · rfl

/-- A trunk port has its arrival counters and its further counters cleared (R17, R19, R162). -/
theorem State.clearPort_trunk (s : State) (u : Trunk) : s.clearPort (.trunk u) =
    s.updTrunk u (fun x => { x with rx := { x.rx with counters := .zero }, counters := .zero }) := by
  cases u <;> rfl

/-! ## The statement -/

/-- An order whose code is not in the catalogue is refused (R157). -/
theorem State.Executes.exec_badCode {s : State} {i : Fin 2} {o : HeldOrder} {code : Byte} {params : List Byte}
    (h : s.Executes i o code params) (hcode : code = 0 ∨ 21 ≤ code.toNat) :
    exec .badCode s = .next (s.replied i o (.refused .badCode)) := by
  have hunknown : knownCode code = false := by
    rcases hcode with rfl | hc
    · rfl
    · simp only [knownCode, Bool.and_eq_false_iff, decide_eq_false_iff_not]
      omega
  have h20 : code ≠ resetHubCode := by
    rintro rfl
    cases hunknown
  have hloaded : s.loading = false := by simp [State.loading, h.loaded]
  rw [exec_of_running h.running, State.onCommand, h.onOrder (by rw [hunknown]; rfl) h20]
  simp [State.carryOut, hloaded, State.answer_eq_replied]

/-- Settles O43: each order by the equation of its effect. -/
theorem plainOrdersAreAnswered : Obligations.PlainOrdersAreAnswered := by
  refine fun s i o => ⟨fun h => ?_, fun a b h time ht => ?_, fun k n h => ?_, fun code params hcode h => h.exec_badCode hcode⟩
  · exact h.exec_order (c := .presence) (effect := fun _ s => (s, .done false)) rfl (by decide) rfl rfl
  · exact h.exec_order (c := .setHub) rfl (by decide) rfl (setHubEffect_eq ht s)
  · have hexec : ∀ {r : State × Answer}, clearCountsEffect [k, n] s = r → exec .clearCounts s = .next (r.1.replied i o r.2) :=
      h.exec_order (c := .clearCounts) rfl (by decide) rfl
    obtain ⟨hhub, hcam, hta, htb, -, hchannel, -⟩ := readSubject_names n 0
    simp only [← readSubject_pair] at hhub hcam hta htb hchannel
    refine ⟨fun hk hn => ?_, fun hk c hc => ?_, fun hk hn u hu => ?_, fun hk c hc => ?_, fun hbad => ?_⟩
    · subst hk hn
      exact hexec (r := (s.updHub _, .done false)) (by rw [clearCountsEffect, hhub])
    · subst hk
      exact hexec (r := (s.clearPort (.cam c), .done false)) (by rw [clearCountsEffect, hcam c hc.symm])
    · subst hk
      have hread : readSubject [1, n] = some (.port (.trunk u)) := by
        rcases hn with rfl | rfl
        · rw [hta, hu, if_pos rfl]
        · rw [htb, hu, if_neg (by decide)]
      have hclear := hexec (r := (s.clearPort (.trunk u), .done false)) (by rw [clearCountsEffect, hread])
      rw [State.clearPort_trunk] at hclear
      exact hclear
    · subst hk
      exact hexec (r := (s.updChannel c _, .done false)) (by rw [clearCountsEffect, hchannel c hc.symm]; rfl)
    · exact hexec (clearCountsEffect_refused hbad s)

end Sys2Proof.Machine

/-! # Proofs: LOAD-TRIGGER (R104, R105, R112, R113, entry 13) -/

namespace Sys2Proof.Machine

/-! ## The fields (R105) -/

/-- The entry that the fields of a LOAD-TRIGGER give, before its evaluation (R105). -/
def givenTrigger (e m1 m0 v1 v0 scr pr li : Byte) (view : Fin 32) : Trigger where
  enable := decide (e = 1)
  mask := m1 ++ m0
  value := v1 ++ v0
  screens := BitVec.ofNat 2 scr.toNat
  view := view
  priority := min 15 (max 1 pr.toNat)
  linger := min 60 li.toNat
  state := .idle

/-- A two-byte field as a set of 16 members. -/
theorem ofNat_word (high low : Byte) : BitVec.ofNat 16 (high.toNat * 256 + low.toNat) = high ++ low := by
  refine BitVec.eq_of_toNat_eq ?_
  rw [BitVec.toNat_append, BitVec.toNat_ofNat, ← Nat.shiftLeft_add_eq_or_of_lt low.isLt, Nat.shiftLeft_eq]
  omega

section
variable {b e m1 m0 v1 v0 scr view pr li : Byte}

theorem readLoadTrigger_some {n : Fin 16} {w : Fin 32} (hn : n.val = b.toNat) (he : e = 0 ∨ e = 1) (hscr : scr.toNat < 4)
    (hw : w.val = view.toNat) : readLoadTrigger [b, e, m1, m0, v1, v0, scr, view, pr, li] =
      some (n, givenTrigger e m1 m0 v1 v0 scr pr li w, decide (pr.toNat < 1 ∨ 15 < pr.toNat ∨ 60 < li.toNat)) := by
  obtain ⟨hpriority, hpflag⟩ := clamp_spec (by decide : 1 ≤ 15) pr.toNat
  obtain ⟨hlinger, hlflag⟩ := clamp_spec (by decide : 0 ≤ 60) li.toNat
  have hscreens : ¬3 < scr.toNat := by omega
  simp only [readLoadTrigger, wordAt, byteAt_cons_succ, byteAt_cons_zero, instanceOf_eq_some hn, flagOf_some he, instanceOf_eq_some hw,
    ofNat_word, hpriority, hpflag, hlinger, hlflag, Option.bind_eq_bind, Option.bind_some, if_neg hscreens]
  simp [givenTrigger, Bool.or_assoc]

theorem readLoadTrigger_none (h : 16 ≤ b.toNat ∨ ¬(e = 0 ∨ e = 1) ∨ 4 ≤ scr.toNat ∨ 32 ≤ view.toNat) :
    readLoadTrigger [b, e, m1, m0, v1, v0, scr, view, pr, li] = none := by
  by_contra hsome
  obtain ⟨r, hr⟩ := Option.ne_none_iff_exists'.1 hsome
  simp only [readLoadTrigger, Option.bind_eq_bind, Option.bind_eq_some_iff, byteAt_cons_succ, byteAt_cons_zero, flagOf_byte] at hr
  obtain ⟨n, hn, enable, henable, w, hw, hr⟩ := hr
  rcases h with h | h | h | h
  · rw [instanceOf_eq_none h] at hn
    cases hn
  · rw [if_neg h] at henable
    cases henable
  · have hscr : 3 < scr.toNat := h
    simp [hscr] at hr
  · rw [instanceOf_eq_none h] at hw
    cases hw

end

/-! ## The entry written (R104, R105) -/

/-- The hub with an entry written, evaluated at the present line vector, and both views recomputed (R105). -/
def State.triggerLoaded (s : State) (n : Fin 16) (t : Trigger) : State :=
  (s.updTrigger n (fun _ => t.evaluate s.selector.lineVector)).recomputeBoth

theorem loadTriggerEffect_some {ps : List Byte} {n : Fin 16} {t : Trigger} {clamped : Bool} (h : readLoadTrigger ps = some (n, t, clamped))
    (s : State) : loadTriggerEffect ps s = (s.triggerLoaded n t, .done clamped) := by
  rw [loadTriggerEffect, h]
  rfl

section
variable (s : State) (n : Fin 16) (t : Trigger)

theorem State.trigger_triggerLoaded (k : Fin 16) :
    (s.triggerLoaded n t).trigger k = if k = n then t.evaluate s.selector.lineVector else s.trigger k := by
  obtain ⟨-, -, htriggers, -⟩ := (s.updTrigger n (fun _ => t.evaluate s.selector.lineVector)).recomputeBoth_spec
  rw [State.trigger, State.triggerLoaded, htriggers]
  exact s.trigger_updTrigger n k _

/-- The rest of the selector stays, and both views are current. -/
theorem State.triggerLoaded_selector :
    (s.triggerLoaded n t).selector.doors = s.selector.doors ∧ (s.triggerLoaded n t).selector.virtual = s.selector.virtual ∧
    (s.triggerLoaded n t).selector.pins = s.selector.pins ∧ (s.triggerLoaded n t).ChosenViewsCurrent := by
  obtain ⟨hdoors, hvirtual, -, hpins, hchosen⟩ := (s.updTrigger n (fun _ => t.evaluate s.selector.lineVector)).recomputeBoth_spec
  exact ⟨hdoors, hvirtual, hpins, hchosen⟩

/-- The VIEW notices, SC0's first (R113). -/
theorem State.triggerLoaded_orders :
    (s.triggerLoaded n t).orders = s.viewNotice (s.triggerLoaded n t) 1 (s.viewNotice (s.triggerLoaded n t) 0 s.orders) :=
  State.recomputeBoth_orders _

theorem State.triggerLoaded_frame :
    (s.triggerLoaded n t).cams = s.cams ∧ (s.triggerLoaded n t).trunks = s.trunks ∧ (s.triggerLoaded n t).channels = s.channels ∧
    (s.triggerLoaded n t).lenses = s.lenses ∧ (s.triggerLoaded n t).screens = s.screens ∧ (s.triggerLoaded n t).views = s.views ∧
    (s.triggerLoaded n t).alerts = s.alerts ∧ (s.triggerLoaded n t).loader = s.loader ∧ (s.triggerLoaded n t).flash = s.flash := by
  simp [State.triggerLoaded]

end

/-- An entry as LOAD-TRIGGER writes it: ACTIVE when it is enabled and its condition holds, and IDLE otherwise (R105). -/
theorem Trigger.evaluate_idle {t : Trigger} (h : t.state = .idle) (v : BitVec 16) : t.evaluate v =
    { t with state := if t.enable = true ∧ v &&& t.mask = t.value &&& t.mask then .active else .idle } := by
  rw [Trigger.evaluate_eq, h]
  cases t.enable <;> simp

/-- Settles O34: the entry is the one its fields give, evaluated as `Trigger.evaluate_idle` says. -/
theorem loadTriggerWritesTheEntry : Obligations.LoadTriggerWritesTheEntry := by
  intro s i o b e m1 m0 v1 v0 scr view pr li h bad
  have hexec : ∀ {r : State × Answer}, loadTriggerEffect [b, e, m1, m0, v1, v0, scr, view, pr, li] s = r →
      exec .loadTrigger s = .next (r.1.replied i o r.2) := h.exec_order (c := .loadTrigger) rfl (by decide) rfl
  refine ⟨fun hbad => ?_, fun hgood n w hn hw => ?_⟩
  · exact hexec (r := (s, .refused .badField)) (by rw [loadTriggerEffect, readLoadTrigger_none hbad])
  · have he : e = 0 ∨ e = 1 := not_not.1 fun hx => hgood (.inr (.inl hx))
    have hscr : scr.toNat < 4 := not_le.1 fun hx => hgood (.inr (.inr (.inl hx)))
    have hread := readLoadTrigger_some (m1 := m1) (m0 := m0) (v1 := v1) (v0 := v0) (pr := pr) (li := li) hn he hscr hw
    obtain ⟨hdoors, hvirtual, hpins, hchosen⟩ := s.triggerLoaded_selector n (givenTrigger e m1 m0 v1 v0 scr pr li w)
    have hself := s.trigger_triggerLoaded n (givenTrigger e m1 m0 v1 v0 scr pr li w) n
    rw [if_pos rfl, Trigger.evaluate_idle rfl] at hself
    have hscreens : (BitVec.ofNat 2 scr.toNat).toNat = scr.toNat := by
      rw [BitVec.toNat_ofNat]
      omega
    have hother : ∀ k, k ≠ n → (s.triggerLoaded n (givenTrigger e m1 m0 v1 v0 scr pr li w)).trigger k = s.trigger k := fun k hk =>
      (s.trigger_triggerLoaded n _ k).trans (if_neg hk)
    have hframe := s.triggerLoaded_frame n (givenTrigger e m1 m0 v1 v0 scr pr li w)
    have horders := s.triggerLoaded_orders n (givenTrigger e m1 m0 v1 v0 scr pr li w)
    have hanswer := hexec (loadTriggerEffect_some hread s)
    generalize s.triggerLoaded n (givenTrigger e m1 m0 v1 v0 scr pr li w) = t
      at hanswer hself hother hdoors hvirtual hpins hchosen hframe horders
    obtain ⟨hcams, htrunks, hchannels, hlenses, hscreenRecords, hviews, halerts, hloader, hflash⟩ := hframe
    exact ⟨_, hanswer, congrArg Trigger.enable hself, congrArg Trigger.mask hself,
      congrArg Trigger.value hself, (congrArg (fun t => t.screens.toNat) hself).trans hscreens, congrArg Trigger.view hself,
      congrArg Trigger.priority hself, congrArg Trigger.linger hself, (congrArg Trigger.state hself).trans (by simp [givenTrigger]),
      hother, fun sc => hchosen sc, State.replied_slot .., State.replied_orders_congr horders i o _, hdoors, hvirtual, hpins, hcams,
      htrunks, hchannels, hlenses, hscreenRecords, hviews, halerts, hloader, hflash⟩

end Sys2Proof.Machine

/-! # Proofs: SET-LINES (R101 to R103, R106, R112, R113, entries 12, 13) -/

namespace Sys2Proof.Machine

/-! ## The fields (R102) -/

/-- A masked virtual line takes its value, and the rest stay. -/
theorem maskedLines_getLsbD (old mask values : BitVec 8) {n : Nat} (h : n < 8) :
    (maskedLines old mask values).getLsbD n = if mask.getLsbD n then values.getLsbD n else old.getLsbD n := by
  unfold maskedLines
  rw [BitVec.getLsbD_or, BitVec.getLsbD_and, BitVec.getLsbD_and, BitVec.getLsbD_not, decide_eq_true h]
  cases mask.getLsbD n <;> simp

theorem readSetLines_time (mask values filters : Byte) (times : List Byte) (d : Fin 8) :
    (readSetLines (mask :: values :: filters :: times)).times.getD d.val 0 = (times.getD d.val 0).toNat := by
  have hplace : ∀ n, byteAt (mask :: values :: filters :: times) (3 + n) = (times.getD n 0).toNat := fun n => by
    rw [Nat.add_comm]
    rfl
  simp [readSetLines, hplace]

/-- Whether a SET-LINES is CLAMPED (R102). -/
theorem timesClamped_eq (filters : BitVec 8) (times : List Nat) :
    timesClamped filters times = decide (∃ d : Fin 8, filters.getLsbD d.val = true ∧ 250 < times.getD d.val 0) := by
  have hflag : ∀ n, (clamp 0 250 n).flag = decide (250 < n) := fun n => by simp [(clamp_spec (by decide : 0 ≤ 250) n).2]
  rw [Bool.eq_iff_iff]
  simp [timesClamped, hasMember, hflag]

/-! ## One filter time (R101) -/

/-- A door line with a new filter time, compared with the wait that runs (R101). -/
def DoorLine.withTime (time : Nat) (l : DoorLine) : DoorLine :=
  match l.wait with
  | none => { l with filterTime := time }
  | some e =>
    if time ≤ e then { l with filterTime := time, filtered := l.raw, wait := none, stoppedAt := e } else { l with filterTime := time }

section
variable {l : DoorLine} {s : State} {d : Fin 8} {time e : Nat}

theorem DoorLine.withTime_over (hw : l.wait = some e) (h : time ≤ e) :
    l.withTime time = { l with filterTime := time, filtered := l.raw, wait := none, stoppedAt := e } := by
  simp only [DoorLine.withTime, hw, if_pos h]

theorem DoorLine.withTime_stored (h : ∀ e, l.wait = some e → ¬time ≤ e) : l.withTime time = { l with filterTime := time } := by
  unfold DoorLine.withTime
  split
  · rfl
  · next hw => exact if_neg (h _ hw)

theorem State.setFilterTime_over (hw : (s.door d).wait = some e) (h : time ≤ e) : s.setFilterTime d time =
    (s.updDoor d (fun l => { l with filterTime := time })).setFiltered d (s.door d).raw e := by
  simp only [State.setFilterTime, State.door_updDoor_self, hw, if_pos h]

theorem State.setFilterTime_stored (h : ∀ e, (s.door d).wait = some e → ¬time ≤ e) :
    s.setFilterTime d time = s.updDoor d (fun l => { l with filterTime := time }) := by
  unfold State.setFilterTime
  dsimp only
  rw [State.door_updDoor_self]
  split
  · next hw => exact if_neg (h _ hw)
  · rfl

end

/-- A new filter time is a moment of the line vector (R101, R103). -/
theorem State.setFilterTime_moment {s : State} (h : s.TriggersFollowVector) (d : Fin 8) (time : Nat) :
    let t := s.setFilterTime d time
    t.door d = (s.door d).withTime time ∧ (∀ e, e ≠ d → t.door e = s.door e) ∧ t.selector.virtual = s.selector.virtual ∧
      t.TriggersFollowVector ∧ s.VectorMoves t := by
  by_cases hover : ∃ e, (s.door d).wait = some e ∧ time ≤ e
  · obtain ⟨e, hw, hle⟩ := hover
    rw [State.setFilterTime_over hw hle, DoorLine.withTime_over hw hle]
    exact State.setFiltered_moment h rfl (s.door d).raw e
  · have hstored : ∀ e, (s.door d).wait = some e → ¬time ≤ e := fun e hw hle => hover ⟨e, hw, hle⟩
    obtain ⟨hfollows, hmoves⟩ := State.updDoor_moves (d := d) (f := fun l => { l with filterTime := time }) h rfl
    rw [State.setFilterTime_stored hstored, DoorLine.withTime_stored hstored]
    exact ⟨State.door_updDoor_self .., fun e he => State.door_updDoor_of_ne _ _ he, rfl, hfollows, hmoves⟩

/-! ## The moments of a SET-LINES (R102, entries 12, 13) -/

/-- The hub after the virtual lines of a SET-LINES: one change of the line vector, if they change (R102). -/
def State.virtualSet (s : State) (o : SetLines) : State :=
  let virtual := maskedLines s.selector.virtual o.lineMask o.lineValues
  if virtual ≠ s.selector.virtual then { s with selector := { s.selector with virtual := virtual } }.vectorChanged else s

/-- One filter time of a SET-LINES, if it is masked (R102). -/
def State.timeSet (o : SetLines) (s : State) (d : Fin 8) : State :=
  if hasMember o.filterMask d.val then s.setFilterTime d (clamp 0 250 (o.times.getD d.val 0)).value else s

/-- The hub after the virtual lines and the first `n` filter times of a SET-LINES (entry 12). -/
def State.lineMoment (s : State) (o : SetLines) (n : Nat) : State :=
  ((List.finRange 8).take n).foldl (State.timeSet o) (s.virtualSet o)

theorem State.setLines_eq (s : State) (o : SetLines) : s.setLines o = s.lineMoment o 8 := rfl

theorem State.lineMoment_zero (s : State) (o : SetLines) : s.lineMoment o 0 = s.virtualSet o := rfl

theorem State.lineMoment_succ (s : State) (o : SetLines) (d : Fin 8) :
    s.lineMoment o (d.val + 1) = (s.lineMoment o d.val).timeSet o d := by
  have hd : (List.finRange 8)[d.val]? = some d := by simp
  rw [State.lineMoment, List.take_add_one, hd, List.foldl_append]
  rfl

/-- The virtual lines are the first moment (R102, R103). -/
theorem State.virtualSet_moment {s : State} (h : s.TriggersFollowVector) (o : SetLines) :
    (s.virtualSet o).selector.doors = s.selector.doors ∧
    (s.virtualSet o).selector.virtual = maskedLines s.selector.virtual o.lineMask o.lineValues ∧
    (s.virtualSet o).TriggersFollowVector ∧ s.VectorMoves (s.virtualSet o) := by
  unfold State.virtualSet
  dsimp only
  split
  · obtain ⟨hdoors, hvirtual, -⟩ := { s with selector := { s.selector with
      virtual := maskedLines s.selector.virtual o.lineMask o.lineValues } }.vectorChanged_spec
    exact ⟨hdoors, hvirtual, State.vectorChanged_follows _ fun t => (h t).2, .of_lines (State.vectorChanged_moves _)⟩
  · next hsame =>
    exact ⟨rfl, (not_not.1 hsame).symm, h, .of_same h (fun _ => rfl) rfl rfl rfl rfl id (by simp)⟩

/-- A door line with the filter time that a SET-LINES gives it (R101, R102). -/
def DoorLine.timeSet (o : SetLines) (d : Fin 8) (l : DoorLine) : DoorLine :=
  if hasMember o.filterMask d.val then l.withTime (clamp 0 250 (o.times.getD d.val 0)).value else l

/-- Each filter time is a moment (R102, R103). -/
theorem State.timeSet_moment {s : State} (h : s.TriggersFollowVector) (o : SetLines) (d : Fin 8) :
    (s.timeSet o d).door d = (s.door d).timeSet o d ∧ (∀ e, e ≠ d → (s.timeSet o d).door e = s.door e) ∧
    (s.timeSet o d).selector.virtual = s.selector.virtual ∧ (s.timeSet o d).TriggersFollowVector ∧ s.VectorMoves (s.timeSet o d) := by
  unfold State.timeSet DoorLine.timeSet
  split
  · exact State.setFilterTime_moment h d _
  · exact ⟨rfl, fun _ _ => rfl, rfl, h, .of_same h (fun _ => rfl) rfl rfl rfl rfl id (by simp)⟩

section
variable {s : State} (h : s.TriggersFollowVector) (o : SetLines)
include h

theorem State.lineMoment_follows {n : Nat} (hn : n ≤ 8) : (s.lineMoment o n).TriggersFollowVector := by
  induction n with
  | zero =>
    obtain ⟨-, -, hfollows, -⟩ := State.virtualSet_moment h o
    exact hfollows
  | succ n ih =>
    obtain ⟨-, -, -, hfollows, -⟩ := State.timeSet_moment (ih (by omega)) o ⟨n, hn⟩
    exact s.lineMoment_succ o ⟨n, hn⟩ ▸ hfollows

/-- The move from one moment to the next. -/
theorem State.lineMoment_next (d : Fin 8) :
    (s.lineMoment o (d.val + 1)).door d = ((s.lineMoment o d.val).door d).timeSet o d ∧
    (∀ e, e ≠ d → (s.lineMoment o (d.val + 1)).door e = (s.lineMoment o d.val).door e) ∧
    (s.lineMoment o (d.val + 1)).selector.virtual = (s.lineMoment o d.val).selector.virtual ∧
    (s.lineMoment o d.val).VectorMoves (s.lineMoment o (d.val + 1)) := by
  obtain ⟨hself, hother, hvirtual, -, hmoves⟩ := State.timeSet_moment (State.lineMoment_follows h o d.isLt.le) o d
  rw [State.lineMoment_succ]
  exact ⟨hself, hother, hvirtual, hmoves⟩

/-- A door line has its new filter time from its own moment on. -/
theorem State.door_lineMoment (d : Fin 8) {n : Nat} (hn : n ≤ 8) :
    (s.lineMoment o n).door d = if d.val < n then (s.door d).timeSet o d else s.door d := by
  induction n with
  | zero =>
    obtain ⟨hdoors, -⟩ := State.virtualSet_moment h o
    rw [if_neg (Nat.not_lt_zero _), State.lineMoment_zero, State.door, hdoors]
    rfl
  | succ n ih =>
    obtain ⟨hself, hother, -⟩ := State.lineMoment_next h o ⟨n, hn⟩
    have hbefore := ih (by omega)
    by_cases hd : d = ⟨n, hn⟩
    · subst hd
      rw [if_neg (lt_irrefl _)] at hbefore
      rw [if_pos (Nat.lt_succ_self _), hself, hbefore]
    · have hne : d.val ≠ n := fun e => hd (Fin.ext e)
      have hiff : d.val < n ↔ d.val < n + 1 := by omega
      rw [hother d hd, hbefore]
      simp only [hiff]

theorem State.lineMoment_chosen (hc : s.ChosenViewsCurrent) {n : Nat} (hn : n ≤ 8) : (s.lineMoment o n).ChosenViewsCurrent := by
  induction n with
  | zero =>
    obtain ⟨-, -, -, hmoves⟩ := State.virtualSet_moment h o
    exact hmoves.chosen hc
  | succ n ih =>
    obtain ⟨-, -, -, hmoves⟩ := State.lineMoment_next h o ⟨n, hn⟩
    exact hmoves.chosen (ih (by omega))

theorem State.lineMoment_pins {n : Nat} (hn : n ≤ 8) : (s.lineMoment o n).selector.pins = s.selector.pins := by
  induction n with
  | zero =>
    obtain ⟨-, -, -, hmoves⟩ := State.virtualSet_moment h o
    exact hmoves.pins
  | succ n ih =>
    obtain ⟨-, -, -, hmoves⟩ := State.lineMoment_next h o ⟨n, hn⟩
    exact hmoves.pins.trans (ih (by omega))

end

/-- Settles O33: the moments are those of `State.lineMoment`. -/
theorem setLinesStoresLines : Obligations.SetLinesStoresLines := by
  intro s i o mask values filters times hlen h hf
  obtain ⟨fields, hfields⟩ : ∃ fields, fields = readSetLines (mask :: values :: filters :: times) := ⟨_, rfl⟩
  have hmask : fields.filterMask = filters := by rw [hfields]; rfl
  have htime : ∀ d : Fin 8, fields.times.getD d.val 0 = (times.getD d.val 0).toNat := fun d => by rw [hfields, readSetLines_time]
  have hclamped : timesClamped fields.filterMask fields.times =
      decide (∃ d : Fin 8, filters.getLsbD d.val = true ∧ 250 < (times.getD d.val 0).toNat) := by
    simp only [timesClamped_eq, hmask, htime]
  have hanswer := h.exec_order (c := .setLines) rfl (by decide) (by simp [hlen])
    (r := (s.lineMoment fields 8, .done _)) (by rw [setLinesEffect, ← hfields, State.setLines_eq, hclamped])
  obtain ⟨hdoors, hvirtual, -, hfirst⟩ := State.virtualSet_moment hf fields
  have hdoor : ∀ d : Fin 8, (s.lineMoment fields 8).door d =
      if filters.getLsbD d.val then (s.door d).withTime (min 250 (times.getD d.val 0).toNat) else s.door d := fun d => by
    rw [State.door_lineMoment hf fields d le_rfl, if_pos d.isLt, DoorLine.timeSet, hmask, htime,
      (clamp_spec (by decide : 0 ≤ 250) _).1, Nat.zero_max]
    rfl
  have hframe : (s.lineMoment fields 8).cams = s.cams ∧ (s.lineMoment fields 8).trunks = s.trunks ∧
      (s.lineMoment fields 8).channels = s.channels ∧ (s.lineMoment fields 8).lenses = s.lenses ∧
      (s.lineMoment fields 8).screens = s.screens ∧ (s.lineMoment fields 8).alerts = s.alerts ∧
      (s.lineMoment fields 8).loader = s.loader ∧ (s.lineMoment fields 8).flash = s.flash := by
    simp [← State.setLines_eq]
  have hfollows := State.lineMoment_follows hf fields le_rfl
  have hpins := State.lineMoment_pins hf fields le_rfl
  refine ⟨s.lineMoment fields, _, hanswer, hfirst, hdoors, fun n hn => ?_, fun d => ?_, rfl, fun d hd => ?_, fun d hd hw => ?_,
    fun d e hd hw => ?_, fun n => hfollows n, fun hc sc => State.lineMoment_chosen hf fields hc le_rfl sc, State.replied_slot .., hpins,
    hframe⟩
  · rw [State.lineMoment_zero, hvirtual, maskedLines_getLsbD _ _ _ hn, hfields]
    rfl
  · obtain ⟨hself, hother, hkept, hmoves⟩ := State.lineMoment_next hf fields d
    have hnew := State.door_lineMoment hf fields d d.isLt
    rw [if_pos (Nat.lt_succ_self _)] at hnew
    have hlast := State.door_lineMoment hf fields d le_rfl
    rw [if_pos d.isLt] at hlast
    exact ⟨hmoves, hkept, hother, hnew.trans hlast.symm⟩
  · exact (hdoor d).trans (if_neg (by rw [hd]; nofun))
  · exact (hdoor d).trans ((if_pos hd).trans (DoorLine.withTime_stored (by rw [hw]; nofun)))
  · refine (hdoor d).trans ((if_pos hd).trans ?_)
    split
    · next hle => exact DoorLine.withTime_over hw hle
    · next hlt =>
      refine DoorLine.withTime_stored fun e' hw' => ?_
      rw [hw] at hw'
      exact Option.some.inj hw' ▸ hlt

end Sys2Proof.Machine

/-! # Proofs: LOAD-VIEW (R121 to R125, R157) -/

namespace Sys2Proof.Machine

/-! ## The fields of a tile (R121, R158) -/

theorem instanceOf_eq_some_iff {n b : Nat} {c : Fin n} : instanceOf n b = some c ↔ c.val = b := by
  refine ⟨fun h => ?_, instanceOf_eq_some⟩
  unfold instanceOf at h
  split at h
  · cases h
    rfl
  · cases h

theorem channelOrNoneCode_le (c : Option (Fin 12)) : channelOrNoneCode c ≤ 12 := by
  cases c with
  | none => exact le_rfl
  | some c => exact c.isLt.le

theorem channelOrNoneOf_code (c : Option (Fin 12)) : channelOrNoneOf (channelOrNoneCode c) = some c := by
  cases c with
  | none => rfl
  | some c => rw [channelOrNoneCode, channelOrNoneOf_of_le c.isLt.le, dif_pos c.isLt]

theorem channelOrNoneOf_eq_some_iff {n : Nat} {c : Option (Fin 12)} : channelOrNoneOf n = some c ↔ channelOrNoneCode c = n := by
  refine ⟨fun h => ?_, fun h => h ▸ channelOrNoneOf_code c⟩
  by_cases hn : n ≤ 12
  · rw [channelOrNoneOf_of_le hn] at h
    split at h
    · cases h
      rfl
    · cases h
      exact (Nat.le_antisymm hn (not_lt.1 ‹_›)).symm
  · rw [channelOrNoneOf_of_lt (not_le.1 hn)] at h
    cases h

theorem exists_channelOrNoneCode {n : Nat} (h : n ≤ 12) : ∃ c, channelOrNoneCode c = n :=
  ⟨_, channelOrNoneOf_eq_some_iff.1 (channelOrNoneOf_of_le h)⟩

theorem map_val_of_channelOrNoneCode (c : Option (Fin 12)) :
    c.map Fin.val = if channelOrNoneCode c = 12 then none else some (channelOrNoneCode c) := by
  cases c with
  | none => rfl
  | some c => exact (if_neg c.isLt.ne).symm

theorem channelOrNoneCode_eq_val_iff {c : Option (Fin 12)} {p : Fin 12} : channelOrNoneCode c = p.val ↔ c = some p := by
  cases c with
  | none => exact iff_of_false p.isLt.ne' nofun
  | some c => exact Fin.ext_iff.symm.trans (Option.some_inj).symm

theorem SubstituteLevel.ofCode_eq_some_iff {n : Nat} {l : SubstituteLevel} : SubstituteLevel.ofCode n = some l ↔ l.code = n := by
  refine ⟨fun h => ?_, fun h => ?_⟩
  · unfold SubstituteLevel.ofCode at h
    split at h <;> cases h <;> rfl
  · subst h
    cases l <;> rfl

theorem SubstituteLevel.getElem?_code (l : SubstituteLevel) : [SubstituteLevel.never, .smear, .blocked][l.code]? = some l := by
  cases l <;> rfl

theorem SubstituteLevel.code_lt (l : SubstituteLevel) : l.code < 3 := by
  cases l <;> decide

theorem SubstituteLevel.exists_code {n : Nat} (h : n < 3) : ∃ l : SubstituteLevel, l.code = n := by
  interval_cases n
  exacts [⟨.never, rfl⟩, ⟨.smear, rfl⟩, ⟨.blocked, rfl⟩]

theorem flagOf_eq_some_iff {n : Nat} {b : Bool} : flagOf n = some b ↔ b.toNat = n := by
  refine ⟨fun h => ?_, fun h => ?_⟩
  · unfold flagOf at h
    split at h <;> cases h <;> rfl
  · subst h
    cases b <;> rfl

theorem wordAt_cons_zero (a b : Byte) (bs : List Byte) : wordAt (a :: b :: bs) 0 = 256 * a.toNat + b.toNat := by
  rw [Nat.mul_comm]
  rfl

theorem wordAt_cons_succ (a : Byte) (bs : List Byte) (i : Nat) : wordAt (a :: bs) (i + 1) = wordAt bs i := rfl

/-! ## The fitted tile (R123, R124) -/

/-- The first column or row of the 8-pixel grid cell that holds `n` (R123). -/
def gridStart (n : Nat) : Nat := n - n % 8

theorem div_mul_eq_gridStart (n : Nat) : n / 8 * 8 = gridStart n := Nat.div_mul_self_eq_mod_sub_self

/-- The columns or rows from `first` to `last` can be scaled to the extent `d` of a destination (R124). -/
def Scales (first last d : Nat) : Prop := first ≤ last ∧ last + 1 - first ≤ 8 * d ∧ d ≤ 4 * (last + 1 - first)

/-- A tile's window is not empty, and both its extents can be scaled to the destination (R124). -/
def Tile.Fits (t : Tile) : Prop := Scales t.left t.right t.w ∧ Scales t.top t.bottom t.h

section
variable (ps : List Byte)

/-- The tile that the fields of a LOAD-VIEW give: the window fitted and clamped, the destination clamped (R122, R123). -/
def fittedTile (primary : Fin 12) (alternate : Option (Fin 12)) (level : SubstituteLevel) (mirror : Bool) : Tile where
  primary := primary
  alternate := alternate
  level := level
  left := gridStart (wordAt ps 3)
  top := gridStart (wordAt ps 5)
  right := min 1279 (gridStart (wordAt ps 7) + 7)
  bottom := min 719 (gridStart (wordAt ps 9) + 7)
  x := min 1279 (wordAt ps 11)
  y := min 799 (wordAt ps 13)
  w := min 1280 (max 16 (wordAt ps 15))
  h := min 800 (max 16 (wordAt ps 17))
  mirror := mirror

/-- A field of a tile was clamped (R122, R123). -/
def tileClamped : Bool :=
  decide (1279 < gridStart (wordAt ps 7) + 7 ∨ 719 < gridStart (wordAt ps 9) + 7 ∨ 1279 < wordAt ps 11 ∨ 799 < wordAt ps 13 ∨
    wordAt ps 15 < 16 ∨ 1280 < wordAt ps 15 ∨ wordAt ps 17 < 16 ∨ 800 < wordAt ps 17)

/-- The clamped fields that the model joins are those that `tileClamped` names. -/
theorem tileClamped_eq :
    tileClamped ps = (decide (1279 < gridStart (wordAt ps 7) + 7) || decide (719 < gridStart (wordAt ps 9) + 7) ||
      decide (1279 < wordAt ps 11) || decide (799 < wordAt ps 13) || decide (wordAt ps 15 < 16 ∨ 1280 < wordAt ps 15) ||
      decide (wordAt ps 17 < 16 ∨ 800 < wordAt ps 17)) := by
  simp only [tileClamped, Bool.decide_or, Bool.or_assoc]

/-- A tile is read when each field names a value, the alternate is another channel than the primary, and the fitted tile fits. -/
theorem readTile_eq_some_iff {r : Tile × Bool} : readTile ps = some r ↔ ∃ primary alternate level mirror,
    primary.val = byteAt ps 0 ∧ channelOrNoneCode alternate = byteAt ps 1 ∧ SubstituteLevel.code level = byteAt ps 2 ∧
    mirror.toNat = byteAt ps 19 ∧ alternate ≠ some primary ∧ (fittedTile ps primary alternate level mirror).Fits ∧
    (fittedTile ps primary alternate level mirror, tileClamped ps) = r := by
  have hlow : ∀ high n, (clamp 0 high n).value = min high n ∧ (clamp 0 high n).flag = decide (high < n) := fun high n => by
    simpa using clamp_spec (Nat.zero_le high) n
  have hw := clamp_spec (by decide : 16 ≤ 1280) (wordAt ps 15)
  have hh := clamp_spec (by decide : 16 ≤ 800) (wordAt ps 17)
  simp only [readTile, Option.bind_eq_bind, Option.bind_eq_some_iff, instanceOf_eq_some_iff, channelOrNoneOf_eq_some_iff,
    SubstituteLevel.ofCode_eq_some_iff, flagOf_eq_some_iff, div_mul_eq_gridStart, hlow, hw, hh, ← tileClamped_eq, exists_and_left]
  refine exists_congr fun primary => and_congr_right fun _ => exists_congr fun alternate => and_congr_right fun _ =>
    exists_congr fun level => and_congr_right fun _ => exists_congr fun mirror => and_congr_right fun _ => ?_
  rw [Option.ite_none_left_eq_some, Option.ite_none_left_eq_some, Option.ite_none_right_eq_some]
  simp only [Bool.or_eq_true, Bool.and_eq_true, decide_eq_true_eq, not_or, not_lt, Tile.Fits, Scales, fittedTile, Option.pure_def,
    Option.some.injEq, and_assoc]
  exact ⟨fun ⟨hne, hwidth, hheight, hw₁, hw₂, hh₁, hh₂, hr⟩ => ⟨hne, hwidth, hw₁, hw₂, hheight, hh₁, hh₂, hr⟩,
    fun ⟨hne, hwidth, hw₁, hw₂, hheight, hh₁, hh₂, hr⟩ => ⟨hne, hwidth, hheight, hw₁, hw₂, hh₁, hh₂, hr⟩⟩

end

/-- What R122 to R124 refuse of the fields of a tile. -/
def TileRefused (ps : List Byte) : Prop :=
  12 ≤ byteAt ps 0 ∨ 13 ≤ byteAt ps 1 ∨ byteAt ps 1 = byteAt ps 0 ∨ 3 ≤ byteAt ps 2 ∨ 2 ≤ byteAt ps 19 ∨
    ¬ Scales (gridStart (wordAt ps 3)) (min 1279 (gridStart (wordAt ps 7) + 7)) (min 1280 (max 16 (wordAt ps 15))) ∨
    ¬ Scales (gridStart (wordAt ps 5)) (min 719 (gridStart (wordAt ps 9) + 7)) (min 800 (max 16 (wordAt ps 17)))

theorem readTile_of_refused {ps : List Byte} (h : TileRefused ps) : readTile ps = none := by
  refine Option.eq_none_iff_forall_ne_some.2 fun r hr => ?_
  obtain ⟨primary, alternate, level, mirror, hprimary, halternate, hlevel, hmirror, hne, ⟨hwidth, hheight⟩, -⟩ :=
    (readTile_eq_some_iff ps).1 hr
  have hp := primary.isLt
  have ha := channelOrNoneCode_le alternate
  have hl := level.code_lt
  have hm := mirror.toNat_lt
  rcases h with h | h | h | h | h | h | h
  · omega
  · omega
  · rw [← hprimary, ← halternate] at h
    exact hne (channelOrNoneCode_eq_val_iff.1 h)
  · omega
  · omega
  · exact h hwidth
  · exact h hheight

theorem readTile_of_not_refused {ps : List Byte} (h : ¬TileRefused ps) : ∃ primary alternate level,
    primary.val = byteAt ps 0 ∧ channelOrNoneCode alternate = byteAt ps 1 ∧ SubstituteLevel.code level = byteAt ps 2 ∧
    readTile ps = some (fittedTile ps primary alternate level (decide (byteAt ps 19 = 1)), tileClamped ps) := by
  simp only [TileRefused, not_or, not_le, not_not] at h
  obtain ⟨hp, ha, hne, hl, hm, hwidth, hheight⟩ := h
  obtain ⟨alternate, halternate⟩ := exists_channelOrNoneCode (Nat.le_of_lt_succ ha)
  obtain ⟨level, hlevel⟩ := SubstituteLevel.exists_code hl
  have hmirror : (decide (byteAt ps 19 = 1)).toNat = byteAt ps 19 := by
    interval_cases byteAt ps 19 <;> rfl
  have hother : alternate ≠ some ⟨byteAt ps 0, hp⟩ := fun e => hne (halternate.symm.trans (channelOrNoneCode_eq_val_iff.2 e))
  exact ⟨⟨byteAt ps 0, hp⟩, alternate, level, rfl, halternate, hlevel,
    (readTile_eq_some_iff ps).2 ⟨_, _, _, _, rfl, halternate, hlevel, hmirror, hother, ⟨hwidth, hheight⟩, rfl⟩⟩

/-- Tiles stand one after another, 20 bytes each (R122). -/
theorem readTiles_append (n : Nat) {tile : List Byte} (h : tile.length = 20) (rest : List Byte) :
    readTiles (n + 1) (tile ++ rest) = (readTile tile).bind (fun t => (readTiles n rest).map (t :: ·)) := by
  rw [readTiles, List.take_left' h, List.drop_left' h]
  cases readTile tile with
  | none => rfl
  | some t => cases readTiles n rest <;> rfl

/-! ## The order (R122, R125, R157) -/

theorem readLoadView_of_short {ps : List Byte} (h : ps.length < 5) : readLoadView ps = none := by
  simp [readLoadView, h]

section
variable {b y cb cr n : Byte} {rest : List Byte}

theorem readLoadView_cons : readLoadView (b :: y :: cb :: cr :: n :: rest) =
    if n.toNat ≤ 8 ∧ rest.length = 20 * n.toNat then
      (instanceOf 32 b.toNat).bind (fun v => (readTiles n.toNat rest).map (fun ts =>
        (v, { background := ⟨y, cb, cr⟩, tiles := ts.map Prod.fst }, ts.any Prod.snd)))
    else none := by
  have hlength : (rest.length + 5 < 5 ∨ 8 < n.toNat) ∨ rest.length + 5 ≠ 5 + 20 * n.toNat ↔
      ¬(n.toNat ≤ 8 ∧ rest.length = 20 * n.toNat) := by omega
  rw [readLoadView, ← ite_not (p := _ ∧ _)]
  simp only [Bool.or_eq_true, decide_eq_true_eq]
  refine if_ctx_congr hlength (fun _ => rfl) fun _ => ?_
  simp only [Option.map_eq_bind]
  rfl

theorem readLoadView_none (h : 32 ≤ b.toNat ∨ 8 < n.toNat ∨ rest.length ≠ 20 * n.toNat ∨ readTiles n.toNat rest = none) :
    readLoadView (b :: y :: cb :: cr :: n :: rest) = none := by
  rw [readLoadView_cons]
  split
  · next hok =>
    rcases h with h | h | h | h
    · rw [instanceOf_eq_none h]
      rfl
    · exact absurd hok.1 (not_le.2 h)
    · exact absurd hok.2 h
    · rw [h]
      cases instanceOf 32 b.toNat <;> rfl
  · rfl

theorem readLoadView_some {v : Fin 32} {ts : List (Tile × Bool)} (hv : v.val = b.toNat) (hn : n.toNat ≤ 8)
    (hlen : rest.length = 20 * n.toNat) (hts : readTiles n.toNat rest = some ts) :
    readLoadView (b :: y :: cb :: cr :: n :: rest) =
      some (v, { background := ⟨y, cb, cr⟩, tiles := ts.map Prod.fst }, ts.any Prod.snd) := by
  rw [readLoadView_cons, if_pos ⟨hn, hlen⟩, instanceOf_eq_some hv, hts]
  rfl

end

/-- LOAD-VIEW has no length of its own: its command hands every length to the effect (R157). -/
theorem State.Executes.exec_loadView {s : State} {i : Fin 2} {o : HeldOrder} {ps : List Byte} (h : s.Executes i o 7 ps)
    {r : State × Answer} (hr : loadViewEffect ps s = r) : exec .loadView s = .next (r.1.replied i o r.2) := by
  subst hr
  have hloaded : s.loading = false := by simp [State.loading, h.loaded]
  rw [exec_of_running h.running, State.onCommand, h.onOrder rfl (by decide), h.carries, State.carryOut, hloaded]
  rfl

theorem State.Executes.exec_loadView_refused {s : State} {i : Fin 2} {o : HeldOrder} {ps : List Byte} (h : s.Executes i o 7 ps)
    (hread : readLoadView ps = none) : exec .loadView s = .next (s.replied i o (.refused .badField)) :=
  h.exec_loadView (r := (s, .refused .badField)) (by rw [loadViewEffect, hread])

/-- Settles O39: a tile by `readTile_eq_some_iff`, which says which fields are accepted and what tile they give; the order by
`readLoadView`. -/
theorem loadViewReplacesTheView : Obligations.LoadViewReplacesTheView := by
  refine ⟨?_, fun _ => rfl, fun n tile rest h => readTiles_append n h rest, fun s i o ps h => ⟨fun hshort => ?_, ?_⟩⟩
  · intro p a lv l1 l0 t1 t0 r1 r0 b1 b0 x1 x0 y1 y0 w1 w0 h1 h0 m word left top raisedRight raisedBottom right bottom w h bad given
    have hword : wordAt given 3 = word l1 l0 ∧ wordAt given 5 = word t1 t0 ∧ wordAt given 7 = word r1 r0 ∧
        wordAt given 9 = word b1 b0 ∧ wordAt given 11 = word x1 x0 ∧ wordAt given 13 = word y1 y0 ∧ wordAt given 15 = word w1 w0 ∧
        wordAt given 17 = word h1 h0 := by
      simp only [given, wordAt_cons_succ, wordAt_cons_zero, word, and_self]
    obtain ⟨hleft, htop, hright, hbottom, hx, hy, hw, hh⟩ := hword
    have hrefused : TileRefused given ↔ bad := by
      rw [TileRefused, hleft, htop, hright, hbottom, hw, hh]
      change 12 ≤ p.toNat ∨ 13 ≤ a.toNat ∨ a.toNat = p.toNat ∨ 3 ≤ lv.toNat ∨ 2 ≤ m.toNat ∨
        ¬Scales left right w ∨ ¬Scales top bottom h ↔ _
      simp only [Scales, not_and_or, not_le, BitVec.toNat_inj, bad]
      tauto
    rw [← hrefused]
    refine ⟨readTile_of_refused, fun hok => ?_⟩
    obtain ⟨primary, alternate, level, hprimary, halternate, hlevel, hread⟩ := readTile_of_not_refused hok
    change _ = a.toNat at halternate
    change _ = lv.toNat at hlevel
    rw [tileClamped, hright, hbottom, hx, hy, hw, hh] at hread
    refine ⟨_, hread, hprimary, ?_, ?_, congrArg gridStart hleft, congrArg gridStart htop, congrArg (min 1279 <| gridStart · + 7) hright,
      congrArg (min 719 <| gridStart · + 7) hbottom, congrArg (min 1279) hx, congrArg (min 799) hy,
      congrArg (min 1280 <| max 16 ·) hw, congrArg (min 800 <| max 16 ·) hh, ?_⟩
    · refine (map_val_of_channelOrNoneCode alternate).trans ?_
      rw [halternate]
      exact if_congr (BitVec.toNat_inj (y := 12)) rfl rfl
    · exact hlevel ▸ level.getElem?_code
    · exact decide_eq_decide.2 (BitVec.toNat_inj (y := 1))
  · exact h.exec_loadView_refused (readLoadView_of_short hshort)
  · rintro b y cb cr n rest rfl
    refine ⟨fun hbad => h.exec_loadView_refused (readLoadView_none hbad), fun v ts hv hn hlen hts => ?_⟩
    exact h.exec_loadView (r := ({ s with views := s.views.set v.val _ }, .done _))
      (by rw [loadViewEffect, readLoadView_some hv hn hlen hts]; rfl)

end Sys2Proof.Machine

/-! # Proofs: every step keeps the alert entries as their members call for (R142 to R147, R150, R171)

A running hub changes what an entry watches, the state and grade of a channel and the stated grade of a port, by events at a channel and
at a lens record alone, and both evaluate the entries that watch the record. Everything else leaves the entries and what they watch, but
for PULSE_BOUNDARY, SET-ALERT and time, which keep an entry as its demand has it. -/

namespace Sys2Proof.Machine

/-! ## One alert entry (R146, R147) -/

@[simp] theorem Alert.atBoundary_settings (e : Alert) : e.atBoundary.settings = e.settings := by
  unfold Alert.atBoundary
  split <;> rfl

theorem Alert.Follows.atBoundary {e : Alert} {d : Bool} (h : e.Follows d) : e.atBoundary.Follows d := by
  obtain ⟨hdemand, hpulse, hline⟩ := h
  unfold Alert.atBoundary
  split
  · exact ⟨hdemand, hpulse, hline⟩
  · next p hp =>
    rw [hp] at hpulse
    exact ⟨hdemand, hpulse, rfl⟩

/-- A millisecond leaves the phase of a pulse. -/
theorem Alert.Follows.tick {e : Alert} {d : Bool} (h : e.Follows d) : e.tick.Follows d := by
  obtain ⟨hdemand, hpulse, hline⟩ := h
  refine ⟨hdemand, (iff_of_eq (congrArg (· = true) Option.isSome_map)).trans hpulse, hline.trans ?_⟩
  unfold Alert.tick
  cases e.pulse <;> rfl

/-! ## What the entries watch (R144, R145) -/

namespace State.AlertsFollowMembers

variable {s t : State}

theorem of_frame (h : s.AlertsFollowMembers) (e : t.alerts = s.alerts ∧ t.channels = s.channels ∧ t.lenses = s.lenses) :
    t.AlertsFollowMembers := by
  obtain ⟨halerts, hchannels, hlenses⟩ := e
  exact h.of_watched ((WatchedAlike.refl s).of_frame halerts hchannels hlenses)

/-- Whichever of two states a condition chooses has its entries following their members when both have. -/
theorem ite (b : Prop) [Decidable b] (hs : s.AlertsFollowMembers) (ht : t.AlertsFollowMembers) :
    (if b then s else t).AlertsFollowMembers := by
  split
  · exact hs
  · exact ht

/-- A fold keeps the entries following their members when each of its steps does. -/
theorem foldl {β : Type} {f : State → β → State} (hf : ∀ {x : State} b, x.AlertsFollowMembers → (f x b).AlertsFollowMembers)
    (l : List β) (h : s.AlertsFollowMembers) : (l.foldl f s).AlertsFollowMembers :=
  List.foldlRecOn l f h fun _ hx b _ => hf b hx

/-- A change at a channel that leaves its state and grade reaches no entry. -/
theorem updChannel (h : s.AlertsFollowMembers) (c : Fin 12) {f : Channel → Channel}
    (hf : (f (s.channel c)).state = (s.channel c).state ∧ (f (s.channel c)).grade = (s.channel c).grade) :
    (s.updChannel c f).AlertsFollowMembers := by
  rw [← State.channelEvent_quiet s c f hf.1 hf.2]
  exact h.channelEvent c f

/-- A change at a lens record that leaves its stated grade reaches no entry. -/
theorem updLens (h : s.AlertsFollowMembers) (i : Fin 8) {f : Lens → Lens} (hf : (f (s.lens i)).stated = (s.lens i).stated) :
    (s.updLens i f).AlertsFollowMembers := by
  refine h.congr rfl (fun _ => ⟨rfl, rfl⟩) fun p => ?_
  by_cases hp : p = i
  · rw [hp, State.lens_updLens_self, hf]
  · rw [State.lens_updLens_of_ne _ _ hp]

/-- A change at one entry that keeps it as its members call for. -/
theorem updAlert (h : s.AlertsFollowMembers) (a : Fin 4) {f : Alert → Alert}
    (hf : ∀ e : Alert, e.Follows (s.demandOf e.settings) → (f e).Follows (s.demandOf (f e).settings)) :
    (s.updAlert a f).AlertsFollowMembers := by
  have hdemand : ∀ x, (s.updAlert a f).demandOf x = s.demandOf x := fun x =>
    State.memberCalls_congr x (fun _ _ => ⟨rfl, rfl⟩) fun _ _ => rfl
  rw [State.alertsFollowMembers_iff] at h ⊢
  intro b
  rw [hdemand, State.updAlert_alerts, Tab.get_upd]
  split
  · exact hf _ (h a)
  · exact h b

/-! ## The switch (R22, R25 to R29, R50 to R52) -/

theorem deliver (h : s.AlertsFollowMembers) (e : StreamEntry) (f : Channel → Channel) : (s.deliver e f).AlertsFollowMembers := by
  unfold State.deliver
  split
  · exact h.channelEvent _ f
  · exact h

/-- A picture packet sent on a route is seen by no entry. -/
theorem sent (h : s.AlertsFollowMembers) (e : StreamEntry) (k : Fin 256) (p q : Packet) :
    ((s.sendIfRouted e .ta k p).sendIfRouted e .tb k q).AlertsFollowMembers := h.of_frame (by simp)

theorem updFlow (h : s.AlertsFollowMembers) (k : Fin 256) (f : StreamFlow → StreamFlow) : (s.updFlow k f).AlertsFollowMembers :=
  h.of_frame ⟨rfl, rfl, rfl⟩

theorem closeCut (h : s.AlertsFollowMembers) (k : Fin 256) : (s.closeCut k).AlertsFollowMembers :=
  ((h.sent _ k _ _).deliver _ _).updFlow k _

theorem closeIfOpen (h : s.AlertsFollowMembers) (k : Fin 256) : (s.closeIfOpen k).AlertsFollowMembers := ite _ (h.closeCut k) h

theorem originLoss (h : s.AlertsFollowMembers) (p : Port) : (s.originLoss p).AlertsFollowMembers :=
  State.originLoss_keeps (fun _ k hx => hx.closeCut k) h p

theorem switchFrameOpen (h : s.AlertsFollowMembers) (p : Port) (k : Fin 256) (frame : Nat) (grade : Grade) (home : Nat) :
    (s.switchFrameOpen p k frame grade home).AlertsFollowMembers := by
  unfold State.switchFrameOpen
  split
  · exact h.of_frame (by simp)
  · exact h.of_frame (by simp)
  · exact (((h.closeIfOpen k).updFlow k _).sent _ k _ _).deliver _ _

theorem switchFrameClose (h : s.AlertsFollowMembers) (p : Port) (k : Fin 256) (frame : Nat) (status : CloseStatus) :
    (s.switchFrameClose p k frame status).AlertsFollowMembers := by
  unfold State.switchFrameClose
  dsimp only
  (repeat' split)
  · exact h.of_frame (by simp)
  · exact h.of_frame (by simp)
  · exact ((h.updFlow k _).sent _ k _ _).deliver _ _
  · exact h.of_frame (by simp)

theorem settleLine (h : s.AlertsFollowMembers) (p : Port) (a : LineArrival) (report : EndReport) (bytes : List Byte) :
    (s.settleLine p a report bytes).AlertsFollowMembers := by
  by_cases ho : s.StillOpen a
  · have hcopies : ∀ pixels, ((s.settleCopy a report pixels .ta).settleCopy a report pixels .tb).AlertsFollowMembers := fun _ =>
      h.of_frame (by simp)
    rw [State.settleLine_open ho]
    exact ite _ (hcopies _) ((hcopies _).deliver _ _)
  · rw [State.settleLine_closed ho]
    (repeat' split) <;> exact h.of_frame (by simp)

theorem reportLineEnd (h : s.AlertsFollowMembers) (p : Port) (report : EndReport) (bytes : List Byte) :
    (s.reportLineEnd p report bytes).AlertsFollowMembers := by
  unfold State.reportLineEnd
  split
  · exact h
  · exact settleLine (h.of_frame (by simp)) p _ report bytes

theorem markUnformed (h : s.AlertsFollowMembers) (p : Port) (u : UnformedLine) : (s.markUnformed p u).AlertsFollowMembers :=
  h.of_frame (by simp)

theorem abandonArrival (h : s.AlertsFollowMembers) (p : Port) : (s.abandonArrival p).AlertsFollowMembers := by
  unfold State.abandonArrival
  split
  · exact h
  · exact markUnformed (reportLineEnd (s := { s with freeUsed := s.freeUsed + 1 }) h p .failed _) p _

/-! ## The assessor (R12, R66, R70, R71, R73, R98) -/

theorem endOpenFrame (h : s.AlertsFollowMembers) (i : Fin 8) (complete : Bool) : (s.endOpenFrame i complete).AlertsFollowMembers := by
  unfold State.endOpenFrame
  split
  · exact h
  · exact lensEvent (s := s.updCam i _) h i _

theorem openCameraFrame (h : s.AlertsFollowMembers) (i : Fin 8) (frame : Nat) : (s.openCameraFrame i frame).AlertsFollowMembers :=
  updLens (s := (s.endOpenFrame i false).updCam i _) (h.endOpenFrame i false) i rfl

theorem cameraLine (h : s.AlertsFollowMembers) (i : Fin 8) (frame line : Nat) (pixels : List Byte) :
    (s.cameraLine i frame line pixels).AlertsFollowMembers := by
  unfold State.cameraLine
  (repeat' split)
  · exact h
  · exact updLens (s := s.updCam i _) h i rfl
  · exact h

theorem closeCameraFrame (h : s.AlertsFollowMembers) (i : Fin 8) (frame : Nat) (status : CloseStatus) :
    (s.closeCameraFrame i frame status).AlertsFollowMembers := by
  unfold State.closeCameraFrame
  (repeat' split)
  · exact h
  · exact h.endOpenFrame i _
  · exact h

theorem loseCameraFrame (h : s.AlertsFollowMembers) (i : Fin 8) : (s.loseCameraFrame i).AlertsFollowMembers :=
  (h.endOpenFrame i false).updLens i rfl

/-! ## Arrivals (R1, R6 to R9, R11) -/

theorem judgeHighLine (h : s.AlertsFollowMembers) (p : Port) : (s.judgeHighLine p).AlertsFollowMembers :=
  (h.reportLineEnd p .failed []).of_frame (by simp [State.judgeHighLine])

theorem setIgnoring (h : s.AlertsFollowMembers) (p : Port) (b : Bool) : (s.setIgnoring p b).AlertsFollowMembers := h.of_frame (by simp)

theorem takeHeader (h : s.AlertsFollowMembers) (p : Port) (stream : Byte) (frame line : Nat) :
    (s.takeHeader p stream frame line).AlertsFollowMembers :=
  ite _ ((h.judgeHighLine p).of_frame (by simp)) ((h.reportLineEnd p .failed []).of_frame (by simp))

theorem ensureHeader (h : s.AlertsFollowMembers) (p : Port) (bytes : List Byte) : (s.ensureHeader p bytes).AlertsFollowMembers :=
  ite _ h (h.takeHeader p _ _ _)

theorem countFraming (h : s.AlertsFollowMembers) (p : Port) : (s.countFraming p).AlertsFollowMembers := h.of_frame (by simp)

theorem framingFault (h : s.AlertsFollowMembers) (p : Port) (cause : FramingCause) (bytes : List Byte) :
    (s.framingFault p cause bytes).AlertsFollowMembers := by
  have hhead : (if hasLineHeader bytes then (s.setIgnoring p false).ensureHeader p bytes else s).AlertsFollowMembers :=
    ite _ ((h.setIgnoring p false).ensureHeader p bytes) h
  exact ite _ ((h.judgeHighLine p).setIgnoring p _) (((hhead.countFraming p).reportLineEnd p .failed bytes).setIgnoring p _)

theorem overLongEnd (h : s.AlertsFollowMembers) (p : Port) (bytes : List Byte) : (s.overLongEnd p bytes).AlertsFollowMembers :=
  (ite _ h (h.framingFault p .overLong bytes)).setIgnoring p false

/-- A packet that is over keeps the entries when what the port does with it does. -/
theorem packetOver (h : s.AlertsFollowMembers) (p : Port) (bytes : List Byte) (goesOn : Bool) {f : State → State}
    (hf : ∀ x : State, x.AlertsFollowMembers → (f x).AlertsFollowMembers) : (s.packetOver p bytes goesOn f).AlertsFollowMembers :=
  ite _ (hf _ (h.of_frame (by simp))) (h.of_frame (by simp))

theorem countReceived (h : s.AlertsFollowMembers) (p : Port) : (s.countReceived p).AlertsFollowMembers := h.of_frame (by simp)

theorem handFrameOpen (h : s.AlertsFollowMembers) (p : Port) (k : Fin 256) (frame : Nat) (grade : Grade) (home : Nat) :
    (s.handFrameOpen p k frame grade home).AlertsFollowMembers := by
  have hreceived := h.countReceived p
  cases p with
  | cam i => exact (hreceived.openCameraFrame i frame).switchFrameOpen _ _ _ _ _
  | trunk u => exact hreceived.switchFrameOpen _ _ _ _ _

theorem handFrameClose (h : s.AlertsFollowMembers) (p : Port) (k : Fin 256) (frame : Nat) (status : CloseStatus) :
    (s.handFrameClose p k frame status).AlertsFollowMembers := by
  have hreceived := h.countReceived p
  cases p with
  | cam i => exact (hreceived.closeCameraFrame i frame status).switchFrameClose _ _ _ _
  | trunk u => exact hreceived.switchFrameClose _ _ _ _

theorem handLine (h : s.AlertsFollowMembers) (p : Port) (frame line : Nat) (pixels bytes : List Byte) :
    (s.handLine p frame line pixels bytes).AlertsFollowMembers := by
  have hreceived := h.countReceived p
  cases p with
  | cam i => exact (hreceived.cameraLine i frame line pixels).reportLineEnd _ .good bytes
  | trunk u => exact hreceived.reportLineEnd _ .good bytes

theorem handOn (h : s.AlertsFollowMembers) (p : Port) (packet : Packet) (bytes : List Byte) :
    (s.handOn p packet bytes).AlertsFollowMembers := by
  unfold State.handOn
  split
  · exact h.handFrameOpen p _ _ _ _
  · exact h.handFrameClose p _ _ _
  · exact h.handLine p _ _ _ bytes
  · exact h.of_frame (by simp)
  · exact h.of_frame (by simp)
  · exact h
  · exact h

theorem judgeArrival (h : s.AlertsFollowMembers) (p : Port) (bytes : List Byte) : (s.judgeArrival p bytes).AlertsFollowMembers := by
  unfold State.judgeArrival
  split
  · exact reportLineEnd (h.of_frame (by simp)) p .failed bytes
  · exact h.handOn p _ bytes

theorem packetEnd (h : s.AlertsFollowMembers) (p : Port) (bytes : List Byte) : (s.packetEnd p bytes).AlertsFollowMembers :=
  ite _ (h.overLongEnd p bytes)
    (ite _ (ite _ ((h.judgeHighLine p).setIgnoring p false) (((h.setIgnoring p false).ensureHeader p bytes).judgeArrival p bytes))
      (((h.reportLineEnd p .failed []).setIgnoring p false).judgeArrival p bytes))

theorem discardPoisoned (h : s.AlertsFollowMembers) (p : Port) (bytes : List Byte) : (s.discardPoisoned p bytes).AlertsFollowMembers := by
  cases p with
  | cam i => exact reportLineEnd (h.of_frame (by simp)) _ .failed bytes
  | trunk u => exact reportLineEnd (h.of_frame (by simp)) _ .failed bytes

theorem poisonedArrival (h : s.AlertsFollowMembers) (p : Port) (bytes : List Byte) : (s.poisonedArrival p bytes).AlertsFollowMembers := by
  have hhead := (h.setIgnoring p false).ensureHeader p bytes
  exact ite _ (h.overLongEnd p bytes)
    (ite _ (ite _ ((h.judgeHighLine p).setIgnoring p false)
        (ite _ (reportLineEnd (hhead.of_frame (by simp)) p .poisoned bytes) (hhead.discardPoisoned p bytes)))
      (((h.reportLineEnd p .failed []).setIgnoring p false).discardPoisoned p bytes))

/-! ## Links and ports (R2, R10, R12, R13, R15, R37) -/

theorem portLost (h : s.AlertsFollowMembers) (p : Port) : (s.portLost p).AlertsFollowMembers := by
  cases p with
  | cam i => exact (h.loseCameraFrame i).originLoss _
  | trunk u => exact originLoss (h.of_frame (by simp)) _

theorem linkDown (h : s.AlertsFollowMembers) (p : Port) (arrived : Option (List Byte)) : (s.linkDown p arrived).AlertsFollowMembers := by
  have hdown : ∀ {x : State}, x.AlertsFollowMembers → ∀ n,
      (((x.updRx p (fun r => { r with link := .down, unformed := none, ignoring := false })).offer n).portLost p).AlertsFollowMembers :=
    fun hx n => portLost (hx.of_frame (by simp)) p
  exact ite _ (hdown (ite _ (h.framingFault p _ _) (h.reportLineEnd p _ _)) _) h

theorem stopLens (h : s.AlertsFollowMembers) (i : Fin 8) : (s.stopLens i).AlertsFollowMembers := h.lensEvent i _

theorem disablePort (h : s.AlertsFollowMembers) (i : Fin 8) : (s.disablePort i).AlertsFollowMembers :=
  (((h.abandonArrival (.cam i)).stopLens i).loseCameraFrame i).originLoss _

theorem restartPort (h : s.AlertsFollowMembers) (p : Port) : (s.restartPort p).AlertsFollowMembers := by
  have habandoned := h.abandonArrival p
  cases p with
  | cam i => exact (stopLens (habandoned.of_frame (by simp)) i).portLost _
  | trunk u => exact portLost (habandoned.of_frame (by simp)) _

/-! ## Screens (R56, R57, R120, R131, R132) -/

theorem updScreen (h : s.AlertsFollowMembers) (sc : Fin 2) (f : Screen → Screen) : (s.updScreen sc f).AlertsFollowMembers :=
  h.of_frame ⟨rfl, rfl, rfl⟩

theorem releaseWhere (h : s.AlertsFollowMembers) (sc : Fin 2) (f : Fin 12 → Bool) : (s.releaseWhere sc f).AlertsFollowMembers :=
  foldl (fun c hx => ite _ ((hx.channelEvent c _).updScreen sc _) hx) _ h

theorem takeWhere (h : s.AlertsFollowMembers) (sc : Fin 2) (drawn : Fin 12 → Bool) : (s.takeWhere sc drawn).AlertsFollowMembers :=
  foldl (fun c hx => ite _ ((hx.channelEvent c _).updScreen sc _) hx) _ h

theorem recompute (h : s.AlertsFollowMembers) (sc : Fin 2) : (s.recompute sc).AlertsFollowMembers := h.of_frame (by simp)

theorem disableScreen (h : s.AlertsFollowMembers) (sc : Fin 2) : (s.disableScreen sc).AlertsFollowMembers :=
  (h.releaseWhere sc _).updScreen sc _

theorem frameStart (h : s.AlertsFollowMembers) (sc : Fin 2) : (s.frameStart sc).AlertsFollowMembers :=
  ite _ (h.updScreen sc _) ((((h.updScreen sc _).takeWhere sc _).releaseWhere sc _).updScreen sc _)

end State.AlertsFollowMembers

/-! ## Orders -/

/-- The effect of an order keeps the entries as their members call for. -/
def KeepsAlerts (effect : State → State × Answer) : Prop := ∀ s : State, s.AlertsFollowMembers → (effect s).1.AlertsFollowMembers

/-- An effect that leaves the entries and what they watch. -/
theorem KeepsAlerts.of_frame {effect : State → State × Answer} (h : ∀ s, (effect s).1.alerts = s.alerts ∧
    (effect s).1.channels = s.channels ∧ (effect s).1.lenses = s.lenses) : KeepsAlerts effect := fun s hs => hs.of_frame (h s)

theorem keepsAlerts_setPort (ps : List Byte) : KeepsAlerts (setPortEffect ps) := by
  intro s hs
  unfold setPortEffect
  split
  · exact hs
  next o _ =>
  dsimp only
  split
  · exact hs
  have hstored : (s.updCam o.port (fun c => { c with
      enable := o.enable, stream := o.stream, profile := o.profile })).AlertsFollowMembers := hs.of_frame ⟨rfl, rfl, rfl⟩
  have henabled := fun b c [Decidable b] [Decidable c] =>
    State.AlertsFollowMembers.ite b (hstored.disablePort o.port) (.ite c (hstored.originLoss (.cam o.port)) hstored)
  exact .ite _ ((henabled _ _).lensEvent o.port _) (henabled _ _)

theorem keepsAlerts_restartPort (ps : List Byte) : KeepsAlerts (restartPortEffect ps) := by
  intro s hs
  unfold restartPortEffect
  split
  · exact hs
  · next p _ =>
    dsimp only
    exact hs.restartPort p

theorem keepsAlerts_loadStream (ps : List Byte) : KeepsAlerts (loadStreamEffect ps) := by
  intro s hs
  cases hread : readLoadStream ps with
  | none => rwa [loadStreamEffect_badField hread]
  | some ke =>
    obtain ⟨k, e⟩ := ke
    by_cases htaken : (e.channel.map (s.channelTaken k)).getD false = true
    · rwa [loadStreamEffect_inUse hread htaken]
    · rw [loadStreamEffect_accepted hread htaken]
      exact (hs.of_watched (s.watchedAlike_closedFor k)).rerouted k e

theorem keepsAlerts_setChannel (ps : List Byte) : KeepsAlerts (setChannelEffect ps) := by
  intro s hs
  cases hread : readSetChannel ps with
  | none => rwa [setChannelEffect, hread]
  | some o =>
    rw [setChannelEffect_some hread]
    exact hs.channelSet _ _ _ _

theorem keepsAlerts_setScreen (ps : List Byte) : KeepsAlerts (setScreenEffect ps) := by
  intro s hs
  unfold setScreenEffect
  split
  · exact hs
  · next o _ =>
    have hset := hs.updScreen o.screen (fun x => { x with enable := o.enable, defaultView := o.defaultView })
    have hview := fun b [Decidable b] => State.AlertsFollowMembers.ite b (hset.recompute o.screen) hset
    exact .ite _ ((hview _).disableScreen o.screen) (hview _)

theorem keepsAlerts_loadProfile (ps : List Byte) : KeepsAlerts (loadProfileEffect ps) := by
  intro s hs
  cases hread : readLoadProfile ps with
  | none => rwa [loadProfileEffect, hread]
  | some r =>
    rw [loadProfileEffect_accepted hread]
    exact hs.profileLoaded _ _

theorem keepsAlerts_learn (ps : List Byte) : KeepsAlerts (learnEffect ps) := by
  intro s hs
  unfold learnEffect
  split
  · exact hs
  · exact hs.lensEvent _ _

theorem keepsAlerts_baselines (ps : List Byte) : KeepsAlerts (baselinesEffect ps) := by
  intro s hs
  unfold baselinesEffect
  (repeat' split)
  · exact hs
  · exact hs.lensEvent _ _
  · exact hs.lensEvent _ _
  · exact hs

/-- An accepted SET-ALERT evaluates its entry under the new settings (R143, R146). -/
theorem keepsAlerts_setAlert (ps : List Byte) : KeepsAlerts (setAlertEffect ps) := by
  intro s hs
  unfold setAlertEffect
  split
  · exact hs
  · next a x _ =>
    refine hs.updAlert a fun e he => ?_
    obtain ⟨hfollows, hsettings⟩ := he.withSettings x (s.demandOf x)
    rwa [hsettings]

theorem keepsAlerts_clearCounts (ps : List Byte) : KeepsAlerts (clearCountsEffect ps) := by
  intro s hs
  unfold clearCountsEffect
  split
  · exact hs.of_frame ⟨rfl, rfl, rfl⟩
  · next p _ => cases p <;> exact hs.of_frame ⟨rfl, rfl, rfl⟩
  · exact hs.updChannel _ ⟨rfl, rfl⟩
  · exact hs

theorem keepsAlerts_loadView (ps : List Byte) : KeepsAlerts (loadViewEffect ps) := .of_frame fun s => by
  unfold loadViewEffect
  split <;> simp

theorem keepsAlerts_loadTrigger (ps : List Byte) : KeepsAlerts (loadTriggerEffect ps) := .of_frame fun s => by
  unfold loadTriggerEffect
  split <;> simp

theorem keepsAlerts_setLines (ps : List Byte) : KeepsAlerts (setLinesEffect ps) := .of_frame fun s => by simp [setLinesEffect]

theorem keepsAlerts_pinView (ps : List Byte) : KeepsAlerts (pinViewEffect ps) := .of_frame fun s => by
  unfold pinViewEffect
  split <;> simp

theorem keepsAlerts_releaseView (ps : List Byte) : KeepsAlerts (releaseViewEffect ps) := .of_frame fun s => by
  unfold releaseViewEffect
  split <;> simp

theorem keepsAlerts_query (ps : List Byte) : KeepsAlerts (queryEffect ps) := .of_frame fun s => by
  unfold queryEffect
  dsimp only
  (repeat' split) <;> simp

theorem keepsAlerts_queryZones (ps : List Byte) : KeepsAlerts (queryZonesEffect ps) := .of_frame fun s => by
  unfold queryZonesEffect
  split <;> simp

theorem EntryKind.keepsAlerts_effect (k : EntryKind) (ps : List Byte) : KeepsAlerts (k.effect ps) := by
  cases k with
  | hub => exact .of_frame fun _ => ⟨rfl, rfl, rfl⟩
  | port => exact keepsAlerts_setPort ps
  | profile => exact keepsAlerts_loadProfile ps
  | baselines => exact keepsAlerts_baselines ps
  | stream => exact keepsAlerts_loadStream ps
  | channel => exact keepsAlerts_setChannel ps
  | view => exact keepsAlerts_loadView ps
  | trigger => exact keepsAlerts_loadTrigger ps
  | filterTimes => exact keepsAlerts_setLines _
  | screen => exact keepsAlerts_setScreen ps
  | alert => exact keepsAlerts_setAlert ps

namespace State.AlertsFollowMembers

variable {s : State}

theorem onOrder (h : s.AlertsFollowMembers) (codes : Byte → Bool) {run : Fin 2 → HeldOrder → State → State}
    (hr : ∀ i o, (run i o s).AlertsFollowMembers) : (s.onOrder codes run).AlertsFollowMembers := by
  unfold State.onOrder
  split
  · exact ite _ (hr _ _) h
  · exact h

theorem carryOut (h : s.AlertsFollowMembers) (lengthOk : Bool) {effect : State → State × Answer} (he : KeepsAlerts effect) :
    (s.carryOut lengthOk effect).1.AlertsFollowMembers := by
  unfold State.carryOut
  (repeat' split)
  · exact h
  · exact h
  · exact he s h

theorem runOrder (h : s.AlertsFollowMembers) (code : Byte) (length : Nat) {effect : List Byte → State → State × Answer}
    (he : ∀ ps, KeepsAlerts (effect ps)) : (s.runOrder code length effect).AlertsFollowMembers :=
  h.onOrder _ fun i o => (h.carryOut _ (he o.params)).replied i o _

/-! ## The load, the SAVE job, the resets and time (R147, R150) -/

theorem applyNext (h : s.AlertsFollowMembers) : s.applyNext.AlertsFollowMembers := by
  have happlied : ∀ e, (s.applyEntry e).AlertsFollowMembers := fun e =>
    ite _ (h.of_frame ⟨rfl, rfl, rfl⟩) (e.kind.keepsAlerts_effect _ s h)
  unfold State.applyNext
  split
  · next e todo _ => exact (happlied e).of_frame (by simp)
  · exact h
  · exact h
  · exact h

/-- The flash, the job and the result of the image are seen by no entry. -/
theorem loaderEvents (h : s.AlertsFollowMembers) : s.eraseDone.AlertsFollowMembers ∧ s.eraseTimeout.AlertsFollowMembers ∧
    s.pageDone.AlertsFollowMembers ∧ s.pageTimeout.AlertsFollowMembers ∧ ∀ answers, (s.judgeLoad answers).AlertsFollowMembers := by
  refine ⟨?_, ?_, ?_, ?_, fun answers => ?_⟩
  · unfold State.eraseDone
    (repeat' split) <;> exact h.of_frame (by simp)
  · unfold State.eraseTimeout
    (repeat' split) <;> exact h.of_frame (by simp)
  · unfold State.pageDone
    dsimp only
    (repeat' split) <;> exact h.of_frame (by simp)
  · unfold State.pageTimeout
    (repeat' split) <;> exact h.of_frame (by simp)
  · unfold State.judgeLoad
    split <;> exact h.of_frame (by simp)

/-- After a reset every entry is OFF, with no demand and no pulse (R150). -/
theorem takeReset (s : State) (cause : ResetCause) (tag : Option Byte) (held : Bool) (straps : BitVec 4) :
    (s.takeReset cause tag held straps).AlertsFollowMembers := by
  rw [State.alertsFollowMembers_iff]
  intro a
  have hreset : Tab.get (s.takeReset cause tag held straps).alerts a = .reset := Tab.get_replicate _ _
  rw [hreset]
  exact ⟨rfl, iff_of_false Bool.false_ne_true Bool.false_ne_true, rfl⟩

theorem saveSettings (h : s.AlertsFollowMembers) (i : Fin 2) (o : HeldOrder) : (s.saveSettings i o).AlertsFollowMembers := by
  unfold State.saveSettings
  (repeat' split) <;> exact h.of_frame ⟨rfl, rfl, rfl⟩

theorem resetHub (h : s.AlertsFollowMembers) (i : Fin 2) (o : HeldOrder) : (s.resetHub i o).AlertsFollowMembers := by
  unfold State.resetHub
  (repeat' split)
  · exact h.replied i o _
  · exact h.replied i o _
  · exact takeReset _ _ _ _ _

/-- A millisecond moves the pulse timers and the frame ages, and no demand (R59, R147). -/
theorem tick (h : s.AlertsFollowMembers) : s.tick.AlertsFollowMembers := by
  have hdemand : ∀ x, s.tick.demandOf x = s.demandOf x := fun x =>
    State.memberCalls_congr x (fun c _ => by simp [State.tick, Channel.tick]) fun _ _ => rfl
  rw [State.alertsFollowMembers_iff] at h ⊢
  intro a
  have halert : Tab.get s.tick.alerts a = (Tab.get s.alerts a).tick := Tab.get_map _ _ _
  rw [hdemand, halert]
  exact (h a).tick

/-! ## One step -/

theorem onCommand (h : s.AlertsFollowMembers) (c : Instr) : (s.onCommand c).AlertsFollowMembers := by
  obtain ⟨heraseDone, heraseTimeout, hpageDone, hpageTimeout, hjudge⟩ := h.loaderEvents
  cases c with
  | powerOn straps => exact takeReset _ _ _ _ _
  | resetLineAsserted => exact takeReset _ _ _ _ _
  | resetLineReleased straps => exact h
  | framingFault p cause bytes => exact h.packetOver p bytes _ fun x hx => hx.framingFault p cause bytes
  | lineHeader p stream frame line => exact ite _ (takeHeader (h.of_frame (by simp)) p stream _ _) (h.of_frame (by simp))
  | packetEnd p bytes => exact h.packetOver p bytes _ fun x hx => hx.packetEnd p bytes
  | poisonedArrival p bytes => exact h.packetOver p bytes _ fun x hx => hx.poisonedArrival p bytes
  | linkUp p => exact h.of_frame (t := s.linkUp p) (by simp)
  | linkDown p arrived => exact h.linkDown p arrived
  | restartHoldEnd p => exact h.of_frame (t := s.updRx p (fun x => { x with hold := none })) (by simp)
  | transmissionStart u => exact ite _ (h.of_frame ⟨rfl, rfl, rfl⟩) h
  | transmissionEnd u => exact h.of_frame (t := s.transmissionEnd u) (by simp)
  | frameAgeStale c => exact h.channelEvent c _
  | frameAgeLost c => exact h.channelEvent c _
  | doorLineChange d level => exact h.of_frame (t := s.doorChange d level) (by simp)
  | filterWaitExpiry d => exact h.of_frame (t := s.filterExpiry d) (by simp)
  | lingerExpiry n => exact h.of_frame (t := s.lingerExpiry n) (by simp)
  | silenceExpiry => exact h.of_frame (t := s.silenceExpiry) (by simp)
  | outputFrameStart sc => exact h.frameStart sc
  | pulseBoundary a =>
    refine h.updAlert a fun e he => ?_
    rw [Alert.atBoundary_settings]
    exact he.atBoundary
  | noticeMove => exact h.of_frame (t := s.moveNotice) (by simp)
  | presence =>
    have he : KeepsAlerts (fun s => (s, .done false)) := .of_frame fun _ => ⟨rfl, rfl, rfl⟩
    exact h.runOrder 1 0 fun _ => he
  | setHub => exact h.runOrder 2 2 fun _ => .of_frame fun _ => ⟨rfl, rfl, rfl⟩
  | setPort => exact h.runOrder 3 4 keepsAlerts_setPort
  | restartPort => exact h.runOrder 4 1 keepsAlerts_restartPort
  | loadStream => exact h.runOrder 5 8 keepsAlerts_loadStream
  | setChannel => exact h.runOrder 6 6 keepsAlerts_setChannel
  | loadView => exact h.onOrder _ fun i o => (h.carryOut _ (keepsAlerts_loadView _)).replied i o _
  | setScreen => exact h.runOrder 8 3 keepsAlerts_setScreen
  | loadTrigger => exact h.runOrder 9 10 keepsAlerts_loadTrigger
  | setLines => exact h.runOrder 10 11 keepsAlerts_setLines
  | pinView => exact h.runOrder 11 3 keepsAlerts_pinView
  | releaseView => exact h.runOrder 12 1 keepsAlerts_releaseView
  | loadProfile => exact h.runOrder 13 13 keepsAlerts_loadProfile
  | learn => exact h.runOrder 14 1 keepsAlerts_learn
  | setAlert => exact h.runOrder 15 9 keepsAlerts_setAlert
  | query => exact h.runOrder 16 3 keepsAlerts_query
  | queryZones => exact h.runOrder 17 1 keepsAlerts_queryZones
  | clearCounts => exact h.runOrder 18 2 keepsAlerts_clearCounts
  | saveSettings => exact h.onOrder _ fun i o => h.saveSettings i o
  | resetHub => exact h.onOrder _ fun i o => h.resetHub i o
  | badCode =>
    have he : KeepsAlerts (fun s => (s, .refused .badCode)) := .of_frame fun _ => ⟨rfl, rfl, rfl⟩
    exact h.onOrder _ fun i o => (h.carryOut _ he).replied i o _
  | eraseDone => exact heraseDone
  | eraseTimeout => exact heraseTimeout
  | pageDone => exact hpageDone
  | pageTimeout => exact hpageTimeout
  | imageJudged answers => exact hjudge answers
  | imageEntryApply => exact h.applyNext

theorem onCommandHeld (h : s.AlertsFollowMembers) (c : Instr) : (s.onCommandHeld c).AlertsFollowMembers := by
  unfold State.onCommandHeld
  split
  · exact takeReset _ _ _ _ _
  · exact h.of_frame ⟨rfl, rfl, rfl⟩
  · exact h.of_frame ⟨rfl, rfl, rfl⟩
  · exact h

end State.AlertsFollowMembers

/-- Settles O59: what an entry watches changes by events at a channel and at a lens record alone, and those evaluate the entry. -/
theorem everyStepKeepsAlertsFollowingMembers : Obligations.EveryStepKeepsAlertsFollowingMembers := fun _ _ h e =>
  step_keeps (P := State.AlertsFollowMembers) (fun _ _ hs => hs.of_frame ⟨rfl, rfl, rfl⟩) (fun _ c _ hs => hs.onCommand c)
    (fun _ c _ hs => hs.onCommandHeld c) (fun _ hs => hs.tick) h e

end Sys2Proof.Machine

/-! # Proofs: PULSE_BOUNDARY, SET-ALERT and the level of an alert line (R142 to R148) -/

namespace Sys2Proof.Machine

/-! ## The activity and the level of a line (R146 to R148) -/

theorem lineActivity_some (style : AlertStyle) (demand : Bool) (p : Pulse) :
    lineActivity style demand (some p) = decide (demand = true ∧ (style = .steady ∨ p.activePhase = true)) := by
  cases style <;> simp [lineActivity]

theorem Alert.atBoundary_of_stopped {e : Alert} (h : e.pulse = none) : e.atBoundary = e := by
  rw [Alert.atBoundary, h]

theorem Alert.atBoundary_of_running {e : Alert} {p : Pulse} (h : e.pulse = some p) : e.atBoundary =
    { e with pulse := some ⟨!p.activePhase, 0⟩
             line := decide (e.demand = true ∧ (e.settings.style = .steady ∨ p.activePhase = false)) } := by
  rw [Alert.atBoundary, h]
  dsimp only
  rw [lineActivity_some]
  simp only [Bool.not_eq_true']

/-- Two changes of an entry that give one value are one change. -/
theorem State.updAlert_congr (s : State) {a : Fin 4} {f g : Alert → Alert} (h : f (Tab.get s.alerts a) = g (Tab.get s.alerts a)) :
    s.updAlert a f = s.updAlert a g := by
  rw [State.updAlert, Tab.upd_congr _ _ _ g h, ← State.updAlert]

/-! ## The fields of SET-ALERT (R142, R143, R158) -/

theorem AlertMode.ofCode_eq (n : Nat) : AlertMode.ofCode n = [AlertMode.off, .auto, .forcedOn][n]? :=
  match n with
  | 0 | 1 | 2 | _ + 3 => rfl

theorem StateCondition.ofCode_eq (n : Nat) : StateCondition.ofCode n = [StateCondition.none, .staleOrLost, .lost][n]? :=
  match n with
  | 0 | 1 | 2 | _ + 3 => rfl

theorem GradeCondition.ofCode_eq (n : Nat) : GradeCondition.ofCode n = [GradeCondition.none, .haze, .smear, .blocked][n]? :=
  match n with
  | 0 | 1 | 2 | 3 | _ + 4 => rfl

theorem AlertStyle.ofCode_eq (n : Nat) : AlertStyle.ofCode n = [AlertStyle.steady, .pulsing][n]? :=
  match n with
  | 0 | 1 | _ + 2 => rfl

theorem Polarity.ofCode_eq (n : Nat) : Polarity.ofCode n = [Polarity.activeHigh, .activeLow][n]? :=
  match n with
  | 0 | 1 | _ + 2 => rfl

/-- These settings are the ones that the fields of a SET-ALERT give (R142, R158). -/
structure AlertSettings.Given (x : AlertSettings) (mode c1 c0 ports st gr style pol : Byte) : Prop where
  mode : [AlertMode.off, .auto, .forcedOn][mode.toNat]? = some x.mode
  stateCondition : [StateCondition.none, .staleOrLost, .lost][st.toNat]? = some x.stateCondition
  gradeCondition : [GradeCondition.none, .haze, .smear, .blocked][gr.toNat]? = some x.gradeCondition
  style : [AlertStyle.steady, .pulsing][style.toNat]? = some x.style
  polarity : [Polarity.activeHigh, .activeLow][pol.toNat]? = some x.polarity
  channels : BitVec.ofNat 12 (c1.toNat * 256 + c0.toNat) = x.channels
  ports : ports = x.ports

section
variable {b mode c1 c0 ports st gr style pol : Byte}

theorem readSetAlert_eq_some_iff {a : Fin 4} {x : AlertSettings} :
    readSetAlert [b, mode, c1, c0, ports, st, gr, style, pol] = some (a, x) ↔
      a.val = b.toNat ∧ ¬4095 < c1.toNat * 256 + c0.toNat ∧ x.Given mode c1 c0 ports st gr style pol := by
  simp only [readSetAlert, byteAt_cons_succ, byteAt_cons_zero, Option.bind_eq_bind, Option.bind_eq_some_iff,
    instanceOf_eq_some_iff, AlertMode.ofCode_eq, StateCondition.ofCode_eq, GradeCondition.ofCode_eq, AlertStyle.ofCode_eq,
    Polarity.ofCode_eq, Option.ite_none_left_eq_some, Option.pure_def, Option.some.injEq, Prod.mk.injEq]
  constructor
  · rintro ⟨entry, hentry, m, hm, sc, hsc, gc, hgc, ls, hls, lp, hlp, hword, rfl, rfl⟩
    exact ⟨hentry, hword, hm, hsc, hgc, hls, hlp, rfl, rfl⟩
  · rintro ⟨hentry, hword, hm, hsc, hgc, hls, hlp, hchannels, hports⟩
    cases x
    cases hchannels
    cases hports
    exact ⟨a, hentry, _, hm, _, hsc, _, hgc, _, hls, _, hlp, hword, rfl, rfl⟩

/-- What R143 refuses of the fields of a SET-ALERT. -/
def AlertRefused (b mode c1 c0 st gr style pol : Byte) : Prop :=
  4 ≤ b.toNat ∨ 3 ≤ mode.toNat ∨ 4096 ≤ 256 * c1.toNat + c0.toNat ∨ 3 ≤ st.toNat ∨ 4 ≤ gr.toNat ∨ 2 ≤ style.toNat ∨
    2 ≤ pol.toNat

theorem readSetAlert_of_refused (h : AlertRefused b mode c1 c0 st gr style pol) :
    readSetAlert [b, mode, c1, c0, ports, st, gr, style, pol] = none := by
  refine Option.eq_none_iff_forall_ne_some.2 fun (a, x) hread => ?_
  obtain ⟨hentry, hword, g⟩ := readSetAlert_eq_some_iff.1 hread
  have ha := a.isLt
  have hm : mode.toNat < 3 := (List.getElem?_eq_some_iff.1 g.mode).1
  have hsc : st.toNat < 3 := (List.getElem?_eq_some_iff.1 g.stateCondition).1
  have hgc : gr.toNat < 4 := (List.getElem?_eq_some_iff.1 g.gradeCondition).1
  have hls : style.toNat < 2 := (List.getElem?_eq_some_iff.1 g.style).1
  have hlp : pol.toNat < 2 := (List.getElem?_eq_some_iff.1 g.polarity).1
  unfold AlertRefused at h
  omega

theorem readSetAlert_of_not_refused (h : ¬AlertRefused b mode c1 c0 st gr style pol) {a : Fin 4} (ha : a.val = b.toNat) :
    ∃ x, readSetAlert [b, mode, c1, c0, ports, st, gr, style, pol] = some (a, x) ∧ x.Given mode c1 c0 ports st gr style pol := by
  simp only [AlertRefused, not_or, not_le] at h
  obtain ⟨-, hm, hword, hsc, hgc, hls, hlp⟩ := h
  have g : AlertSettings.Given ⟨_, _, _, _, _, _, _⟩ mode c1 c0 ports st gr style pol :=
    ⟨List.getElem?_eq_getElem hm, List.getElem?_eq_getElem hsc, List.getElem?_eq_getElem hgc, List.getElem?_eq_getElem hls,
      List.getElem?_eq_getElem hlp, rfl, rfl⟩
  exact ⟨_, readSetAlert_eq_some_iff.2 ⟨ha, by omega, g⟩, g⟩

end

/-! ## What the settings watch (R144, R146) -/

theorem StateCondition.satisfiedBy_iff {n : Byte} {c : StateCondition}
    (h : [StateCondition.none, .staleOrLost, .lost][n.toNat]? = some c) (x : ChannelState) :
    c.satisfiedBy x = true ↔ n = 1 ∧ (x = .stale ∨ x = .lost) ∨ n = 2 ∧ x = .lost := by
  have hn : n.toNat < 3 := (List.getElem?_eq_some_iff.1 h).1
  obtain rfl | rfl | rfl : n = 0 ∨ n = 1 ∨ n = 2 := by bv_omega
  all_goals
    cases h
    simp [StateCondition.satisfiedBy]

theorem GradeCondition.satisfiedBy_iff {n : Byte} {c : GradeCondition}
    (h : [GradeCondition.none, .haze, .smear, .blocked][n.toNat]? = some c) (g : Grade) :
    c.satisfiedBy g = true ↔ n = 1 ∧ (g = .haze ∨ g = .smear ∨ g = .blocked) ∨ n = 2 ∧ (g = .smear ∨ g = .blocked) ∨
      n = 3 ∧ g = .blocked := by
  have hn : n.toNat < 4 := (List.getElem?_eq_some_iff.1 h).1
  obtain rfl | rfl | rfl | rfl : n = 0 ∨ n = 1 ∨ n = 2 ∨ n = 3 := by bv_omega
  all_goals
    cases h
    simp [GradeCondition.satisfiedBy, or_assoc]

theorem AlertStyle.eq_steady_iff {n : Byte} {x : AlertStyle} (h : [AlertStyle.steady, .pulsing][n.toNat]? = some x) :
    x = .steady ↔ n = 0 := by
  have hn : n.toNat < 2 := (List.getElem?_eq_some_iff.1 h).1
  obtain rfl | rfl : n = 0 ∨ n = 1 := by bv_omega
  all_goals
    cases h
    decide

/-- The demand by the code of the mode (R146). -/
theorem State.demandOf_iff {s : State} {x : AlertSettings} {n : Byte} (h : [AlertMode.off, .auto, .forcedOn][n.toNat]? = some x.mode) :
    s.demandOf x = true ↔ n = 2 ∨ n = 1 ∧ s.memberCalls x = true := by
  have hn : n.toNat < 3 := (List.getElem?_eq_some_iff.1 h).1
  unfold State.demandOf
  generalize x.mode = m at h ⊢
  obtain rfl | rfl | rfl : n = 0 ∨ n = 1 ∨ n = 2 := by bv_omega
  all_goals
    cases h
    simp

theorem State.memberCalls_iff (s : State) (x : AlertSettings) : s.memberCalls x = true ↔
    (∃ c : Fin 12, hasMember x.channels c.val = true ∧
      (x.stateCondition.satisfiedBy (s.channel c).state = true ∨ x.gradeCondition.satisfiedBy (s.channel c).grade = true)) ∨
    ∃ p : Fin 8, hasMember x.ports p.val = true ∧ x.gradeCondition.satisfiedBy (s.lens p).stated = true := by
  simp [State.memberCalls, State.channel, State.lens]

namespace AlertSettings.Given

variable {x : AlertSettings} {mode c1 c0 ports st gr style pol : Byte}

/-- The two bytes of the channel set are its members, bit for bit. -/
theorem hasMember_channels (g : x.Given mode c1 c0 ports st gr style pol) (c : Fin 12) :
    hasMember x.channels c.val = (c1 ++ c0).getLsbD c.val := by
  have hc := c.isLt
  rw [← g.channels, ← ofNat_word, hasMember, BitVec.getLsbD_ofNat, BitVec.getLsbD_ofNat, decide_eq_true hc, decide_eq_true (by omega)]

theorem hasMember_ports (g : x.Given mode c1 c0 ports st gr style pol) (p : Fin 8) :
    hasMember x.ports p.val = ports.getLsbD p.val := congrArg (·.getLsbD p.val) g.ports.symm

end AlertSettings.Given

/-! ## The entry that takes the settings (R143, R146, R147) -/

theorem Alert.withSettings_pulse (e : Alert) (x : AlertSettings) (d : Bool) : (e.withSettings x d).pulse =
    if d = e.demand then e.pulse else if d then some ⟨true, 0⟩ else none := by
  unfold Alert.withSettings Alert.withDemand
  dsimp only
  (repeat' split) <;> rfl

/-- An entry whose demand is inactive has no pulse and an inactive line. -/
theorem Alert.Follows.stopped {e : Alert} {d : Bool} (h : e.Follows d) (hd : e.demand = false) : e.pulse = none ∧ e.line = false := by
  obtain ⟨-, hpulse, hline⟩ := h
  rw [hd] at hpulse hline
  exact ⟨by simpa using hpulse, hline⟩

/-- The line of an entry whose demand is active: always active when steady, active with the phase when pulsing. -/
theorem Alert.Follows.line_of_running {e : Alert} {d : Bool} (h : e.Follows d) {p : Pulse} (hd : e.demand = true)
    (hp : e.pulse = some p) : e.line = decide (e.settings.style = .steady ∨ p.activePhase = true) := by
  obtain ⟨-, -, hline⟩ := h
  rw [hline, hp, lineActivity_some, hd]
  simp only [true_and]

/-! ## The order -/

/-- The hub with an entry that has taken new settings, and the demand that they give (R143). -/
def State.alertSet (s : State) (a : Fin 4) (x : AlertSettings) : State := s.updAlert a (fun e => e.withSettings x (s.demandOf x))

theorem State.alert_alertSet (s : State) (a d : Fin 4) (x : AlertSettings) : Tab.get (s.alertSet a x).alerts d =
    if d = a then (Tab.get s.alerts a).withSettings x (s.demandOf x) else Tab.get s.alerts d := Tab.get_upd ..

theorem setAlertEffect_some {ps : List Byte} {a : Fin 4} {x : AlertSettings} (h : readSetAlert ps = some (a, x)) (s : State) :
    setAlertEffect ps s = (s.alertSet a x, .done false) := by
  rw [setAlertEffect, h]
  rfl

theorem setAlertEffect_refused {ps : List Byte} (h : readSetAlert ps = none) (s : State) :
    setAlertEffect ps s = (s, .refused .badField) := by
  rw [setAlertEffect, h]

/-- Settles O40: the level and the boundary by the cases of the entry, the order by the entry that `Alert.withSettings` makes. -/
theorem alertsPulseAndTakeSettings : Obligations.AlertsPulseAndTakeSettings := by
  refine ⟨fun a s => ⟨fun hheld => ?_, fun hheld hp => ?_, fun hheld hp => ?_⟩,
    fun a s hheld => ⟨fun hp => ?_, fun p hp => ?_⟩, ?_⟩
  · simp [State.alertHigh, hheld]
  · simp [State.alertHigh, hheld, hp]
  · simp [State.alertHigh, hheld, hp]
  · rw [exec_of_running hheld, State.onCommand, State.updAlert, Tab.upd_same _ _ _ (Alert.atBoundary_of_stopped hp)]
  · rw [exec_of_running hheld]
    exact congrArg Host.Outcome.next (s.updAlert_congr (Alert.atBoundary_of_running hp))
  · intro s i o b mode c1 c0 ports st gr style pol h hfollow bad
    have hexec := fun r => h.exec_order (c := .setAlert) (r := r) rfl (by decide) rfl
    refine ⟨fun hbad => hexec _ (setAlertEffect_refused (readSetAlert_of_refused hbad) s), fun hgood a ha => ?_⟩
    obtain ⟨x, hread, g⟩ := readSetAlert_of_not_refused (ports := ports) hgood ha
    obtain ⟨hfollows, hsettings⟩ := (s.alertsFollowMembers_iff.1 hfollow a).withSettings x (s.demandOf x)
    have hpulse := (Tab.get s.alerts a).withSettings_pulse x (s.demandOf x)
    refine ⟨_, hexec _ (setAlertEffect_some hread s), ?_⟩
    intro e e' _ _
    have he' : e' = e.withSettings x (s.demandOf x) := (s.alert_alertSet a a x).trans (if_pos rfl)
    rw [← he'] at hfollows hsettings hpulse
    have hdemand : e'.demand = s.demandOf x := hfollows.1
    rw [← hdemand] at hpulse
    rw [hsettings]
    refine ⟨g.mode, g.hasMember_channels, g.hasMember_ports, g.stateCondition, g.gradeCondition, g.style, g.polarity, ?_,
      hfollows.stopped, fun hd he => hpulse.trans (if_pos (hd.trans he.symm)),
      fun hd he => hpulse.trans ((if_neg fun hsame => Bool.false_ne_true (he.symm.trans (hsame.symm.trans hd))).trans (if_pos hd)),
      fun p hd hp => ?_, fun d hd => (s.alert_alertSet a d x).trans (if_neg hd), rfl, rfl, rfl, rfl, rfl, rfl, rfl, rfl, rfl, rfl, rfl, rfl⟩
    · rw [hdemand, State.demandOf_iff g.mode, State.memberCalls_iff]
      simp only [g.hasMember_channels, g.hasMember_ports, StateCondition.satisfiedBy_iff g.stateCondition,
        GradeCondition.satisfiedBy_iff g.gradeCondition]
      rfl
    · rw [hfollows.line_of_running hd hp, hsettings]
      simp only [AlertStyle.eq_steady_iff g.style]

end Sys2Proof.Machine

/-! # Proofs: the notice queue (R164 to R166)

An offered notice joins the tail, takes the place of the entry with its key, or is lost. In each case the queue keeps its bound, its
replies, and one entry for each key. -/

namespace Sys2Proof.Machine

/-! ## Keys (R165) -/

/-- What the key of a state notice is made of: its kind and its subject (R165). -/
inductive NoticeKey where
  | grade (port : Fin 8)
  | source (channel : Fin 12)
  | view (screen : Fin 2)
  | link (port : Port)
  | learnEnd (port : Fin 8)

/-- The key of a notice; a REPLY, a START and a SILENCE have none (R165). -/
def Notice.key : Notice → Option NoticeKey
  | .grade p _ _ _ => some (.grade p)
  | .source c _ _ => some (.source c)
  | .view v _ _ _ => some (.view v)
  | .link p _ _ => some (.link p)
  | .learnEnd p _ => some (.learnEnd p)
  | .reply _ _ _ | .start _ _ _ _ _ | .silence _ => none

theorem Notice.sameKey_iff (a b : Notice) : a.sameKey b = true ↔ a.key ≠ none ∧ a.key = b.key := by
  cases a <;> cases b <;> simp [Notice.sameKey, Notice.key]

theorem Notice.sameKey_comm (a b : Notice) : a.sameKey b = b.sameKey a := by
  rw [Bool.eq_iff_iff, Notice.sameKey_iff, Notice.sameKey_iff]
  exact ⟨fun ⟨hk, he⟩ => ⟨he ▸ hk, he.symm⟩, fun ⟨hk, he⟩ => ⟨he ▸ hk, he.symm⟩⟩

/-- The key of a notice says which notices have it. -/
theorem Notice.sameKey_congr {a b : Notice} (h : a.key = b.key) (w : Notice) : a.sameKey w = b.sameKey w := by
  rw [Bool.eq_iff_iff, Notice.sameKey_iff, Notice.sameKey_iff, h]

theorem Notice.sameKey_of_isReply {a : Notice} (h : a.isReply = true) (w : Notice) : a.sameKey w = false := by
  cases a with
  | reply => rfl
  | _ => cases h

theorem Notice.key_of_isReply {a : Notice} (h : a.isReply = true) : a.key = none := by
  cases a with
  | reply => rfl
  | _ => cases h

/-- What an entry with the key of an offered notice becomes keeps the key (R165). -/
theorem Notice.key_coalesce {w n x : Notice} (hkey : n.sameKey w = true) (h : w.coalesce n = some x) : x.key = w.key := by
  unfold Notice.coalesce at h
  split at h
  case h_5 =>
    cases h
    exact ((Notice.sameKey_iff _ _).1 hkey).2
  case h_6 =>
    cases h
    rfl
  all_goals
    obtain ⟨-, h⟩ := Option.ite_none_left_eq_some.1 h
    cases h
    rfl

/-! ## A waiting entry under an offer (R165) -/

/-- What becomes of a waiting entry when a notice is offered (R165). -/
def Notice.afterOffer (n w : Notice) : Option Notice := if n.sameKey w then w.coalesce n else some w

theorem Notice.afterOffer_of_other {n w : Notice} (h : n.sameKey w = false) : n.afterOffer w = some w := by
  simp [Notice.afterOffer, h]

theorem Notice.afterOffer_of_same {n w : Notice} (h : n.sameKey w = true) : n.afterOffer w = w.coalesce n := by
  simp [Notice.afterOffer, h]

/-- An offer keeps the key of an entry that stays, and whether it is a REPLY. -/
theorem Notice.afterOffer_some {n w x : Notice} (h : n.afterOffer w = some x) : x.key = w.key ∧ x.isReply = w.isReply := by
  cases hsame : n.sameKey w with
  | false =>
    cases (Notice.afterOffer_of_other hsame).symm.trans h
    exact ⟨rfl, rfl⟩
  | true =>
    obtain ⟨hsome, hkey⟩ := (Notice.sameKey_iff n w).1 hsame
    have hx : x.key = w.key := Notice.key_coalesce hsame ((Notice.afterOffer_of_same hsame).symm.trans h)
    have hno : ∀ {a : Notice}, a.key = w.key → a.isReply = false := fun ha =>
      Bool.eq_false_iff.2 fun hr => hsome (hkey.trans (ha.symm.trans (Notice.key_of_isReply hr)))
    exact ⟨hx, (hno hx).trans (hno rfl).symm⟩

/-! ## The queue under an offer (R164 to R166) -/

/-- No two waiting state notices have one key (R164, R165). -/
def OneForEachKey (q : List Notice) : Prop := q.Pairwise (fun a b => a.sameKey b = false)

theorem queueAfterOffer_of_waiting {n : Notice} {q : List Notice} (h : ∃ w ∈ q, n.sameKey w = true) :
    queueAfterOffer n q = some (q.filterMap n.afterOffer) := if_pos (List.any_eq_true.2 h)

theorem queueAfterOffer_of_new {n : Notice} {q : List Notice} (h : ∀ w ∈ q, n.sameKey w = false) :
    queueAfterOffer n q = if noticesWaiting q < 30 then some (q ++ [n]) else none :=
  if_neg (by simpa using h)

/-- The entries of a queue that a map leaves and that have a property are at most those that had it, when the map keeps the property. -/
theorem length_filter_filterMap_le {α : Type} {p : α → Bool} {g : α → Option α} (h : ∀ a b, g a = some b → p b = p a) (l : List α) :
    ((l.filterMap g).filter p).length ≤ (l.filter p).length := by
  induction l with
  | nil => rfl
  | cons a rest ih =>
    cases hg : g a with
    | none =>
      rw [List.filterMap_cons_none hg]
      exact ih.trans ((List.sublist_cons_self a rest).filter p).length_le
    | some b =>
      rw [List.filterMap_cons_some hg, List.filter_cons, List.filter_cons, h a b hg]
      split
      · exact Nat.succ_le_succ ih
      · exact ih

theorem repliesWaiting_append (q : List Notice) (n : Notice) :
    repliesWaiting (q ++ [n]) = repliesWaiting q + if n.isReply then 1 else 0 := by
  cases h : n.isReply <;> simp [repliesWaiting, h]

theorem noticesWaiting_append (q : List Notice) (n : Notice) :
    noticesWaiting (q ++ [n]) = noticesWaiting q + if n.isReply then 0 else 1 := by
  cases h : n.isReply <;> simp [noticesWaiting, h]

theorem OneForEachKey.append {q : List Notice} (h : OneForEachKey q) {n : Notice} (hn : ∀ w ∈ q, n.sameKey w = false) :
    OneForEachKey (q ++ [n]) := by
  refine List.pairwise_append.2 ⟨h, List.pairwise_singleton _ _, fun w hw x hx => ?_⟩
  rw [List.mem_singleton.1 hx, Notice.sameKey_comm]
  exact hn w hw

theorem OneForEachKey.offered {q : List Notice} (h : OneForEachKey q) (n : Notice) : OneForEachKey (q.filterMap n.afterOffer) := by
  refine List.pairwise_filterMap.2 (h.imp fun {a b} hab x hx y hy => ?_)
  rw [Notice.sameKey_congr (Notice.afterOffer_some hx).1, Notice.sameKey_comm, Notice.sameKey_congr (Notice.afterOffer_some hy).1,
    Notice.sameKey_comm, hab]

/-! ## The order unit under an offer -/

theorem OrderUnit.offer_of_waiting {u : OrderUnit} {n : Notice} (h : ∃ w ∈ u.queue, n.sameKey w = true) :
    u.offer n = { u with queue := u.queue.filterMap n.afterOffer } := by
  rw [OrderUnit.offer, queueAfterOffer_of_waiting h]

theorem OrderUnit.offer_of_room {u : OrderUnit} {n : Notice} (h : ∀ w ∈ u.queue, n.sameKey w = false)
    (hroom : noticesWaiting u.queue < 30) : u.offer n = { u with queue := u.queue ++ [n] } := by
  rw [OrderUnit.offer, queueAfterOffer_of_new h, if_pos hroom]

theorem OrderUnit.offer_of_full {u : OrderUnit} {n : Notice} (h : ∀ w ∈ u.queue, n.sameKey w = false)
    (hfull : 30 ≤ noticesWaiting u.queue) : u.offer n = { u with hub := { u.hub with lost := min (u.hub.lost + 1) 255 } } := by
  rw [OrderUnit.offer, queueAfterOffer_of_new h, if_neg (Nat.not_lt.2 hfull)]
  rfl

section
variable {u : OrderUnit} {before after : List Notice} {w : Notice}

/-- Where one entry has the key of the offered notice, that entry alone is replaced or removed, in its place (R165). -/
theorem OrderUnit.offer_of_entry (hq : u.queue = before ++ w :: after) (hother : ∀ x ∈ before ++ after, w.sameKey x = false)
    {n : Notice} (hn : n.key ≠ none ∧ n.key = w.key) :
    u.offer n = { u with queue := before ++ ((w.coalesce n).toList ++ after) } := by
  have hsame := (Notice.sameKey_iff n w).2 hn
  have hstays : ∀ l : List Notice, (∀ x ∈ l, w.sameKey x = false) → l.filterMap n.afterOffer = l := fun l hl => by
    rw [List.filterMap_congr fun x hx => Notice.afterOffer_of_other ((Notice.sameKey_congr hn.2 x).trans (hl x hx)),
      List.filterMap_some]
  have hwaits : w ∈ u.queue := hq ▸ List.mem_append_cons_self
  rw [OrderUnit.offer_of_waiting ⟨w, hwaits, hsame⟩, hq, List.filterMap_append,
    hstays before fun x hx => hother x (List.mem_append_left _ hx), List.filterMap_cons, Notice.afterOffer_of_same hsame,
    hstays after fun x hx => hother x (List.mem_append_right _ hx)]
  cases w.coalesce n <;> rfl

/-- An entry that keeps its old value and takes the new one goes when the two are equal (R165). -/
theorem OrderUnit.offer_of_valued (hq : u.queue = before ++ w :: after) (hother : ∀ x ∈ before ++ after, w.sameKey x = false)
    {n x : Notice} (hn : n.key ≠ none ∧ n.key = w.key) {α : Type} [DecidableEq α] {old new : α}
    (hx : w.coalesce n = if new = old then none else some x) : u.offer n =
      if old = new then { u with queue := before ++ after } else { u with queue := before ++ x :: after } := by
  rw [OrderUnit.offer_of_entry hq hother hn, hx]
  by_cases h : old = new
  · rw [if_pos h, if_pos h.symm]
    rfl
  · rw [if_neg h, if_neg (Ne.symm h)]
    rfl

end

/-- Settles O42: by whether an entry with the key of the notice waits, and then by the kind of that entry. -/
theorem offersJoinCoalesceOrAreLost : Obligations.OffersJoinCoalesceOrAreLost := by
  refine fun u => ⟨fun n _ hnew => ⟨OrderUnit.offer_of_room hnew, OrderUnit.offer_of_full hnew⟩, fun before after w hq hother => ?_⟩
  refine ⟨?_, ?_, ?_, ?_, ?_⟩
  · rintro p a b c d x y rfl
    exact OrderUnit.offer_of_valued hq hother (n := .grade p c d y) (x := .grade p a d y) ⟨nofun, rfl⟩ rfl
  · rintro ch a b c d rfl
    exact OrderUnit.offer_of_valued hq hother (n := .source ch c d) (x := .source ch a d) ⟨nofun, rfl⟩ rfl
  · rintro v a b c d x y rfl
    exact OrderUnit.offer_of_valued hq hother (n := .view v c d y) (x := .view v a d y) ⟨nofun, rfl⟩ rfl
  · rintro p a b c d rfl
    exact OrderUnit.offer_of_valued hq hother (n := .link p c d) (x := .link p a d) ⟨nofun, rfl⟩ rfl
  · rintro p x y rfl
    exact OrderUnit.offer_of_entry hq hother ⟨nofun, rfl⟩

end Sys2Proof.Machine

/-! # Proofs: an operation that answers no order (R50, R51, R155, R160, R164 to R166, R168, R181)

The order unit is moved by offers, by consumption, by NOTICE_MOVE, and by orders that end or begin a SAVE job. `State.Unanswered` says
of an operation that it is of none of the last kind: an order stays in its slot and which slots are SAVING stays, the notice queue keeps
its bounds, no SAVE job begins or ends, the boot flash is untouched, and the rows of frame memory stay in canonical form. The effect of
every order is one, and so is every event that is no order, no report of the flash and no reset. -/

namespace Sys2Proof

theorem Tab.get_set {α : Type} {n : Nat} (v : Vector α n) (i j : Fin n) (x : α) :
    Tab.get (v.set i.val x) j = if j = i then x else Tab.get v j := Tab.get_upd v i j fun _ => x

end Sys2Proof

namespace Sys2Proof.Machine

/-! ## The order unit -/

/-- From `u` to `v` no order is answered and none begins to save. -/
structure OrderUnit.Unanswered (u v : OrderUnit) : Prop where
  stays : ∀ i, Tab.get u.slots i ≠ .free → Tab.get v.slots i = Tab.get u.slots i
  saving : ∀ i, (Tab.get v.slots i).isSaving = (Tab.get u.slots i).isSaving
  replies : repliesWaiting v.queue ≤ repliesWaiting u.queue
  notices : noticesWaiting u.queue ≤ 30 → noticesWaiting v.queue ≤ 30
  keys : OneForEachKey u.queue → OneForEachKey v.queue

namespace OrderUnit.Unanswered

variable {u v w : OrderUnit}

theorem refl (u : OrderUnit) : u.Unanswered u := ⟨fun _ _ => rfl, fun _ => rfl, le_rfl, id, id⟩

theorem trans (h : u.Unanswered v) (g : v.Unanswered w) : u.Unanswered w where
  stays i hi := (g.stays i (h.stays i hi ▸ hi)).trans (h.stays i hi)
  saving i := (g.saving i).trans (h.saving i)
  replies := g.replies.trans h.replies
  notices hu := g.notices (h.notices hu)
  keys hu := g.keys (h.keys hu)

/-- The hub record and the count of consumed orders are no part of it. -/
theorem of_eq (hslots : v.slots = u.slots) (hqueue : v.queue = u.queue) : u.Unanswered v where
  stays i _ := by rw [hslots]
  saving i := by rw [hslots]
  replies := by rw [hqueue]
  notices := by rw [hqueue]; exact id
  keys := by rw [hqueue]; exact id

/-- A notice other than a REPLY is offered (R164 to R166). -/
theorem offer (u : OrderUnit) {n : Notice} (hn : n.isReply = false) : u.Unanswered (u.offer n) := by
  by_cases hwaits : ∃ w ∈ u.queue, n.sameKey w = true
  · rw [OrderUnit.offer_of_waiting hwaits]
    have hkept : ∀ w x, n.afterOffer w = some x → x.isReply = w.isReply := fun _ _ hx => (Notice.afterOffer_some hx).2
    exact
      { stays := fun _ _ => rfl
        saving := fun _ => rfl
        replies := length_filter_filterMap_le hkept _
        notices := (length_filter_filterMap_le (fun w x hx => congrArg Bool.not (hkept w x hx)) _).trans
        keys := fun h => h.offered n }
  · have hnew : ∀ w ∈ u.queue, n.sameKey w = false := by simpa using hwaits
    rcases lt_or_ge (noticesWaiting u.queue) 30 with hroom | hfull
    · rw [OrderUnit.offer_of_room hnew hroom]
      refine ⟨fun _ _ => rfl, fun _ => rfl, ?_, fun _ => ?_, fun h => h.append hnew⟩
      · rw [repliesWaiting_append, hn]
        exact le_rfl
      · rw [noticesWaiting_append, hn]
        exact hroom
    · rw [OrderUnit.offer_of_full hnew hfull]
      exact of_eq rfl rfl

/-- The head of the queue leaves it (R168). -/
theorem pop {n : Notice} {rest : List Notice} (hq : u.queue = n :: rest) : u.Unanswered { u with queue := rest } := by
  have hsub : rest.Sublist u.queue := hq ▸ List.sublist_cons_self n rest
  exact ⟨fun _ _ => rfl, fun _ => rfl, (hsub.filter _).length_le, (hsub.filter _).length_le.trans, fun h => h.sublist hsub⟩

/-- A consumed order takes a FREE slot or none (R154, R155). -/
theorem consume (u : OrderUnit) (arrival : Trunk) (broadcast : Bool) (code tag : Byte) (params : List Byte) :
    u.Unanswered (u.consume arrival broadcast code tag params) := by
  cases hf : u.freeSlot with
  | none =>
    rw [OrderUnit.consume_of_full hf]
    exact of_eq rfl rfl
  | some i =>
    rw [OrderUnit.consume_of_free hf]
    have hfree : Tab.get u.slots i = .free := by simpa using List.find?_some hf
    refine ⟨fun k hk => ?_, fun k => ?_, le_rfl, id, id⟩
    · rw [Tab.get_set, if_neg fun e : k = i => hk (e ▸ hfree)]
    · rw [Tab.get_set]
      split
      · next hk =>
        rw [hk, hfree]
        rfl
      · rfl

end OrderUnit.Unanswered

/-! ## The rows of one channel (R50, R51) -/

/-- The rows of a channel's slots are in canonical form. -/
def Channel.RowsCanonical (c : Channel) : Prop := ∀ i, Mem.wf blankRow (c.slot i).rows = true

/-- An operation that keeps the rows of a channel in canonical form. -/
def Channel.KeepsRows (f : Channel → Channel) : Prop := ∀ c : Channel, c.RowsCanonical → (f c).RowsCanonical

namespace Channel.RowsCanonical

variable {c : Channel}

theorem of_slots {d : Channel} (h : c.RowsCanonical) (e : d.slots = c.slots) : d.RowsCanonical := fun i => by
  rw [Channel.slot, e]
  exact h i

theorem updSlot (h : c.RowsCanonical) (i : Fin 3) {f : Slot → Slot}
    (hf : ∀ sl, Mem.wf blankRow sl.rows = true → Mem.wf blankRow (f sl).rows = true) : (c.updSlot i f).RowsCanonical := fun j => by
  rw [Channel.slot_updSlot]
  split
  · exact hf _ (h i)
  · exact h j

theorem mapSlots (h : c.RowsCanonical) {f : Slot → Slot} (hf : ∀ sl, (f sl).rows = sl.rows) :
    { c with slots := c.slots.map f }.RowsCanonical := fun i => by
  rw [Channel.slot_mapSlots, hf]
  exact h i

theorem abandonIntake (h : c.RowsCanonical) : c.abandonIntake.RowsCanonical := by
  unfold Channel.abandonIntake
  split
  · exact h
  · exact updSlot (c := { c with intake := .none }) h _ fun _ => id
  · exact h

theorem release (h : c.RowsCanonical) (sc : Fin 2) : (c.release sc).RowsCanonical := h.mapSlots fun sl => by
  unfold Slot.leave
  split <;> simp

end Channel.RowsCanonical

namespace Channel

/-- An operation that leaves the slots. -/
theorem KeepsRows.of_slots {f : Channel → Channel} (h : ∀ c, (f c).slots = c.slots) : KeepsRows f := fun c hc => hc.of_slots (h c)

theorem keepsRows_bind (k : Fin 256) : KeepsRows (bind k) := .of_slots fun _ => rfl

theorem keepsRows_unbind : KeepsRows unbind := fun _ h => h.abandonIntake.mapSlots fun _ => by simp

theorem keepsRows_frameOpen (frame : Nat) (grade : Grade) (home : Nat) : KeepsRows (frameOpen frame grade home) := fun c h => by
  unfold frameOpen
  split
  · exact h
  · dsimp only
    split
    · next i _ =>
      exact RowsCanonical.updSlot (c := { c.abandonIntake with grade := grade, home := some home, intake := .filling i frame })
        h.abandonIntake i fun _ => id
    · exact h.abandonIntake

/-- A row is written by `Mem.write`, which keeps the canonical form. -/
theorem keepsRows_line (frame line : Nat) (pixels : List Byte) (poisoned : Bool) : KeepsRows (Channel.line frame line pixels poisoned) := by
  intro c h
  unfold Channel.line
  (repeat' split)
  · exact h
  · exact h
  · exact h
  · refine h.updSlot _ fun sl hsl => ?_
    unfold Slot.poisonedLine
    split
    · exact hsl
    · exact Mem.write_wf _ _ hsl
  · refine h.updSlot _ fun sl hsl => ?_
    unfold Slot.goodLine
    split
    · exact hsl
    · exact Mem.write_wf _ _ hsl
  · exact h

theorem keepsRows_frameClose (frame : Nat) (status : CloseStatus) : KeepsRows (frameClose frame status) := by
  intro c h
  unfold frameClose
  split
  · exact h
  · split <;> exact h
  · split
    · dsimp only
      split
      · exact h.abandonIntake
      · exact (h.mapSlots fun sl => by unfold Slot.unNewest; split <;> simp).updSlot _ fun _ => id
    · exact h

theorem keepsRows_release (sc : Fin 2) : KeepsRows (release sc) := fun _ h => h.release sc

theorem keepsRows_take (sc : Fin 2) : KeepsRows (take sc) := by
  intro c h
  unfold take
  (repeat' split)
  · exact h.release sc
  · exact h
  · exact (h.release sc).updSlot _ fun _ => id

theorem keepsRows_ageStale : KeepsRows ageStale := .of_slots fun c => by
  unfold ageStale
  split <;> rfl

theorem keepsRows_ageLost : KeepsRows ageLost := .of_slots fun c => by
  unfold ageLost
  split <;> rfl

theorem keepsRows_compareStale : KeepsRows compareStale := .of_slots fun c => by
  unfold compareStale
  split <;> rfl

theorem keepsRows_compareLost : KeepsRows compareLost := .of_slots fun c => by
  unfold compareLost
  split <;> rfl

end Channel

/-! ## The hub -/

/-- The rows of every slot are in canonical form. -/
def State.RowsCanonical (s : State) : Prop := ∀ c, (s.channel c).RowsCanonical

theorem State.RowsCanonical.congr {s t : State} (h : s.RowsCanonical) (e : t.channels = s.channels) : t.RowsCanonical := fun c =>
  State.channel_congr e c ▸ h c

/-- From `s` to `t` no order is answered, no SAVE job begins or ends, and the rows stay in canonical form. -/
structure State.Unanswered (s t : State) : Prop where
  orders : s.orders.Unanswered t.orders
  job : t.loader.job.map SaveJob.slot = s.loader.job.map SaveJob.slot
  flash : t.flash = s.flash
  rows : s.RowsCanonical → t.RowsCanonical

namespace State.Unanswered

variable {s t : State}

theorem refl (s : State) : s.Unanswered s := ⟨.refl _, rfl, rfl, id⟩

theorem trans {x : State} (h : s.Unanswered t) (g : t.Unanswered x) : s.Unanswered x where
  orders := h.orders.trans g.orders
  job := g.job.trans h.job
  flash := g.flash.trans h.flash
  rows hs := g.rows (h.rows hs)

/-- The other blocks are no part of it. -/
theorem of_frame {x : State} (h : s.Unanswered t)
    (e : x.orders = t.orders ∧ x.channels = t.channels ∧ x.loader = t.loader ∧ x.flash = t.flash) : s.Unanswered x := by
  obtain ⟨horders, hchannels, hloader, hflash⟩ := e
  exact h.trans ⟨.of_eq (by rw [horders]) (by rw [horders]), by rw [hloader], hflash, (·.congr hchannels)⟩

theorem ite {x : State} (b : Prop) [Decidable b] (ht : s.Unanswered t) (hx : s.Unanswered x) : s.Unanswered (if b then t else x) := by
  split
  · exact ht
  · exact hx

theorem foldl {β : Type} {f : State → β → State} (hf : ∀ {x : State} b, s.Unanswered x → s.Unanswered (f x b)) (l : List β)
    (h : s.Unanswered t) : s.Unanswered (l.foldl f t) := List.foldlRecOn l f h fun _ hx b _ => hf b hx

/-! ### Offers and events (R62, R80, R92, R113, R165) -/

theorem setOrders (h : s.Unanswered t) {u : OrderUnit} (hu : t.orders.Unanswered u) : s.Unanswered { t with orders := u } :=
  h.trans ⟨hu, rfl, rfl, id⟩

theorem updHub (h : s.Unanswered t) (f : HubRecord → HubRecord) : s.Unanswered (t.updHub f) := h.setOrders (.of_eq rfl rfl)

theorem offer (h : s.Unanswered t) {n : Notice} (hn : n.isReply = false) : s.Unanswered (t.offer n) := h.setOrders (.offer _ hn)

theorem offerIf (h : s.Unanswered t) (b : Bool) {n : Notice} (hn : n.isReply = false) : s.Unanswered (t.offerIf b n) :=
  ite _ (h.offer hn) h

theorem updChannel (h : s.Unanswered t) (c : Fin 12) {f : Channel → Channel} (hf : Channel.KeepsRows f) :
    s.Unanswered (t.updChannel c f) := by
  refine h.trans ⟨.refl _, rfl, rfl, fun ht d => ?_⟩
  rw [State.channel, State.updChannel_channels, Tab.get_upd]
  split
  · exact hf _ (ht c)
  · exact ht d

theorem alertsOfChannel (h : s.Unanswered t) (c : Fin 12) : s.Unanswered (t.alertsOfChannel c) := h.of_frame (by simp)

theorem channelEvent (h : s.Unanswered t) (c : Fin 12) {f : Channel → Channel} (hf : Channel.KeepsRows f) :
    s.Unanswered (t.channelEvent c f) := by
  have hoffered := fun b o n => (h.updChannel c hf).offerIf b (n := .source c o n) rfl
  exact ite _ ((hoffered _ _ _).alertsOfChannel c) (hoffered _ _ _)

theorem lensEvent (h : s.Unanswered t) (i : Fin 8) (f : Lens → Lens × Option LearnEnd) : s.Unanswered (t.lensEvent i f) := by
  refine h.trans ⟨?_, by simp, by simp, fun ht => ht.congr (by simp)⟩
  rw [State.lensEvent_orders]
  have hgraded : t.orders.Unanswered (if (t.lens i).stated ≠ (f (t.lens i)).1.stated then
      t.orders.offer (.grade i (t.lens i).stated (f (t.lens i)).1.stated (gradeShare (t.lens i) (f (t.lens i)).1)) else t.orders) := by
    split
    · exact .offer _ rfl
    · exact .refl _
  dsimp only
  split
  · exact hgraded.trans (.offer _ rfl)
  · exact hgraded

theorem setSelector (h : s.Unanswered t) (v : Selector) : s.Unanswered { t with selector := v } := h.of_frame ⟨rfl, rfl, rfl, rfl⟩

theorem recompute (h : s.Unanswered t) (sc : Fin 2) : s.Unanswered (t.recompute sc) := (h.setSelector _).offerIf _ rfl

theorem recomputeBoth (h : s.Unanswered t) : s.Unanswered t.recomputeBoth := (h.recompute 0).recompute 1

theorem vectorChanged (h : s.Unanswered t) : s.Unanswered t.vectorChanged := ite _ h (h.setSelector _).recomputeBoth

/-! ### The switch (spec 02) -/

theorem deliver (h : s.Unanswered t) (e : StreamEntry) {f : Channel → Channel} (hf : Channel.KeepsRows f) :
    s.Unanswered (t.deliver e f) := by
  unfold State.deliver
  split
  · exact h.channelEvent _ hf
  · exact h

theorem updFlow (h : s.Unanswered t) (k : Fin 256) (f : StreamFlow → StreamFlow) : s.Unanswered (t.updFlow k f) :=
  h.of_frame ⟨rfl, rfl, rfl, rfl⟩

/-- A picture packet sent on a route. -/
theorem sent (h : s.Unanswered t) (e : StreamEntry) (k : Fin 256) (p q : Packet) :
    s.Unanswered ((t.sendIfRouted e .ta k p).sendIfRouted e .tb k q) := h.of_frame (by simp)

theorem closeCut (h : s.Unanswered t) (k : Fin 256) : s.Unanswered (t.closeCut k) := by
  unfold State.closeCut
  exact ((h.sent _ k _ _).deliver _ (Channel.keepsRows_frameClose _ _)).updFlow k _

theorem closeIfOpen (h : s.Unanswered t) (k : Fin 256) : s.Unanswered (t.closeIfOpen k) := ite _ (h.closeCut k) h

theorem originLoss (h : s.Unanswered t) (p : Port) : s.Unanswered (t.originLoss p) :=
  State.originLoss_keeps (fun _ k hx => hx.closeCut k) h p

theorem switchFrameOpen (h : s.Unanswered t) (p : Port) (k : Fin 256) (frame : Nat) (grade : Grade) (home : Nat) :
    s.Unanswered (t.switchFrameOpen p k frame grade home) := by
  unfold State.switchFrameOpen
  split
  · exact h.of_frame (by simp)
  · exact h.of_frame (by simp)
  · exact (((h.closeIfOpen k).updFlow k _).sent _ k _ _).deliver _ (Channel.keepsRows_frameOpen _ _ _)

theorem switchFrameClose (h : s.Unanswered t) (p : Port) (k : Fin 256) (frame : Nat) (status : CloseStatus) :
    s.Unanswered (t.switchFrameClose p k frame status) := by
  unfold State.switchFrameClose
  dsimp only
  (repeat' split)
  · exact h.of_frame (by simp)
  · exact h.of_frame (by simp)
  · exact ((h.updFlow k _).sent _ k _ _).deliver _ (Channel.keepsRows_frameClose _ _)
  · exact h.of_frame (by simp)

theorem settleLine (h : s.Unanswered t) (p : Port) (a : LineArrival) (report : EndReport) (bytes : List Byte) :
    s.Unanswered (t.settleLine p a report bytes) := by
  by_cases ho : t.StillOpen a
  · have hcopies : ∀ pixels, s.Unanswered ((t.settleCopy a report pixels .ta).settleCopy a report pixels .tb) := fun _ =>
      h.of_frame (by simp)
    rw [State.settleLine_open ho]
    exact ite _ (hcopies _) ((hcopies _).deliver _ (Channel.keepsRows_line _ _ _ _))
  · rw [State.settleLine_closed ho]
    (repeat' split) <;> exact h.of_frame (by simp)

theorem reportLineEnd (h : s.Unanswered t) (p : Port) (report : EndReport) (bytes : List Byte) :
    s.Unanswered (t.reportLineEnd p report bytes) := by
  unfold State.reportLineEnd
  split
  · exact h
  · exact settleLine (h.of_frame (by simp)) p _ report bytes

theorem markUnformed (h : s.Unanswered t) (p : Port) (u : UnformedLine) : s.Unanswered (t.markUnformed p u) := h.of_frame (by simp)

theorem abandonArrival (h : s.Unanswered t) (p : Port) : s.Unanswered (t.abandonArrival p) := by
  unfold State.abandonArrival
  split
  · exact h
  · have hdrawn : s.Unanswered { t with freeUsed := t.freeUsed + 1 } := h.of_frame ⟨rfl, rfl, rfl, rfl⟩
    exact (hdrawn.reportLineEnd p .failed _).markUnformed p _

/-! ### The assessor (R12, R66, R70, R71, R73, R95, R96, R98) -/

theorem updCam (h : s.Unanswered t) (i : Fin 8) (f : CameraPort → CameraPort) : s.Unanswered (t.updCam i f) :=
  h.of_frame ⟨rfl, rfl, rfl, rfl⟩

theorem updLens (h : s.Unanswered t) (i : Fin 8) (f : Lens → Lens) : s.Unanswered (t.updLens i f) := h.of_frame ⟨rfl, rfl, rfl, rfl⟩

theorem endOpenFrame (h : s.Unanswered t) (i : Fin 8) (complete : Bool) : s.Unanswered (t.endOpenFrame i complete) := by
  unfold State.endOpenFrame
  split
  · exact h
  · exact (h.updCam i _).lensEvent i _

theorem openCameraFrame (h : s.Unanswered t) (i : Fin 8) (frame : Nat) : s.Unanswered (t.openCameraFrame i frame) :=
  ((h.endOpenFrame i false).updCam i _).updLens i _

theorem cameraLine (h : s.Unanswered t) (i : Fin 8) (frame line : Nat) (pixels : List Byte) :
    s.Unanswered (t.cameraLine i frame line pixels) := by
  unfold State.cameraLine
  split
  · exact h
  · exact ite _ ((h.updCam i _).updLens i _) h

theorem closeCameraFrame (h : s.Unanswered t) (i : Fin 8) (frame : Nat) (status : CloseStatus) :
    s.Unanswered (t.closeCameraFrame i frame status) := by
  unfold State.closeCameraFrame
  split
  · exact h
  · exact ite _ (h.endOpenFrame i _) h

theorem loseCameraFrame (h : s.Unanswered t) (i : Fin 8) : s.Unanswered (t.loseCameraFrame i) := (h.endOpenFrame i false).updLens i _

theorem lensEventsOfProfile (h : s.Unanswered t) (lp : Fin 4) (f : Lens → Lens × Option LearnEnd) :
    s.Unanswered (t.lensEventsOfProfile lp f) := foldl (fun i hx => ite _ (hx.lensEvent i f) hx) _ h

/-! ### Arrivals (R1, R6 to R9, R11, R152, R153) -/

theorem setIgnoring (h : s.Unanswered t) (p : Port) (b : Bool) : s.Unanswered (t.setIgnoring p b) := h.of_frame (by simp)

theorem judgeHighLine (h : s.Unanswered t) (p : Port) : s.Unanswered (t.judgeHighLine p) :=
  (h.reportLineEnd p .failed []).of_frame (by simp [State.judgeHighLine])

theorem takeHeader (h : s.Unanswered t) (p : Port) (stream : Byte) (frame line : Nat) :
    s.Unanswered (t.takeHeader p stream frame line) :=
  ite _ ((h.judgeHighLine p).of_frame (by simp)) ((h.reportLineEnd p .failed []).of_frame (by simp))

theorem ensureHeader (h : s.Unanswered t) (p : Port) (bytes : List Byte) : s.Unanswered (t.ensureHeader p bytes) :=
  ite _ h (h.takeHeader p _ _ _)

theorem framingFault (h : s.Unanswered t) (p : Port) (cause : FramingCause) (bytes : List Byte) :
    s.Unanswered (t.framingFault p cause bytes) := by
  have hhead : s.Unanswered (if hasLineHeader bytes then (t.setIgnoring p false).ensureHeader p bytes else t) :=
    ite _ ((h.setIgnoring p false).ensureHeader p bytes) h
  have hcounted : s.Unanswered ((if hasLineHeader bytes then (t.setIgnoring p false).ensureHeader p bytes else t).countFraming p) :=
    hhead.of_frame (by simp)
  exact ite _ ((h.judgeHighLine p).setIgnoring p _) ((hcounted.reportLineEnd p .failed bytes).setIgnoring p _)

theorem overLongEnd (h : s.Unanswered t) (p : Port) (bytes : List Byte) : s.Unanswered (t.overLongEnd p bytes) :=
  (ite _ h (h.framingFault p .overLong bytes)).setIgnoring p false

theorem packetOver (h : s.Unanswered t) (p : Port) (bytes : List Byte) (goesOn : Bool) {f : State → State}
    (hf : ∀ x, s.Unanswered x → s.Unanswered (f x)) : s.Unanswered (t.packetOver p bytes goesOn f) :=
  ite _ (hf _ (h.of_frame (by simp))) (h.of_frame (by simp))

theorem countReceived (h : s.Unanswered t) (p : Port) : s.Unanswered (t.countReceived p) := h.of_frame (by simp)

theorem handFrameOpen (h : s.Unanswered t) (p : Port) (k : Fin 256) (frame : Nat) (grade : Grade) (home : Nat) :
    s.Unanswered (t.handFrameOpen p k frame grade home) := by
  have hreceived := h.countReceived p
  cases p with
  | cam i => exact (hreceived.openCameraFrame i frame).switchFrameOpen _ _ _ _ _
  | trunk u => exact hreceived.switchFrameOpen _ _ _ _ _

theorem handFrameClose (h : s.Unanswered t) (p : Port) (k : Fin 256) (frame : Nat) (status : CloseStatus) :
    s.Unanswered (t.handFrameClose p k frame status) := by
  have hreceived := h.countReceived p
  cases p with
  | cam i => exact (hreceived.closeCameraFrame i frame status).switchFrameClose _ _ _ _
  | trunk u => exact hreceived.switchFrameClose _ _ _ _

theorem handLine (h : s.Unanswered t) (p : Port) (frame line : Nat) (pixels bytes : List Byte) :
    s.Unanswered (t.handLine p frame line pixels bytes) := by
  have hreceived := h.countReceived p
  cases p with
  | cam i => exact (hreceived.cameraLine i frame line pixels).reportLineEnd _ .good bytes
  | trunk u => exact hreceived.reportLineEnd _ .good bytes

theorem forward (h : s.Unanswered t) (arrival u : Trunk) (e : MgmtEntry) : s.Unanswered (t.forward arrival u e) :=
  h.of_frame (by simp)

theorem takeOrder (h : s.Unanswered t) (arrival : Trunk) (dest code tag : Byte) (params : List Byte) :
    s.Unanswered (t.takeOrder arrival dest code tag params) := by
  have hconsumed := fun b => h.setOrders (.consume t.orders arrival b code tag params)
  exact ite _ ((hconsumed true).forward _ _ _) (ite _ (h.forward _ _ _) (ite _ (hconsumed false)
    (ite _ (h.forward _ _ _) (h.forward _ _ _))))

theorem handOn (h : s.Unanswered t) (p : Port) (packet : Packet) (bytes : List Byte) : s.Unanswered (t.handOn p packet bytes) := by
  unfold State.handOn
  split
  · exact h.handFrameOpen p _ _ _ _
  · exact h.handFrameClose p _ _ _
  · exact h.handLine p _ _ _ bytes
  · exact (h.countReceived _).takeOrder _ _ _ _ _
  · exact (h.countReceived _).forward _ _ _
  · exact h
  · exact h

theorem judgeArrival (h : s.Unanswered t) (p : Port) (bytes : List Byte) : s.Unanswered (t.judgeArrival p bytes) := by
  unfold State.judgeArrival
  split
  · exact reportLineEnd (h.of_frame (by simp)) p .failed bytes
  · exact h.handOn p _ bytes

theorem packetEnd (h : s.Unanswered t) (p : Port) (bytes : List Byte) : s.Unanswered (t.packetEnd p bytes) :=
  ite _ (h.overLongEnd p bytes)
    (ite _ (ite _ ((h.judgeHighLine p).setIgnoring p false) (((h.setIgnoring p false).ensureHeader p bytes).judgeArrival p bytes))
      (((h.reportLineEnd p .failed []).setIgnoring p false).judgeArrival p bytes))

theorem discardPoisoned (h : s.Unanswered t) (p : Port) (bytes : List Byte) : s.Unanswered (t.discardPoisoned p bytes) := by
  cases p with
  | cam i => exact reportLineEnd (h.of_frame (by simp)) _ .failed bytes
  | trunk u => exact reportLineEnd (h.of_frame (by simp)) _ .failed bytes

theorem poisonedArrival (h : s.Unanswered t) (p : Port) (bytes : List Byte) : s.Unanswered (t.poisonedArrival p bytes) := by
  have hhead := (h.setIgnoring p false).ensureHeader p bytes
  exact ite _ (h.overLongEnd p bytes)
    (ite _ (ite _ ((h.judgeHighLine p).setIgnoring p false)
        (ite _ (reportLineEnd (hhead.of_frame (by simp)) p .poisoned bytes) (hhead.discardPoisoned p bytes)))
      (((h.reportLineEnd p .failed []).setIgnoring p false).discardPoisoned p bytes))

/-! ### Links and ports (R2, R10, R12, R13, R15, R16, R37) -/

theorem updRx (h : s.Unanswered t) (p : Port) (f : Receiver → Receiver) : s.Unanswered (t.updRx p f) := h.of_frame (by simp)

theorem linkUp (h : s.Unanswered t) (p : Port) : s.Unanswered (t.linkUp p) := ite _ ((h.updRx p _).offer rfl) h

theorem portLost (h : s.Unanswered t) (p : Port) : s.Unanswered (t.portLost p) := by
  cases p with
  | cam i => exact (h.loseCameraFrame i).originLoss _
  | trunk u => exact originLoss (h.of_frame (by simp)) _

theorem linkDown (h : s.Unanswered t) (p : Port) (arrived : Option (List Byte)) : s.Unanswered (t.linkDown p arrived) := by
  have hdown : ∀ {x : State}, s.Unanswered x →
      s.Unanswered (((x.updRx p (fun r => { r with link := .down, unformed := none, ignoring := false })).offer
        (.link p .up .down)).portLost p) := fun hx => ((hx.updRx p _).offer rfl).portLost p
  exact ite _ (hdown (ite _ (h.framingFault p _ _) (h.reportLineEnd p _ _))) h

theorem stopLens (h : s.Unanswered t) (i : Fin 8) : s.Unanswered (t.stopLens i) := h.lensEvent i _

theorem disablePort (h : s.Unanswered t) (i : Fin 8) : s.Unanswered (t.disablePort i) :=
  (((h.abandonArrival (.cam i)).stopLens i).loseCameraFrame i).originLoss _

theorem clearErrors (h : s.Unanswered t) (p : Port) : s.Unanswered (t.clearErrors p) := h.of_frame (by simp)

theorem restartPort (h : s.Unanswered t) (p : Port) : s.Unanswered (t.restartPort p) := by
  have hdown := (h.abandonArrival p).updRx p (fun x => { x with link := .down, hold := some Config.holdTime, ignoring := false })
  have hheld := fun b => (hdown.clearErrors p).offerIf b (n := .link p .up .down) rfl
  cases p with
  | cam i => exact ((hheld _).stopLens i).portLost _
  | trunk u => exact (hheld _).portLost _

/-! ### The view selector (R100 to R102, R107 to R111) -/

theorem updDoor (h : s.Unanswered t) (d : Fin 8) (f : DoorLine → DoorLine) : s.Unanswered (t.updDoor d f) := h.setSelector _

theorem setFiltered (h : s.Unanswered t) (d : Fin 8) (level : Bool) (stop : Nat) : s.Unanswered (t.setFiltered d level stop) :=
  ite _ (h.updDoor d _).vectorChanged (h.updDoor d _)

theorem doorChange (h : s.Unanswered t) (d : Fin 8) (level : Bool) : s.Unanswered (t.doorChange d level) :=
  ite _ h (ite _ ((h.updDoor d _).setFiltered d level _) (h.updDoor d _))

theorem filterExpiry (h : s.Unanswered t) (d : Fin 8) : s.Unanswered (t.filterExpiry d) := by
  unfold State.filterExpiry
  split
  · exact h.setFiltered d _ _
  · exact h

theorem setFilterTime (h : s.Unanswered t) (d : Fin 8) (time : Nat) : s.Unanswered (t.setFilterTime d time) := by
  have hset := h.updDoor d (fun l => { l with filterTime := time })
  unfold State.setFilterTime
  dsimp only
  split
  · exact ite _ (hset.setFiltered d _ _) hset
  · exact hset

theorem setLines (h : s.Unanswered t) (o : SetLines) : s.Unanswered (t.setLines o) :=
  foldl (fun d hx => ite _ (hx.setFilterTime d _) hx) _ (ite _ (h.setSelector _).vectorChanged h)

theorem lingerExpiry (h : s.Unanswered t) (n : Fin 16) : s.Unanswered (t.lingerExpiry n) := by
  unfold State.lingerExpiry
  split
  · exact recomputeBoth (h.setSelector _)
  · exact h
  · exact h

theorem setPin (h : s.Unanswered t) (sc : Fin 2) (pin : Option Pin) : s.Unanswered (t.setPin sc pin) := (h.setSelector _).recompute sc

theorem silenceExpiry (h : s.Unanswered t) : s.Unanswered t.silenceExpiry := by
  unfold State.silenceExpiry
  split
  · exact h
  · exact ((h.updHub _).setSelector _).recomputeBoth.offer rfl

/-! ### Screens (R56, R57, R120, R131, R132) -/

theorem updScreen (h : s.Unanswered t) (sc : Fin 2) (f : Screen → Screen) : s.Unanswered (t.updScreen sc f) :=
  h.of_frame ⟨rfl, rfl, rfl, rfl⟩

theorem releaseWhere (h : s.Unanswered t) (sc : Fin 2) (f : Fin 12 → Bool) : s.Unanswered (t.releaseWhere sc f) :=
  foldl (fun c hx => ite _ ((hx.channelEvent c (Channel.keepsRows_release sc)).updScreen sc _) hx) _ h

theorem takeWhere (h : s.Unanswered t) (sc : Fin 2) (drawn : Fin 12 → Bool) : s.Unanswered (t.takeWhere sc drawn) :=
  foldl (fun c hx => ite _ ((hx.channelEvent c (Channel.keepsRows_take sc)).updScreen sc _) hx) _ h

theorem disableScreen (h : s.Unanswered t) (sc : Fin 2) : s.Unanswered (t.disableScreen sc) := (h.releaseWhere sc _).updScreen sc _

theorem frameStart (h : s.Unanswered t) (sc : Fin 2) : s.Unanswered (t.frameStart sc) :=
  ite _ (h.updScreen sc _) ((((h.updScreen sc _).takeWhere sc _).releaseWhere sc _).updScreen sc _)

/-! ### NOTICE_MOVE, the load and time (R168, R175 to R179) -/

theorem moveNotice (h : s.Unanswered t) : s.Unanswered t.moveNotice := by
  unfold State.moveNotice
  split
  · next n rest u us hq hu =>
    exact foldl (fun v hx => hx.of_frame (by simp)) _ (h.setOrders (.pop hq))
  · exact h

theorem setPhase (h : s.Unanswered t) (p : LoadPhase) : s.Unanswered (t.setPhase p) := h.trans ⟨.refl _, rfl, rfl, id⟩

theorem continueLoad (h : s.Unanswered t) (todo : List ImageEntry) : s.Unanswered (t.continueLoad todo) :=
  ite _ ((h.setPhase _).offer rfl) (h.setPhase _)

theorem judgeLoad (h : s.Unanswered t) (answers : Bool) : s.Unanswered (t.judgeLoad answers) := by
  unfold State.judgeLoad
  split
  · exact (h.updHub _).continueLoad _
  · exact h
  · exact h

/-- A millisecond moves timers alone. -/
theorem tick (s : State) : s.Unanswered s.tick := by
  refine ⟨.of_eq rfl rfl, ?_, rfl, fun hs c => ?_⟩
  · exact (Option.map_map ..).trans rfl
  · have htick : s.tick.channel c = (s.channel c).tick := Tab.get_map ..
    rw [htick]
    exact hs c

end State.Unanswered

end Sys2Proof.Machine

/-! # Proofs: the effects of the orders (R14, R15, R21, R43, R86, R94, R102, R105, R108 to R110, R119, R122, R143, R157, R162, R163, R177)

What an order does before its REPLY is an operation that answers no order, and nothing at all when the order is refused. -/

namespace Sys2Proof.Machine

/-- What the effect of an order leaves of a hub, with the answer it gives. -/
structure State.EffectGives (s : State) (r : State × Answer) : Prop where
  unanswered : s.Unanswered r.1
  refused : ∀ reason, r.2 = .refused reason → r.1 = s

namespace State.EffectGives

variable {s t : State}

theorem same (s : State) (a : Answer) : s.EffectGives (s, a) := ⟨.refl s, fun _ _ => rfl⟩

theorem done (h : s.Unanswered t) (clamped : Bool) : s.EffectGives (t, .done clamped) := ⟨h, nofun⟩

theorem setHub (s : State) (ps : List Byte) : s.EffectGives (setHubEffect ps s) := .done ((Unanswered.refl s).updHub _) _

theorem hubSection (s : State) (ps : List Byte) : s.EffectGives (hubSectionEffect ps s) := .done ((Unanswered.refl s).updHub _) _

theorem setPort (s : State) (ps : List Byte) : s.EffectGives (setPortEffect ps s) := by
  unfold setPortEffect
  split
  · exact same s _
  next o _ =>
  dsimp only
  split
  · exact same s _
  have hstored := (Unanswered.refl s).updCam o.port (fun c => { c with enable := o.enable, stream := o.stream, profile := o.profile })
  have hported := fun b c [Decidable b] [Decidable c] =>
    Unanswered.ite b (hstored.disablePort o.port) (.ite c (hstored.originLoss (.cam o.port)) hstored)
  exact .done (.ite _ ((hported _ _).lensEvent o.port _) (hported _ _)) _

theorem restartPort (s : State) (ps : List Byte) : s.EffectGives (restartPortEffect ps s) := by
  unfold restartPortEffect
  split
  · exact same s _
  · exact .done ((Unanswered.refl s).restartPort _) _

theorem loadStream (s : State) (ps : List Byte) : s.EffectGives (loadStreamEffect ps s) := by
  cases hread : readLoadStream ps with
  | none => exact loadStreamEffect_badField hread ▸ same s _
  | some ke =>
    obtain ⟨k, e⟩ := ke
    by_cases htaken : (e.channel.map (s.channelTaken k)).getD false = true
    · exact loadStreamEffect_inUse hread htaken ▸ same s _
    · rw [loadStreamEffect_accepted hread htaken]
      have hclosed : s.Unanswered (s.closedFor k) := .ite _ (((Unanswered.refl s).closeCut k).updFlow k _) (.refl s)
      have hfreed := fun b [Decidable b] old => Unanswered.ite b (hclosed.deliver old Channel.keepsRows_unbind) hclosed
      have hwritten := fun b [Decidable b] old =>
        (hfreed b old).of_frame (x := State.updStream _ k (fun r => { r with entry := e })) ⟨rfl, rfl, rfl, rfl⟩
      exact .done (.ite _ ((hwritten _ _).deliver e (Channel.keepsRows_bind k)) (hwritten _ _)) _

theorem setChannel (s : State) (ps : List Byte) : s.EffectGives (setChannelEffect ps s) := by
  unfold setChannelEffect
  split
  · exact same s _
  next o _ =>
  have hset := (Unanswered.refl s).updChannel o.channel
    (f := fun c => { c with patch := o.patch, staleTime := o.staleTime, lostTime := o.lostTime }) (.of_slots fun _ => rfl)
  have hcompared := (hset.channelEvent o.channel Channel.keepsRows_compareStale).channelEvent o.channel Channel.keepsRows_compareLost
  exact .done (.ite _ hcompared hset) _

theorem loadView (s : State) (ps : List Byte) : s.EffectGives (loadViewEffect ps s) := by
  unfold loadViewEffect
  split
  · exact same s _
  · refine .done ?_ _
    exact (Unanswered.refl s).of_frame ⟨rfl, rfl, rfl, rfl⟩

theorem setScreen (s : State) (ps : List Byte) : s.EffectGives (setScreenEffect ps s) := by
  unfold setScreenEffect
  split
  · exact same s _
  next o _ =>
  have hset := (Unanswered.refl s).updScreen o.screen (fun x => { x with enable := o.enable, defaultView := o.defaultView })
  have hview := fun b [Decidable b] => Unanswered.ite b (hset.recompute o.screen) hset
  exact .done (.ite _ ((hview _).disableScreen o.screen) (hview _)) _

theorem loadTrigger (s : State) (ps : List Byte) : s.EffectGives (loadTriggerEffect ps s) := by
  unfold loadTriggerEffect
  split
  · exact same s _
  · exact .done (Unanswered.recomputeBoth ((Unanswered.refl s).setSelector _)) _

theorem setLines (s : State) (ps : List Byte) : s.EffectGives (setLinesEffect ps s) := .done ((Unanswered.refl s).setLines _) _

theorem pinView (s : State) (ps : List Byte) : s.EffectGives (pinViewEffect ps s) := by
  unfold pinViewEffect
  split
  · exact same s _
  · exact .done ((Unanswered.refl s).setPin _ _) _

theorem releaseView (s : State) (ps : List Byte) : s.EffectGives (releaseViewEffect ps s) := by
  unfold releaseViewEffect
  split
  · exact same s _
  · exact .done ((Unanswered.refl s).setPin _ _) _

theorem loadProfile (s : State) (ps : List Byte) : s.EffectGives (loadProfileEffect ps s) := by
  unfold loadProfileEffect
  split
  · exact same s _
  next lp p clamped _ =>
  have hstored : s.Unanswered { s with profiles := Tab.upd s.profiles lp (fun _ => p) } :=
    (Unanswered.refl s).of_frame ⟨rfl, rfl, rfl, rfl⟩
  exact .done (.ite _ (hstored.lensEventsOfProfile lp _) (.ite _ (hstored.lensEventsOfProfile lp _) hstored)) _

theorem learn (s : State) (ps : List Byte) : s.EffectGives (learnEffect ps s) := by
  unfold learnEffect
  split
  · exact same s _
  · exact .done ((Unanswered.refl s).lensEvent _ _) _

theorem setAlert (s : State) (ps : List Byte) : s.EffectGives (setAlertEffect ps s) := by
  unfold setAlertEffect
  split
  · exact same s _
  · refine .done ?_ _
    exact (Unanswered.refl s).of_frame ⟨rfl, rfl, rfl, rfl⟩

theorem query (s : State) (ps : List Byte) : s.EffectGives (queryEffect ps s) := by
  unfold queryEffect
  dsimp only
  (repeat' split) <;> exact same s _

theorem queryZones (s : State) (ps : List Byte) : s.EffectGives (queryZonesEffect ps s) := by
  unfold queryZonesEffect
  split <;> exact same s _

theorem clearCounts (s : State) (ps : List Byte) : s.EffectGives (clearCountsEffect ps s) := by
  have hr := Unanswered.refl s
  unfold clearCountsEffect
  split
  · exact .done (hr.updHub _) _
  · next p _ =>
    refine .done ?_ _
    cases p <;> exact hr.of_frame ⟨rfl, rfl, rfl, rfl⟩
  · refine .done ?_ _
    exact hr.updChannel _ (.of_slots fun _ => rfl)
  · exact same s _

theorem baselines (s : State) (ps : List Byte) : s.EffectGives (baselinesEffect ps s) := by
  unfold baselinesEffect
  (repeat' split)
  · exact same s _
  · exact .done ((Unanswered.refl s).lensEvent _ _) _
  · exact .done ((Unanswered.refl s).lensEvent _ _) _
  · exact same s _

theorem entry (s : State) (k : EntryKind) (ps : List Byte) : s.EffectGives (k.effect ps s) := by
  cases k with
  | hub => exact hubSection s ps
  | port => exact setPort s ps
  | profile => exact loadProfile s ps
  | baselines => exact baselines s ps
  | stream => exact loadStream s ps
  | channel => exact setChannel s ps
  | view => exact loadView s ps
  | trigger => exact loadTrigger s ps
  | filterTimes => exact setLines s _
  | screen => exact setScreen s ps
  | alert => exact setAlert s ps

/-- An order is refused during the load and for its length, and has its effect otherwise (R156, R157). -/
theorem carryOut (s : State) (lengthOk : Bool) {effect : State → State × Answer} (h : s.EffectGives (effect s)) :
    s.EffectGives (s.carryOut lengthOk effect) := by
  unfold State.carryOut
  (repeat' split)
  · exact same s _
  · exact same s _
  · exact h

end State.EffectGives

/-- The next entry of the image is applied, or skipped and counted (R176). -/
theorem State.Unanswered.applyNext {s t : State} (h : s.Unanswered t) : s.Unanswered t.applyNext := by
  unfold State.applyNext
  split
  · next e todo _ =>
    have happlied : s.Unanswered (t.applyEntry e) :=
      .ite _ (h.updHub _) (h.trans (State.EffectGives.entry t e.kind e.params).unanswered)
    exact happlied.continueLoad todo
  · exact h
  · exact h
  · exact h

end Sys2Proof.Machine

/-! # Proofs: what a command makes of the order unit, the SAVE job and the flash (R156, R159 to R161, R171, R181)

`State.CommandGives` lists all that a command can make of a hub, as far as its order slots, its notice queue, its SAVE job, its boot flash
and its rows go. Each invariant of these is then kept case by case. -/

namespace Sys2Proof.Machine

/-- From `f` to `g` the flash has been erased or programmed, page 0 not but by an erase (R181). -/
structure Flash.SparesPageZero (f g : Flash) : Prop where
  canonical : Mem.wf erasedByte f.cells = true → Mem.wf erasedByte g.cells = true
  torn : g.torn = f.torn
  erased : ∀ a, a < 256 → f.read a = 255 → g.read a = 255

/-- What a command can make of a hub. -/
inductive State.CommandGives (s : State) : State → Prop
  /-- No order is answered and no SAVE job begins, goes on or ends. -/
  | unanswered {t : State} (h : s.Unanswered t) : CommandGives s t
  /-- The first-consumed PENDING order is answered. -/
  | answered {i : Fin 2} {o : HeldOrder} {r : State × Answer} (first : s.orders.firstPending = some (i, o))
      (place : s.orders.replyPlaceFree = true) (effect : s.EffectGives r) : CommandGives s (r.1.answer i o r.2)
  /-- A SAVE job begins. -/
  | saveBegun {i : Fin 2} {o : HeldOrder} (first : s.orders.firstPending = some (i, o)) (place : s.orders.replyPlaceFree = true)
      (idle : s.loader.job = none) : CommandGives s ((s.startSave i).updOrders (fun u => u.beginSaving i o))
  /-- The SAVE job goes on to a page. -/
  | saveGoesOn {j : SaveJob} {f : Flash} {phase : SavePhase} (job : s.loader.job = some j) (flash : s.flash.SparesPageZero f) :
      CommandGives s ({ s with flash := f }.setJob (some { j with phase := phase, elapsed := 0 }))
  /-- The SAVE job ends, and its order is answered. -/
  | saveEnded {j : SaveJob} {f : Flash} {drawn : Nat} {a : Answer} (job : s.loader.job = some j)
      (canonical : Mem.wf erasedByte s.flash.cells = true → Mem.wf erasedByte f.cells = true) :
      CommandGives s ({ s with flash := f, freeUsed := drawn }.endSave j a)
  /-- The hub is reset. -/
  | reset (drawn : Nat) (cause : ResetCause) (tag : Option Byte) (held : Bool) (straps : BitVec 4) :
      CommandGives s ({ s with freeUsed := drawn }.takeReset cause tag held straps)

/-! ## The flash (R181) -/

theorem Flash.read_overwrite (f : Flash) (a n : Nat) (g : Nat → Byte) (k : Nat) :
    (f.overwrite a n g).read k = if a ≤ k ∧ k < a + n then g k else f.read k := Mem.read_overwrite ..

theorem Flash.eraseDone_sparesPageZero (f : Flash) : f.SparesPageZero f.eraseDone where
  canonical := Mem.overwrite_wf _ _ _
  torn := rfl
  erased a ha _ := by
    have harea : areaBytes = 16384 := rfl
    rw [Flash.eraseDone, Flash.read_overwrite, if_pos ⟨Nat.zero_le a, by omega⟩]

theorem Flash.pageDone_sparesPageZero (f : Flash) (image : List Byte) (page : Nat) : f.SparesPageZero (f.pageDone image (page + 1)) where
  canonical := Mem.overwrite_wf _ _ _
  torn := rfl
  erased a ha he := by
    have hbytes : Config.pageBytes * (page + 1) = 256 * (page + 1) := rfl
    rw [Flash.pageDone, Flash.read_overwrite, if_neg (by omega), he]

theorem SaveJob.cut_canonical (j : SaveJob) {f : Flash} (draw : Nat) (h : Mem.wf erasedByte f.cells = true) :
    Mem.wf erasedByte (j.cut f draw).cells = true := by
  unfold SaveJob.cut
  split <;> exact Mem.overwrite_wf _ _ _ h

/-! ## The orders (R156, R157, R160, R161) -/

/-- An order command does nothing, or runs the first-consumed PENDING order when it can execute (R156). -/
theorem State.onOrder_cases (s : State) (codes : Byte → Bool) (run : Fin 2 → HeldOrder → State → State) :
    s.onOrder codes run = s ∨ ∃ i o, s.orders.firstPending = some (i, o) ∧ codes o.code = true ∧ s.canExecute o = true ∧
      s.onOrder codes run = run i o s := by
  unfold State.onOrder
  split
  · next i o hfirst =>
    split
    · next hx =>
      obtain ⟨hcode, hcan⟩ := (Bool.and_eq_true ..).mp hx
      exact .inr ⟨i, o, hfirst, hcode, hcan, rfl⟩
    · exact .inl rfl
  · exact .inl rfl

/-- An order that gives a REPLY executes only with a free reply place (R156, R161, entry 15). -/
theorem State.replyPlaceFree_of_canExecute {s : State} {o : HeldOrder} (h : s.canExecute o = true)
    (hreply : o.code ≠ resetHubCode ∨ s.loading = true ∨ o.params.isEmpty = false) : s.orders.replyPlaceFree = true := by
  unfold State.canExecute at h
  split at h
  · next hreset =>
    simp only [Bool.and_eq_true, decide_eq_true_eq, Bool.not_eq_true'] at hreset
    obtain ⟨hcode, hloaded⟩ := hreset
    rcases hreply with hne | hloading | hparams
    · exact absurd hcode hne
    · exact absurd (hloaded.symm.trans hloading) Bool.false_ne_true
    · rw [hparams] at h
      exact ((Bool.and_eq_true ..).mp h).2
  · exact h

namespace State.CommandGives

variable {s t : State}

theorem ite (b : Prop) [Decidable b] {x : State} (ht : s.CommandGives t) (hx : s.CommandGives x) :
    s.CommandGives (if b then t else x) := by
  split
  · exact ht
  · exact hx

/-- Nothing happens. -/
theorem nothing (s : State) : s.CommandGives s := .unanswered (.refl s)

theorem onOrder (s : State) (codes : Byte → Bool) {run : Fin 2 → HeldOrder → State → State}
    (h : ∀ i o, s.orders.firstPending = some (i, o) → codes o.code = true → s.canExecute o = true → s.CommandGives (run i o s)) :
    s.CommandGives (s.onOrder codes run) := by
  rcases s.onOrder_cases codes run with hidle | ⟨i, o, hfirst, hcode, hcan, hrun⟩
  · exact hidle.symm ▸ nothing s
  · exact hrun.symm ▸ h i o hfirst hcode hcan

/-- An order whose code is not that of RESET-HUB is carried out and answered. -/
theorem carriedOut (s : State) {codes : Byte → Bool} (h20 : codes resetHubCode = false) (lengthOk : HeldOrder → Bool)
    {effect : HeldOrder → State → State × Answer} (he : ∀ o, s.EffectGives (effect o s)) :
    s.CommandGives (s.onOrder codes (fun i o s =>
      (s.carryOut (lengthOk o) (effect o)).1.answer i o (s.carryOut (lengthOk o) (effect o)).2)) :=
  onOrder s _ fun _ o hfirst hcode hcan => .answered hfirst
    (s.replyPlaceFree_of_canExecute hcan (.inl fun e => Bool.false_ne_true (h20.symm.trans (e ▸ hcode))))
    (.carryOut s _ (he o))

theorem runOrder (s : State) (code : Byte) (length : Nat) {effect : List Byte → State → State × Answer} (h20 : code ≠ resetHubCode)
    (he : ∀ ps, s.EffectGives (effect ps s)) : s.CommandGives (s.runOrder code length effect) :=
  carriedOut s (codes := fun c => c = code) (decide_eq_false (Ne.symm h20)) (fun o => o.params.length = length)
    (effect := fun o => effect o.params) fun o => he o.params

theorem saveSettings (s : State) {i : Fin 2} {o : HeldOrder} (hfirst : s.orders.firstPending = some (i, o))
    (hplace : s.orders.replyPlaceFree = true) : s.CommandGives (s.saveSettings i o) := by
  have hrefused := fun r => CommandGives.answered hfirst hplace (.same s (.refused r))
  unfold State.saveSettings
  (repeat' split)
  · exact hrefused _
  · exact hrefused _
  · exact hrefused _
  · next hjob => exact .saveBegun hfirst hplace (by simpa using hjob)

theorem resetHub (s : State) {i : Fin 2} {o : HeldOrder} (hfirst : s.orders.firstPending = some (i, o)) (hcan : s.canExecute o = true) :
    s.CommandGives (s.resetHub i o) := by
  unfold State.resetHub
  split
  · next hloading => exact .answered hfirst (s.replyPlaceFree_of_canExecute hcan (.inr (.inl hloading))) (.same s _)
  · split
    · next hparams =>
      exact .answered hfirst (s.replyPlaceFree_of_canExecute hcan (.inr (.inr (by simpa using hparams)))) (.same s _)
    · exact .reset _ _ _ _ _

/-! ## The SAVE job (R181) -/

theorem failSave {j : SaveJob} (hj : s.loader.job = some j) : s.CommandGives (s.failSave j) := .saveEnded hj (j.cut_canonical _)

theorem eraseDone (s : State) : s.CommandGives s.eraseDone := by
  unfold State.eraseDone
  split
  · next j hj =>
    split
    · exact .saveGoesOn hj s.flash.eraseDone_sparesPageZero
    · exact nothing s
  · exact nothing s

theorem eraseTimeout (s : State) : s.CommandGives s.eraseTimeout := by
  unfold State.eraseTimeout
  split
  · next j hj =>
    split
    · exact failSave hj
    · exact nothing s
  · exact nothing s

theorem pageDone (s : State) : s.CommandGives s.pageDone := by
  unfold State.pageDone
  split
  · next j hj =>
    split
    · exact nothing s
    · next page _ =>
      cases page with
      | zero => exact .saveEnded (drawn := s.freeUsed) hj (Mem.overwrite_wf _ _ _)
      | succ page => exact .saveGoesOn hj (s.flash.pageDone_sparesPageZero _ page)
  · exact nothing s

theorem pageTimeout (s : State) : s.CommandGives s.pageTimeout := by
  unfold State.pageTimeout
  split
  · next j hj =>
    split
    · exact nothing s
    · exact failSave hj
  · exact nothing s

/-! ## Every command -/

theorem onCommand (s : State) (c : Instr) : s.CommandGives (s.onCommand c) := by
  have hr := Unanswered.refl s
  cases c with
  | powerOn straps => exact .reset s.freeUsed _ _ _ _
  | resetLineAsserted => exact .reset s.freeUsed _ _ _ _
  | resetLineReleased straps => exact nothing s
  | framingFault p cause bytes => exact .unanswered (hr.packetOver p bytes _ fun _ hx => hx.framingFault p cause bytes)
  | lineHeader p stream frame line =>
    exact .unanswered (.ite _ (Unanswered.takeHeader (hr.of_frame (by simp)) _ _ _ _) ((hr.setIgnoring p false).markUnformed p _))
  | packetEnd p bytes => exact .unanswered (hr.packetOver p bytes _ fun _ hx => hx.packetEnd p bytes)
  | poisonedArrival p bytes => exact .unanswered (hr.packetOver p bytes _ fun _ hx => hx.poisonedArrival p bytes)
  | linkUp p => exact .unanswered (hr.linkUp p)
  | linkDown p arrived => exact .unanswered (hr.linkDown p arrived)
  | restartHoldEnd p => exact .unanswered (hr.updRx p fun x => { x with hold := none })
  | transmissionStart u => exact .unanswered (.ite _ (hr.of_frame ⟨rfl, rfl, rfl, rfl⟩) hr)
  | transmissionEnd u => exact .unanswered (hr.of_frame (x := s.transmissionEnd u) (by simp))
  | frameAgeStale c => exact .unanswered (hr.channelEvent c Channel.keepsRows_ageStale)
  | frameAgeLost c => exact .unanswered (hr.channelEvent c Channel.keepsRows_ageLost)
  | doorLineChange d level => exact .unanswered (hr.doorChange d level)
  | filterWaitExpiry d => exact .unanswered (hr.filterExpiry d)
  | lingerExpiry n => exact .unanswered (hr.lingerExpiry n)
  | silenceExpiry => exact .unanswered hr.silenceExpiry
  | outputFrameStart sc => exact .unanswered (hr.frameStart sc)
  | pulseBoundary a => exact .unanswered (hr.of_frame ⟨rfl, rfl, rfl, rfl⟩)
  | noticeMove => exact .unanswered hr.moveNotice
  | presence => exact runOrder s 1 0 (effect := fun _ s => (s, .done false)) (by decide) fun _ => .same s _
  | setHub => exact runOrder s 2 2 (by decide) (EffectGives.setHub s)
  | setPort => exact runOrder s 3 4 (by decide) (EffectGives.setPort s)
  | restartPort => exact runOrder s 4 1 (by decide) (EffectGives.restartPort s)
  | loadStream => exact runOrder s 5 8 (by decide) (EffectGives.loadStream s)
  | setChannel => exact runOrder s 6 6 (by decide) (EffectGives.setChannel s)
  | loadView => exact carriedOut s (codes := fun c => c = 7) rfl (fun _ => true) fun o => EffectGives.loadView s o.params
  | setScreen => exact runOrder s 8 3 (by decide) (EffectGives.setScreen s)
  | loadTrigger => exact runOrder s 9 10 (by decide) (EffectGives.loadTrigger s)
  | setLines => exact runOrder s 10 11 (by decide) (EffectGives.setLines s)
  | pinView => exact runOrder s 11 3 (by decide) (EffectGives.pinView s)
  | releaseView => exact runOrder s 12 1 (by decide) (EffectGives.releaseView s)
  | loadProfile => exact runOrder s 13 13 (by decide) (EffectGives.loadProfile s)
  | learn => exact runOrder s 14 1 (by decide) (EffectGives.learn s)
  | setAlert => exact runOrder s 15 9 (by decide) (EffectGives.setAlert s)
  | query => exact runOrder s 16 3 (by decide) (EffectGives.query s)
  | queryZones => exact runOrder s 17 1 (by decide) (EffectGives.queryZones s)
  | clearCounts => exact runOrder s 18 2 (by decide) (EffectGives.clearCounts s)
  | saveSettings =>
    refine onOrder s (fun c => c = 19) (run := fun i o s => s.saveSettings i o) fun i o hfirst hcode hcan =>
      saveSettings s hfirst (s.replyPlaceFree_of_canExecute hcan (.inl ?_))
    rw [of_decide_eq_true hcode]
    decide
  | resetHub => exact onOrder s (fun c => c = resetHubCode) (run := fun i o s => s.resetHub i o) fun _ _ hfirst _ hcan => resetHub s hfirst hcan
  | badCode => exact carriedOut s (codes := fun c => !knownCode c) rfl (fun _ => true) fun _ => .same s _
  | eraseDone => exact eraseDone s
  | eraseTimeout => exact eraseTimeout s
  | pageDone => exact pageDone s
  | pageTimeout => exact pageTimeout s
  | imageJudged answers => exact .unanswered (hr.judgeLoad answers)
  | imageEntryApply => exact .unanswered hr.applyNext

theorem onCommandHeld (s : State) (c : Instr) : s.CommandGives (s.onCommandHeld c) := by
  have hr := Unanswered.refl s
  unfold State.onCommandHeld
  split
  · exact .reset s.freeUsed _ _ _ _
  · exact .unanswered ⟨.of_eq rfl rfl, rfl, rfl, id⟩
  · exact .unanswered (hr.updDoor _ _)
  · exact nothing s

/-- An invariant that operations which answer no order keep, and every other thing that a command can do, is kept by every step. -/
theorem step_keeps {P : State → Prop} (h : ∀ s t : State, s.CommandGives t → P s → P t) {s t : State} (hs : P s)
    (e : step s = .next t) : P t :=
  Machine.step_keeps (fun s _ => h s _ (.unanswered ((Unanswered.refl s).of_frame ⟨rfl, rfl, rfl, rfl⟩)))
    (fun s c _ => h s _ (onCommand s c)) (fun s c _ => h s _ (onCommandHeld s c)) (fun s => h s _ (.unanswered (.tick s))) hs e

end State.CommandGives

end Sys2Proof.Machine

/-! # Proofs: every step keeps the notice queue bounded and one entry for each key (R160, R164, R165) -/

namespace Sys2Proof.Machine

/-! ## Reply places (R160, R164) -/

/-- The reply places that a slot keeps reserved (R160). -/
def OrderSlot.reserved (x : OrderSlot) : Nat := if x.isSaving then 1 else 0

theorem OrderUnit.reservations_eq (u : OrderUnit) :
    u.reservations = (Tab.get u.slots 0).reserved + (Tab.get u.slots 1).reserved := by
  have hslots : u.slots.toList = [Tab.get u.slots 0, Tab.get u.slots 1] := by
    refine List.ext_getElem (by simp) fun n hn _ => ?_
    have h2 : n < 2 := by simpa using hn
    interval_cases n <;> simp [Tab.get]
  unfold OrderUnit.reservations OrderSlot.reserved
  rw [hslots, List.filter_cons, List.filter_cons, List.filter_nil]
  split_ifs <;> rfl

/-- A slot that changes moves the reservations by its own. -/
theorem OrderUnit.reservations_updSlot (u : OrderUnit) (q : List Notice) (i : Fin 2) (x : OrderSlot) :
    OrderUnit.reservations { u with queue := q, slots := Tab.upd u.slots i (fun _ => x) } + (Tab.get u.slots i).reserved =
      u.reservations + x.reserved := by
  rw [OrderUnit.reservations_eq, OrderUnit.reservations_eq, Tab.get_upd, Tab.get_upd]
  fin_cases i <;> simp <;> omega

theorem OrderUnit.Unanswered.reservations {u v : OrderUnit} (h : u.Unanswered v) : v.reservations = u.reservations := by
  rw [OrderUnit.reservations_eq, OrderUnit.reservations_eq, OrderSlot.reserved, OrderSlot.reserved, h.saving, h.saving]
  rfl

theorem OrderUnit.replyPlaceFree_iff (u : OrderUnit) :
    u.replyPlaceFree = true ↔ repliesWaiting u.queue + u.reservations < 2 := decide_eq_true_iff

theorem OrderUnit.Unanswered.replyPlaceFree {u v : OrderUnit} (h : u.Unanswered v) (hu : u.replyPlaceFree = true) :
    v.replyPlaceFree = true := by
  rw [OrderUnit.replyPlaceFree_iff] at hu ⊢
  rw [h.reservations]
  exact (Nat.add_le_add_right h.replies _).trans_lt hu

/-! ## The bounds of the order unit (R164) -/

/-- What `State.NoticesBounded` says of the order unit. -/
structure OrderUnit.QueueBounded (u : OrderUnit) : Prop where
  notices : noticesWaiting u.queue ≤ 30
  places : repliesWaiting u.queue + u.reservations ≤ 2
  keys : OneForEachKey u.queue

theorem State.noticesBounded_iff (s : State) : s.NoticesBounded ↔ s.orders.QueueBounded :=
  ⟨fun ⟨hnotices, hplaces, hkeys⟩ => ⟨hnotices, hplaces, hkeys⟩, fun ⟨hnotices, hplaces, hkeys⟩ => ⟨hnotices, hplaces, hkeys⟩⟩

namespace OrderUnit.QueueBounded

variable {u v : OrderUnit}

theorem unanswered (h : u.QueueBounded) (hv : u.Unanswered v) : v.QueueBounded where
  notices := hv.notices h.notices
  places := by
    rw [hv.reservations]
    exact (Nat.add_le_add_right hv.replies _).trans h.places
  keys := hv.keys h.keys

/-- A REPLY takes a place that is free, or that its own slot kept reserved. -/
theorem finish (h : u.QueueBounded) (i : Fin 2) (o : HeldOrder) (a : Answer)
    (hplace : repliesWaiting u.queue + u.reservations < 2 + (Tab.get u.slots i).reserved) : (u.finish i o a).QueueBounded where
  notices := by
    rw [OrderUnit.finish, noticesWaiting_append]
    exact h.notices
  places := by
    have hmoved := u.reservations_updSlot (u.queue ++ [.reply o.tag o.code a]) i .free
    have hfree : OrderSlot.free.reserved = 0 := rfl
    rw [OrderUnit.finish, repliesWaiting_append, Notice.isReply, if_pos rfl]
    omega
  keys := h.keys.append fun _ _ => rfl

theorem finishSaving (h : u.QueueBounded) (i : Fin 2) (a : Answer) : (u.finishSaving i a).QueueBounded := by
  unfold OrderUnit.finishSaving
  split
  · next o ho =>
    refine h.finish i o a ?_
    rw [ho]
    exact Nat.lt_succ_of_le h.places
  · exact h
  · exact h

theorem beginSaving (h : u.QueueBounded) (hplace : u.replyPlaceFree = true) (i : Fin 2) (o : HeldOrder) :
    (u.beginSaving i o).QueueBounded where
  notices := h.notices
  places := by
    have hmoved := u.reservations_updSlot u.queue i (.saving o)
    have hsaving : (OrderSlot.saving o).reserved = 1 := rfl
    have hroom := u.replyPlaceFree_iff.1 hplace
    change repliesWaiting u.queue + OrderUnit.reservations { u with slots := Tab.upd u.slots i (fun _ => .saving o) } ≤ 2
    omega
  keys := h.keys

theorem reset (cause : ResetCause) (number : Nat) : (OrderUnit.reset cause number).QueueBounded where
  notices := Nat.zero_le _
  places := by
    rw [OrderUnit.reservations_eq, OrderUnit.reset, Tab.get_replicate, Tab.get_replicate]
    exact Nat.zero_le 2
  keys := List.Pairwise.nil

end OrderUnit.QueueBounded

/-! ## The settlement -/

/-- Settles O52: by what a command can make of the order unit. A notice is offered to a queue of fewer than 30 or in place of the entry
with its key; a REPLY takes a free place, or the one that its SAVING slot kept. -/
theorem everyStepKeepsNoticesBounded : Obligations.EveryStepKeepsNoticesBounded := fun _ _ h e => by
  refine State.CommandGives.step_keeps (P := State.NoticesBounded) (fun s t ht hs => ?_) h e
  rw [State.noticesBounded_iff] at hs ⊢
  cases ht with
  | unanswered hu => exact hs.unanswered hu.orders
  | answered first place effect =>
    have hkept := effect.unanswered.orders
    have hroom := (OrderUnit.replyPlaceFree_iff _).1 (hkept.replyPlaceFree place)
    exact (hs.unanswered hkept).finish _ _ _ (Nat.lt_add_right _ hroom)
  | saveBegun first place idle => exact hs.beginSaving place _ _
  | saveGoesOn job flash => exact hs
  | saveEnded job canonical => exact hs.finishSaving _ _
  | reset drawn cause tag held straps => exact .reset cause _

end Sys2Proof.Machine

/-! # Proofs: every step keeps the SAVE job and its slot, page 0 erased meanwhile, and canonical memories (R160, R181) -/

namespace Sys2Proof.Machine

/-! ## The slot of the SAVE job (R160) -/

/-- The PENDING order that was consumed first stands in its slot (R156). -/
theorem OrderUnit.firstPending_slot {u : OrderUnit} {i : Fin 2} {o : HeldOrder} (h : u.firstPending = some (i, o)) :
    Tab.get u.slots i = .pending o := by
  unfold OrderUnit.firstPending at h
  split at h
  · next ha hb =>
    split at h
    · cases h
      exact ha
    · cases h
      exact hb
  · next ha _ =>
    cases h
    exact ha
  · next hb _ =>
    cases h
    exact hb
  · cases h

/-- The slot that is SAVING, if one is. -/
def OrderUnit.SavingIs (u : OrderUnit) (slot : Option (Fin 2)) : Prop := ∀ i, (Tab.get u.slots i).isSaving = true ↔ slot = some i

namespace OrderUnit.SavingIs

variable {u v : OrderUnit} {slot slot' : Option (Fin 2)}

theorem unanswered (h : u.SavingIs slot) (hv : u.Unanswered v) : v.SavingIs slot := fun i => by
  rw [hv.saving]
  exact h i

/-- One slot changes, and with it alone whether it is SAVING. -/
theorem updSlot (h : u.SavingIs slot) {i : Fin 2} {x : OrderSlot} (hv : v.slots = Tab.upd u.slots i (fun _ => x))
    (hx : x.isSaving = true ↔ slot' = some i) (hother : ∀ k, k ≠ i → (slot = some k ↔ slot' = some k)) : v.SavingIs slot' := fun k => by
  rw [hv, Tab.get_upd]
  split
  · next hk => rw [hk, hx]
  · next hk => exact (h k).trans (hother k hk)

/-- An order is answered whose slot is not SAVING. -/
theorem finish (h : u.SavingIs slot) {i : Fin 2} (hi : (Tab.get u.slots i).isSaving = false) (o : HeldOrder) (a : Answer) :
    (u.finish i o a).SavingIs slot :=
  h.updSlot rfl (iff_of_false nofun fun e => Bool.false_ne_true (hi.symm.trans ((h i).2 e))) fun _ _ => Iff.rfl

theorem beginSaving (h : u.SavingIs none) (i : Fin 2) (o : HeldOrder) : (u.beginSaving i o).SavingIs (some i) :=
  h.updSlot rfl (iff_of_true rfl rfl) fun _ hk => iff_of_false nofun fun e => hk (Option.some.inj e).symm

theorem finishSaving {i : Fin 2} (h : u.SavingIs (some i)) (a : Answer) : (u.finishSaving i a).SavingIs none := by
  have hsaving := (h i).2 rfl
  unfold OrderUnit.finishSaving
  split
  · exact h.updSlot rfl (iff_of_false nofun nofun) fun _ hk => iff_of_false (fun e => hk (Option.some.inj e).symm) nofun
  · next ho =>
    rw [ho] at hsaving
    cases hsaving
  · next ho =>
    rw [ho] at hsaving
    cases hsaving

theorem reset (cause : ResetCause) (number : Nat) : (OrderUnit.reset cause number).SavingIs none := fun i => by
  rw [OrderUnit.reset, Tab.get_replicate]
  exact iff_of_false nofun nofun

end OrderUnit.SavingIs

/-! ## Page 0 while the job lasts (R181) -/

/-- Page 0 reads as erased, and is not partly programmed. -/
def Flash.PageZeroErased (f : Flash) : Prop := f.torn = false ∧ ∀ a, a < 256 → f.read a = 255

theorem Flash.pageZeroErased_eraseStarted (f : Flash) : f.eraseStarted.PageZeroErased :=
  ⟨rfl, fun a ha => (f.read_overwrite ..).trans (if_pos ⟨Nat.zero_le a, by have : Config.pageBytes = 256 := rfl; omega⟩)⟩

theorem Flash.PageZeroErased.spared {f g : Flash} (h : f.PageZeroErased) (hg : f.SparesPageZero g) : g.PageZeroErased := by
  obtain ⟨htorn, herased⟩ := h
  exact ⟨hg.torn.trans htorn, fun a ha => hg.erased a ha (herased a ha)⟩

/-! ## The SAVE job and the memories -/

/-- The SAVE job, its slot, page 0 and the memories stand as they must. -/
structure State.SaveStands (s : State) : Prop where
  saving : s.orders.SavingIs (s.loader.job.map SaveJob.slot)
  erased : s.loader.job.isSome = true → s.flash.PageZeroErased
  cells : Mem.wf erasedByte s.flash.cells = true
  rows : s.RowsCanonical

theorem State.saveStands_iff (s : State) : s.SaveStands ↔ s.SaveJobConsistent ∧ s.MemoryCanonical := by
  have hslot : ∀ i, s.loader.job.map SaveJob.slot = some i ↔ ∃ j, s.loader.job = some j ∧ j.slot = i := fun _ => Option.map_eq_some_iff
  constructor
  · rintro ⟨hsaving, herased, hcells, hrows⟩
    exact ⟨⟨fun i => (hsaving i).trans (hslot i), herased⟩, hcells, hrows⟩
  · rintro ⟨⟨hsaving, herased⟩, hcells, hrows⟩
    exact ⟨fun i => (hsaving i).trans (hslot i).symm, herased, hcells, hrows⟩

namespace State.SaveStands

variable {s t : State}

theorem unanswered (h : s.SaveStands) (ht : s.Unanswered t) : t.SaveStands where
  saving := by
    rw [ht.job]
    exact h.saving.unanswered ht.orders
  erased hj := by
    rw [← Option.isSome_map (f := SaveJob.slot), ht.job, Option.isSome_map] at hj
    exact ht.flash ▸ h.erased hj
  cells := ht.flash ▸ h.cells
  rows := ht.rows h.rows

theorem answer (h : s.SaveStands) {i : Fin 2} (hi : (Tab.get s.orders.slots i).isSaving = false) (o : HeldOrder) (a : Answer) :
    (s.answer i o a).SaveStands := ⟨h.saving.finish hi o a, h.erased, h.cells, h.rows⟩

theorem takeReset (h : s.SaveStands) (drawn : Nat) (cause : ResetCause) (tag : Option Byte) (held : Bool) (straps : BitVec 4) :
    ({ s with freeUsed := drawn }.takeReset cause tag held straps).SaveStands where
  saving := OrderUnit.SavingIs.reset cause _
  erased := nofun
  cells := by
    unfold State.takeReset
    cases s.loader.job with
    | none => exact h.cells
    | some j => exact j.cut_canonical _ h.cells
  rows c := by
    rw [State.takeReset, State.channel_resetWith]
    exact fun i => congrArg (fun sl : Slot => Mem.wf blankRow sl.rows) (Tab.get_replicate ..)

/-- Whatever a command makes of the hub keeps the SAVE job and the memories. -/
theorem commandGives (h : s.SaveStands) (ht : s.CommandGives t) : t.SaveStands := by
  cases ht with
  | unanswered hu => exact h.unanswered hu
  | answered first place effect =>
    have hkept := effect.unanswered
    refine (h.unanswered hkept).answer ?_ _ _
    rw [hkept.orders.saving, OrderUnit.firstPending_slot first]
    rfl
  | saveBegun first place idle =>
    have hsaving := h.saving
    rw [idle] at hsaving
    exact ⟨hsaving.beginSaving _ _, fun _ => s.flash.pageZeroErased_eraseStarted, Mem.overwrite_wf _ _ _ h.cells, h.rows⟩
  | saveGoesOn job flash =>
    have hsaving := h.saving
    rw [job] at hsaving
    exact ⟨hsaving, fun _ => (h.erased (job ▸ rfl)).spared flash, flash.canonical h.cells, h.rows⟩
  | saveEnded job canonical =>
    have hsaving := h.saving
    rw [job] at hsaving
    exact ⟨hsaving.finishSaving _, nofun, canonical h.cells, h.rows⟩
  | reset drawn cause tag held straps => exact h.takeReset _ _ _ _ _

end State.SaveStands

/-- Settles O60: by what a command can make of the SAVE job, its slot, the flash and the rows. -/
theorem everyStepKeepsSaveJobAndMemory : Obligations.EveryStepKeepsSaveJobAndMemory := fun s t hsave hmemory e =>
  t.saveStands_iff.1
    (State.CommandGives.step_keeps (fun _ _ ht hs => State.SaveStands.commandGives hs ht) (s.saveStands_iff.2 ⟨hsave, hmemory⟩) e)

end Sys2Proof.Machine

/-! # Proofs: NOTICE_MOVE (R159, R166 to R168, entries 14, 41) -/

namespace Sys2Proof.Machine

/-! ## The trunks that the head enters (R168) -/

/-- A trunk that can take a notice: its link is UP and its management queue has a place. -/
def State.TakesNotice (s : State) (u : Trunk) : Prop := s.trunkUp u = true ∧ (s.out u).mgmt.length < 8

theorem State.mgmtRoom_iff (s : State) (u : Trunk) : s.mgmtRoom u = true ↔ s.TakesNotice u := by
  rw [State.mgmtRoom, Bool.and_eq_true, decide_eq_true_eq, State.TakesNotice]

theorem State.mgmtRoom_of_down {s : State} {u : Trunk} (h : s.trunkUp u = false) : s.mgmtRoom u = false := by
  rw [State.mgmtRoom, h, Bool.false_and]

/-- A trunk is the only one that the head may enter: the controller side is its own, or BOTH while the other link is DOWN. -/
def State.OnlyTrunk (s : State) (u : Trunk) : Prop :=
  s.orders.hub.side = .ofTrunk u ∨ (s.orders.hub.side = .both ∧ s.trunkUp u.other = false)

theorem State.noticeTargets_of_only {s : State} {u : Trunk} (h : s.OnlyTrunk u) :
    s.noticeTargets = if s.mgmtRoom u then [u] else [] := by
  unfold State.noticeTargets
  rcases h with hside | ⟨hside, hdown⟩
  · cases u <;> rw [hside] <;> rfl
  · have hroom := State.mgmtRoom_of_down hdown
    cases u with
    | ta => simp only [hside, show s.trunkUp .tb = false from hdown, show s.mgmtRoom .tb = false from hroom]; simp
    | tb => simp only [hside, show s.trunkUp .ta = false from hdown, show s.mgmtRoom .ta = false from hroom]; simp

theorem State.noticeTargets_of_both {s : State} (hside : s.orders.hub.side = .both) (hta : s.trunkUp .ta = true)
    (htb : s.trunkUp .tb = true) : s.noticeTargets = if s.mgmtRoom .ta && s.mgmtRoom .tb then [.ta, .tb] else [] := by
  rw [State.noticeTargets, hside, hta, htb]
  rfl

theorem State.noticeTargets_of_down {s : State} (hta : s.trunkUp .ta = false) (htb : s.trunkUp .tb = false) : s.noticeTargets = [] := by
  rw [State.noticeTargets, State.mgmtRoom_of_down hta, State.mgmtRoom_of_down htb, hta]
  cases s.orders.hub.side <;> rfl

/-! ## The move (R166, R168) -/

/-- The hub with a notice at the tail of a management queue, numbered and counted as the hub record `hub` stands. -/
def State.noticeEnters (s : State) (n : Notice) (hub : HubRecord) (u : Trunk) : State :=
  s.updOut u (fun o => { o with mgmt := o.mgmt ++ [⟨n.packet hub, none⟩] })

section
variable {s : State} {n : Notice} {rest : List Notice}

theorem State.moveNotice_of_targets (hq : s.orders.queue = n :: rest) {u : Trunk} {us : List Trunk} (h : s.noticeTargets = u :: us) :
    s.moveNotice = (u :: us).foldl (fun x v => x.noticeEnters n s.orders.hub v) { s with orders := { s.orders with queue := rest } } := by
  rw [State.moveNotice, hq, h]
  rfl

theorem State.moveNotice_of_no_target (h : s.noticeTargets = []) : s.moveNotice = s := by
  rw [State.moveNotice, h]
  cases s.orders.queue <;> rfl

theorem State.moveNotice_of_empty (hq : s.orders.queue = []) : s.moveNotice = s := by
  rw [State.moveNotice, hq]

end

/-- Settles O41: the trunks by `State.noticeTargets`, the bytes by the fields of each kind. -/
theorem noticesMoveBySide : Obligations.NoticesMoveBySide := by
  refine ⟨fun s n rest hheld hq => ?_, fun s hheld hq => ?_, ?_⟩
  · have hexec := exec_of_running hheld .noticeMove
    have hstays : s.noticeTargets = [] → exec .noticeMove s = .next s := fun h =>
      hexec.trans (congrArg Host.Outcome.next (State.moveNotice_of_no_target h))
    have hmoves : ∀ {u us}, s.noticeTargets = u :: us → exec .noticeMove s = .next ((u :: us).foldl
        (fun x v => x.noticeEnters n s.orders.hub v) { s with orders := { s.orders with queue := rest } }) := fun h =>
      hexec.trans (congrArg Host.Outcome.next (State.moveNotice_of_targets hq h))
    have honly : ∀ {u : Trunk}, (s.orders.hub.side = (match u with | .ta => Side.ta | .tb => Side.tb) ∨
        (s.orders.hub.side = .both ∧ s.trunkUp u.other = false)) → s.OnlyTrunk u := fun {u} h => by
      cases u <;> exact h
    refine ⟨fun u hu hroom => ?_, fun u hu hroom _ => ?_, fun hside hta htb => ?_, fun hside hta htb hroom => ?_, fun hta htb => ?_⟩
    · exact hmoves ((State.noticeTargets_of_only (honly hu)).trans (if_pos ((s.mgmtRoom_iff u).2 hroom)))
    · exact hstays ((State.noticeTargets_of_only (honly hu)).trans (if_neg fun h => hroom ((s.mgmtRoom_iff u).1 h)))
    · refine hmoves ((State.noticeTargets_of_both hside hta.1 htb.1).trans (if_pos ?_))
      rw [(s.mgmtRoom_iff .ta).2 hta, (s.mgmtRoom_iff .tb).2 htb]
      rfl
    · refine hstays ((State.noticeTargets_of_both hside hta htb).trans (if_neg fun h => hroom ?_))
      obtain ⟨ha, hb⟩ := (Bool.and_eq_true ..).mp h
      exact ⟨(s.mgmtRoom_iff .ta).1 ha, (s.mgmtRoom_iff .tb).1 hb⟩
    · exact hstays (State.noticeTargets_of_down hta htb)
  · exact (exec_of_running hheld .noticeMove).trans (congrArg Host.Outcome.next (State.moveNotice_of_empty hq))
  · intro h sent b
    refine ⟨fun _ _ _ => rfl, fun _ _ _ _ _ => rfl, fun _ _ r => ?_, fun _ _ => rfl, fun _ cause image _ _ => ?_, fun _ => rfl,
      fun _ _ _ _ => rfl, fun _ _ _ => rfl, fun _ _ _ src => ?_, fun _ _ _ => rfl, fun _ _ => rfl, fun _ _ => rfl,
      fun _ => ⟨rfl, rfl, rfl⟩⟩
    · cases r <;> rfl
    · cases cause <;> cases image <;> rfl
    · cases src <;> rfl

end Sys2Proof.Machine

/-! # Proofs: RESET-HUB after the load (R161, R171, R172, R182) -/

namespace Sys2Proof.Machine

/-! ## The copy of a broadcast (R161) -/

/-- An output holds the copy of an order in its management queue, or under way on its link. -/
theorem Output.holdsCopy_iff (o : Output) (seq : Nat) :
    o.holdsCopy seq = true ↔ (∃ e ∈ o.mgmt, e.copyOf = some seq) ∨ ∃ p, o.sending = .sending p (some seq) := by
  unfold Output.holdsCopy
  simp only [Bool.or_eq_true, List.any_eq_true, decide_eq_true_eq]
  refine or_congr_right ?_
  cases o.sending with
  | idle => exact iff_of_false nofun nofun
  | cutting source => exact iff_of_false nofun nofun
  | sending p copyOf => simp

/-- The copy that a broadcast forwarded stands at the output it was offered to (R161). -/
def State.CopyStands (s : State) (o : HeldOrder) : Prop :=
  o.broadcast = true ∧ ((∃ e ∈ (s.out o.arrival.other).mgmt, e.copyOf = some o.seq) ∨
    ∃ p, (s.out o.arrival.other).sending = .sending p (some o.seq))

theorem State.copyGone_iff (s : State) (o : HeldOrder) : s.copyGone o = true ↔ ¬ s.CopyStands o := by
  rw [State.CopyStands, ← Output.holdsCopy_iff, State.copyGone, ← Bool.and_eq_true, Bool.not_eq_true, Bool.and_eq_false_iff,
    Bool.or_eq_true, Bool.not_eq_true', Bool.not_eq_true']

/-- After the load a RESET-HUB without parameters executes once its copy is gone (R161). -/
theorem State.canExecute_resetHub {s : State} {o : HeldOrder} (hready : s.loader.phase = .ready) (hcode : o.code = 20)
    (hparams : o.params = []) : s.canExecute o = s.copyGone o := by
  simp [State.canExecute, State.loading, hready, hcode, hparams]

/-! ## The reset (R171, R172, R182) -/

/-- What a reset leaves: the reset exit's strap levels and tag, the pins, and the boot flash unless it abandons a SAVE job. -/
theorem State.takeReset_frame (s : State) (cause : ResetCause) (tag : Option Byte) (held : Bool) (straps : BitVec 4) :
    let t := s.takeReset cause tag held straps
    t.held = held ∧ t.loader.resetTag = tag ∧ t.straps = straps ∧ (∀ d, (t.door d).raw = (s.door d).raw) ∧
      (s.loader.job = none → t.flash = s.flash) ∧ t.pending = s.pending := by
  have hraw := fun flash drawn d =>
    (congrArg DoorLine.raw (State.door_resetWith cause tag held straps (s.selector.doors.map DoorLine.raw) flash drawn s.pending d)).trans
      (Tab.get_map s.selector.doors DoorLine.raw d)
  unfold State.takeReset
  cases hjob : s.loader.job with
  | none => exact ⟨rfl, rfl, rfl, hraw _ _, fun _ => rfl, rfl⟩
  | some j => exact ⟨rfl, rfl, rfl, hraw _ _, nofun, rfl⟩

/-- Settles O6: the order executes just when its copy is gone, and then is the reset itself. -/
theorem resetHubResetsAndKeepsTag : Obligations.ResetHubResetsAndKeepsTag := by
  unfold Obligations.ResetHubResetsAndKeepsTag
  intro s i o hrun hready hfirst hcode hparams
  have hcan := State.canExecute_resetHub hready hcode hparams
  have hexec : exec .resetHub s = .next (if s.copyGone o then s.resetHub i o else s) := by
    rw [exec_of_running hrun]
    simp [State.onCommand, State.onOrder, hfirst, hcode, hcan]
  refine ⟨fun hgone => ?_, fun hstands => ?_⟩
  · rw [hexec, if_pos ((s.copyGone_iff o).2 hgone)]
    have hreset : s.resetHub i o =
        { s with freeUsed := s.freeUsed + 1 }.takeReset .order (some o.tag) false (Config.strapLevels s.freeUsed) := by
      simp [State.resetHub, State.loading, hready, hparams]
    obtain ⟨hheld, htag, hstraps, hraw, hflash, hpending⟩ :=
      State.takeReset_frame { s with freeUsed := s.freeUsed + 1 } .order (some o.tag) false (Config.strapLevels s.freeUsed)
    exact ⟨_, congrArg _ hreset, State.takeReset_atReset .., hheld, htag, hstraps, hraw, hflash, hpending⟩
  · rw [hexec, if_neg fun h => (s.copyGone_iff o).1 h hstands]

end Sys2Proof.Machine

/-! # Proofs: refused orders (R156, R157, R159) -/

namespace Sys2Proof.Machine

/-! ## The answers that every order can have (R156, R157) -/

/-- The parameter lengths of R157, by code; LOAD-VIEW alone has no fixed one. -/
def orderLengths : List (Nat × Nat) :=
  [(1, 0), (2, 2), (3, 4), (4, 1), (5, 8), (6, 6), (8, 3), (9, 10), (10, 11), (11, 3), (12, 1), (13, 13), (14, 1), (15, 9), (16, 3),
    (17, 1), (18, 2), (19, 0)] ++ [(20, 0)]

theorem orderLengths_lookup_of_unknown {k : Nat} (h : k = 0 ∨ 20 < k) : orderLengths.lookup k = none := by
  have hknown : ∀ e ∈ orderLengths, 1 ≤ e.1 ∧ e.1 ≤ 20 := by decide
  refine List.lookup_eq_none_iff.2 fun e he => ?_
  have := hknown e he
  exact bne_iff_ne.2 (by omega)

/-- A command under which an order of a code is refused for the load and for its length. -/
structure AnswersOrder (c : Instr) (code : Byte) : Prop where
  starting : ∀ {s : State} {i : Fin 2} {o : HeldOrder}, o.code = code → s.orders.firstPending = some (i, o) → s.canExecute o = true →
    s.loading = true → s.onCommand c = s.replied i o (.refused .starting)
  badField : ∀ {s : State} {i : Fin 2} {o : HeldOrder}, o.code = code → s.orders.firstPending = some (i, o) → s.canExecute o = true →
    s.loading = false → ∀ {n : Nat}, orderLengths.lookup code.toNat = some n → o.params.length ≠ n →
      s.onCommand c = s.replied i o (.refused .badField)

theorem State.onOrder_of_canExecute {s : State} {i : Fin 2} {o : HeldOrder} {codes : Byte → Bool}
    (hfirst : s.orders.firstPending = some (i, o)) (hcode : codes o.code = true) (hcan : s.canExecute o = true)
    (run : Fin 2 → HeldOrder → State → State) : s.onOrder codes run = run i o s := by
  simp [State.onOrder, hfirst, hcode, hcan]

namespace AnswersOrder

variable {c : Instr} {code : Byte}

theorem of_onOrder {codes : Byte → Bool} {run : Fin 2 → HeldOrder → State → State} (hc : ∀ s : State, s.onCommand c = s.onOrder codes run)
    (hcode : codes code = true) (hstarting : ∀ i o s, s.loading = true → run i o s = s.replied i o (.refused .starting))
    (hbad : ∀ i o s, s.loading = false → ∀ n, orderLengths.lookup code.toNat = some n → o.params.length ≠ n →
      run i o s = s.replied i o (.refused .badField)) : AnswersOrder c code where
  starting := by
    rintro s i o rfl hfirst hcan hl
    rw [hc, s.onOrder_of_canExecute hfirst hcode hcan, hstarting i o s hl]
  badField := by
    rintro s i o rfl hfirst hcan hl n hn hne
    rw [hc, s.onOrder_of_canExecute hfirst hcode hcan, hbad i o s hl n hn hne]

/-- An order that is carried out: its length may be left to its effect. -/
theorem of_carryOut {codes : Byte → Bool} {lengthOk : HeldOrder → Bool} {effect : HeldOrder → State → State × Answer}
    (hc : ∀ s : State, s.onCommand c = s.onOrder codes (fun i o s =>
      (s.carryOut (lengthOk o) (effect o)).1.answer i o (s.carryOut (lengthOk o) (effect o)).2))
    (hcode : codes code = true) (hlength : ∀ n, orderLengths.lookup code.toNat = some n → ∀ o, o.params.length ≠ n → lengthOk o = false) :
    AnswersOrder c code := by
  refine of_onOrder hc hcode (fun i o s hl => ?_) fun i o s hl n hn hne => ?_
  · rw [State.carryOut, if_pos hl, State.answer_eq_replied]
  · rw [State.carryOut, if_neg (ne_true_of_eq_false hl), hlength n hn o hne, Bool.not_false, if_pos rfl, State.answer_eq_replied]

theorem of_runOrder (k : Byte) (n : Nat) {effect : List Byte → State → State × Answer} (hcode : code.toNat = k.toNat)
    (hn : orderLengths.lookup k.toNat = some n) (hc : ∀ s : State, s.onCommand c = s.runOrder k n effect) : AnswersOrder c code := by
  obtain rfl := BitVec.eq_of_toNat_eq hcode
  refine of_carryOut (lengthOk := fun o => o.params.length = n) (effect := fun o => effect o.params) hc (decide_eq_true rfl)
    fun m hm o hne => decide_eq_false fun e => hne (e.trans (Option.some.inj (hn.symm.trans hm)))

/-- SAVE-SETTINGS and RESET-HUB judge the load and their length as the others do. -/
theorem of_noParams (k : Byte) {run : Fin 2 → HeldOrder → State → State} (hcode : code.toNat = k.toNat)
    (hn : orderLengths.lookup k.toNat = some 0) (hc : ∀ s : State, s.onCommand c = s.onOrder (fun c => c = k) run)
    {accepted : Fin 2 → HeldOrder → State → State}
    (hrun : ∀ i o s, run i o s = if s.loading then s.replied i o (.refused .starting)
      else if !o.params.isEmpty then s.replied i o (.refused .badField) else accepted i o s) : AnswersOrder c code := by
  obtain rfl := BitVec.eq_of_toNat_eq hcode
  refine of_onOrder hc (decide_eq_true rfl) (fun i o s hl => ?_) fun i o s hl n hm hne => ?_
  · rw [hrun, if_pos hl]
  · obtain rfl := Option.some.inj (hn.symm.trans hm)
    have hparams : (!o.params.isEmpty) = true := by simpa using hne
    rw [hrun, if_neg (ne_true_of_eq_false hl), if_pos hparams]

end AnswersOrder

theorem orderCommand_answersOrder (code : Byte) : AnswersOrder (orderCommand code) code := by
  unfold orderCommand
  split
  next h => exact .of_runOrder 1 0 (effect := fun _ s => (s, .done false)) h rfl fun _ => rfl
  next h => exact .of_runOrder 2 2 h rfl fun _ => rfl
  next h => exact .of_runOrder 3 4 h rfl fun _ => rfl
  next h => exact .of_runOrder 4 1 h rfl fun _ => rfl
  next h => exact .of_runOrder 5 8 h rfl fun _ => rfl
  next h => exact .of_runOrder 6 6 h rfl fun _ => rfl
  next h =>
    exact .of_carryOut (codes := fun c => c = 7) (lengthOk := fun _ => true) (fun _ => rfl)
      (decide_eq_true (BitVec.eq_of_toNat_eq h)) fun n hn => nomatch (h ▸ hn : orderLengths.lookup 7 = some n)
  next h => exact .of_runOrder 8 3 h rfl fun _ => rfl
  next h => exact .of_runOrder 9 10 h rfl fun _ => rfl
  next h => exact .of_runOrder 10 11 h rfl fun _ => rfl
  next h => exact .of_runOrder 11 3 h rfl fun _ => rfl
  next h => exact .of_runOrder 12 1 h rfl fun _ => rfl
  next h => exact .of_runOrder 13 13 h rfl fun _ => rfl
  next h => exact .of_runOrder 14 1 h rfl fun _ => rfl
  next h => exact .of_runOrder 15 9 h rfl fun _ => rfl
  next h => exact .of_runOrder 16 3 h rfl fun _ => rfl
  next h => exact .of_runOrder 17 1 h rfl fun _ => rfl
  next h => exact .of_runOrder 18 2 h rfl fun _ => rfl
  next h => exact .of_noParams 19 h rfl (fun _ => rfl) fun _ _ _ => rfl
  next h => exact .of_noParams 20 h rfl (fun _ => rfl) fun _ _ _ => rfl
  next h =>
    have hunknown : code.toNat = 0 ∨ 20 < code.toNat := by grind
    refine .of_carryOut (codes := fun c => !knownCode c) (lengthOk := fun _ => true) (fun _ => rfl) ?_ fun n hn => ?_
    · simpa [knownCode] using hunknown
    · rw [orderLengths_lookup_of_unknown hunknown] at hn
      cases hn

/-- With a free reply place every order but a RESET-HUB that waits for its copy executes (R156, R161). -/
theorem State.canExecute_of_place {s : State} {o : HeldOrder} (hplace : s.orders.replyPlaceFree = true)
    (hwait : o.code ≠ resetHubCode ∨ s.loading = true ∨ o.broadcast = false) : s.canExecute o = true := by
  unfold State.canExecute State.copyGone
  rw [hplace]
  split
  · next hreset =>
    simp only [Bool.and_eq_true, decide_eq_true_eq, Bool.not_eq_true'] at hreset
    obtain ⟨hcode, hloaded⟩ := hreset
    simpa [hcode, hloaded] using Or.inl (by simpa [hcode, hloaded] using hwait)
  · rfl

/-! ## An order that is refused (R159) -/

/-- The end of a SAVE job answers no PENDING order (R160). -/
theorem OrderUnit.finishSaving_slot_of_pending {u : OrderUnit} {i : Fin 2} {o : HeldOrder} (h : Tab.get u.slots i = .pending o) (k : Fin 2)
    (a : Answer) : Tab.get (u.finishSaving k a).slots i = .pending o := by
  unfold OrderUnit.finishSaving
  split
  · next hk =>
    have hne : i ≠ k := by
      rintro rfl
      cases h.symm.trans hk
    rw [OrderUnit.finish, Tab.get_upd, if_neg hne, h]
  · exact h
  · exact h

/-- A FREE slot and a refusal at the tail of the queue, where an order was PENDING, are what a refused order leaves: nothing else has
changed. -/
theorem State.CommandGives.eq_replied {s t : State} {i : Fin 2} {o : HeldOrder} {reason : RefusedReason} (h : s.CommandGives t)
    (hfirst : s.orders.firstPending = some (i, o)) (hfree : Tab.get t.orders.slots i = .free)
    (hlast : t.orders.queue.getLast? = some (.reply o.tag o.code (.refused reason))) : t = s.replied i o (.refused reason) := by
  have hpending := OrderUnit.firstPending_slot hfirst
  have hanswered : Tab.get t.orders.slots i ≠ .pending o := by
    rw [hfree]
    exact nofun
  cases h with
  | unanswered h => exact absurd ((h.orders.stays i (hpending ▸ nofun)).trans hpending) hanswered
  | @answered k x r first place effect =>
    obtain ⟨rfl, rfl⟩ := Prod.mk.inj (Option.some.inj (first.symm.trans hfirst))
    rw [State.answer_eq_replied, State.replied_queue, List.getLast?_concat] at hlast
    have hrefused : r.2 = .refused reason := (Notice.reply.inj (Option.some.inj hlast)).2.2
    rw [State.answer_eq_replied, effect.refused reason hrefused, hrefused]
  | saveBegun first place idle =>
    obtain ⟨rfl, rfl⟩ := Prod.mk.inj (Option.some.inj (first.symm.trans hfirst))
    have hsaving : Tab.get (Tab.upd s.orders.slots _ _) _ = OrderSlot.free := hfree
    rw [Tab.get_upd, if_pos rfl] at hsaving
    cases hsaving
  | saveGoesOn job flash => exact absurd hpending hanswered
  | saveEnded job canonical => exact absurd (OrderUnit.finishSaving_slot_of_pending hpending _ _) hanswered
  | reset drawn cause tag held straps => cases hlast

/-- Settles O45: each code's command judges the load and the length first, and a refusal is the answer of an effect that does nothing. -/
theorem refusedOrdersOnlyReply : Obligations.RefusedOrdersOnlyReply := by
  unfold Obligations.RefusedOrdersOnlyReply
  intro s i o hrun hfirst hplace
  have hanswers := orderCommand_answersOrder o.code
  have hloading : s.loading = true ↔ s.loader.phase ≠ .ready := by simp [State.loading]
  have hloaded : s.loader.phase = .ready → s.loading = false := by simp [State.loading]
  have hbad : s.loader.phase = .ready → (o.code ≠ resetHubCode ∨ s.loading = true ∨ o.broadcast = false) → ∀ n,
      orderLengths.lookup o.code.toNat = some n → o.params.length ≠ n →
        exec (orderCommand o.code) s = .next (s.replied i o (.refused .badField)) := fun hready hwait n hn hne => by
    rw [exec_of_running hrun, hanswers.badField rfl hfirst (s.canExecute_of_place hplace hwait) (hloaded hready) hn hne]
  refine ⟨fun hnot => ?_, fun hready n hn hne => ?_, fun hready hcode hsingle hparams => ?_, fun t reason hexec hfree hlast => ?_⟩
  · have hl := hloading.2 hnot
    rw [exec_of_running hrun, hanswers.starting rfl hfirst (s.canExecute_of_place hplace (.inr (.inl hl))) hl]
  · refine hbad hready (.inl fun hcode => ?_) n ?_ hne
    · rw [hcode] at hn
      cases hn
    · rw [orderLengths, List.lookup_append, hn, Option.some_or]
  · have hcommand : orderCommand o.code = .resetHub := by rw [hcode]; rfl
    exact hcommand ▸ hbad hready (.inr (.inr hsingle)) 0 (by rw [hcode]; rfl) (by simpa using hparams)
  · rw [exec_of_running hrun] at hexec
    cases hexec
    exact (State.CommandGives.onCommand s _).eq_replied hfirst hfree hlast

end Sys2Proof.Machine

/-! # Proofs: SAVE-SETTINGS to its end (R160, R180, R181) -/

namespace Sys2Proof.Machine

/-! ## What the flash reads (R181) -/

theorem Flash.read_overwrite_start (f : Flash) (n : Nat) (g : Nat → Byte) (a : Nat) :
    (f.overwrite 0 n g).read a = if a < n then g a else f.read a := by
  rw [Flash.read_overwrite]
  simp

theorem Flash.read_eraseStarted (f : Flash) (a : Nat) : f.eraseStarted.read a = if a < 256 then 255 else f.read a :=
  f.read_overwrite_start ..

theorem Flash.read_eraseDone (f : Flash) (a : Nat) : f.eraseDone.read a = if a < 16384 then 255 else f.read a :=
  f.read_overwrite_start ..

theorem Flash.read_pageDone (f : Flash) (image : List Byte) (page a : Nat) : (f.pageDone image page).read a =
    if 256 * page ≤ a ∧ a < 256 * page + 256 then image.getD a 255 else f.read a := f.read_overwrite ..

/-! ## The job (R160, R181) -/

theorem State.saveSettings_of_loaded {s : State} {o : HeldOrder} (hready : s.loader.phase = .ready) (hparams : o.params = []) (i : Fin 2) :
    s.saveSettings i o = if s.loader.job.isSome then s.replied i o (.refused .busy)
      else (s.startSave i).updOrders (fun u => u.beginSaving i o) := by
  simp [State.saveSettings, State.loading, hready, hparams, State.answer_eq_replied]

theorem State.Executes.exec_saveSettings {s : State} {i : Fin 2} {o : HeldOrder} (h : s.Executes i o 19 []) :
    exec .saveSettings s = .next (if s.loader.job.isSome then s.replied i o (.refused .busy)
      else (s.startSave i).updOrders (fun u => u.beginSaving i o)) := by
  rw [exec_of_running h.running, State.onCommand, h.onOrder rfl (by decide), State.saveSettings_of_loaded h.loaded h.carries]

/-- The job that ends answers the order of its SAVING slot. -/
theorem State.endSave_of_saving {s : State} {j : SaveJob} {o : HeldOrder} (hslot : Tab.get s.orders.slots j.slot = .saving o) (a : Answer) :
    s.endSave j a = (s.setJob none).replied j.slot o a := by
  have hfinish : s.orders.finishSaving j.slot a = s.orders.finish j.slot o a := by rw [OrderUnit.finishSaving, hslot]
  exact congrArg (fun u => { s.setJob none with orders := u }) hfinish

section
variable {s : State} {j : SaveJob}

theorem State.eraseDone_of_erasing (hj : s.loader.job = some j) (hphase : j.phase = .erasing) :
    s.eraseDone = { s with flash := s.flash.eraseDone }.setJob (some { j with phase := .programming (lastPage j.snapshot), elapsed := 0 }) := by
  simp [State.eraseDone, hj, hphase]

theorem State.eraseDone_of_programming {page : Nat} (hj : s.loader.job = some j) (hphase : j.phase = .programming page) :
    s.eraseDone = s := by simp [State.eraseDone, hj, hphase]

theorem State.pageDone_of_erasing (hj : s.loader.job = some j) (hphase : j.phase = .erasing) : s.pageDone = s := by
  simp [State.pageDone, hj, hphase]

theorem State.pageDone_of_page_succ {p : Nat} (hj : s.loader.job = some j) (hphase : j.phase = .programming (p + 1)) :
    s.pageDone = { s with flash := s.flash.pageDone j.snapshot (p + 1) }.setJob (some { j with phase := .programming p, elapsed := 0 }) := by
  simp [State.pageDone, hj, hphase]

theorem State.pageDone_of_page_zero {o : HeldOrder} (hj : s.loader.job = some j) (hphase : j.phase = .programming 0)
    (hslot : Tab.get s.orders.slots j.slot = .saving o) :
    s.pageDone = ({ s with flash := s.flash.pageDone j.snapshot 0 }.setJob none).replied j.slot o (.done false) := by
  rw [← State.endSave_of_saving (s := { s with flash := s.flash.pageDone j.snapshot 0 }) hslot]
  simp [State.pageDone, hj, hphase]

end

/-- Settles O46: one equation for each report at each phase of the job. -/
theorem saveRunsToItsEnd : Obligations.SaveRunsToItsEnd := by
  unfold Obligations.SaveRunsToItsEnd
  refine ⟨fun s i o h => ⟨fun hjob => ?_, fun hidle => ?_⟩, fun s j hrun hj => ⟨fun hphase => ?_, fun page hphase => ?_⟩⟩
  · rw [h.exec_saveSettings, if_pos hjob]
  · refine ⟨s.flash.eraseStarted, rfl, s.flash.read_eraseStarted, ?_⟩
    rw [h.exec_saveSettings, hidle]
    rfl
  · refine ⟨?_, s.flash.eraseDone, rfl, s.flash.read_eraseDone, ?_⟩
    · rw [exec_of_running hrun]
      exact congrArg _ (State.pageDone_of_erasing hj hphase)
    · rw [exec_of_running hrun]
      exact congrArg _ (State.eraseDone_of_erasing hj hphase)
  · refine ⟨?_, s.flash.pageDone j.snapshot page, rfl, s.flash.read_pageDone j.snapshot page, ?_, ?_⟩
    · rw [exec_of_running hrun]
      exact congrArg _ (State.eraseDone_of_programming hj hphase)
    · rintro p rfl
      rw [exec_of_running hrun]
      exact congrArg _ (State.pageDone_of_page_succ hj hphase)
    · rintro o rfl hslot
      rw [exec_of_running hrun]
      exact congrArg _ (State.pageDone_of_page_zero hj hphase hslot)

end Sys2Proof.Machine
